-- ==== Sys2Proof/Word.lean ====
section
/-! DEFINITION. The words of the Candrel 1608 (bytes, 16- and 32-bit counts), the numbers that name its units (00_scope.md, "Naming conventions"), and tables of a fixed number of like things. -/

namespace Sys2Proof

/-- One byte of a frame, a record or a tariff image. -/
abbrev Byte := BitVec 8

/-- A 16-bit count: a bank's generation (R105). -/
abbrev Word16 := BitVec 16

/-- A 32-bit count: office clock seconds (R170), tariff ids (R64), sequence numbers (R143). -/
abbrev Word32 := BitVec 32

/-- Positions P0 to P15. -/
abbrev PositionId := Fin 16

/-- Scale channels S0 to S7. -/
abbrev ChannelId := Fin 8

/-- Printers L0 to L3. -/
abbrev PrinterId := Fin 4

/-- Till accounts 0 to 3. -/
abbrev AccountId := Fin 4

/-- Item slots 0 to 7. -/
abbrev Slot := Fin 8

/-- What a line brings in one event: bytes, and whether the line then breaks (R168). -/
structure LineInput where
  bytes : List Byte
  broken : Bool
deriving DecidableEq, Repr

/-- The two banks of the tariff store, A and B. -/
inductive BankId
  | A
  | B
deriving DecidableEq, Repr

/-- The bank that is not this one. -/
def BankId.other : BankId → BankId
  | .A => .B
  | .B => .A

/-- The entry of a table at a number. -/
def tget {α : Type} {n : Nat} (v : Vector α n) (i : Fin n) : α := v[i.val]

/-- The table with one entry replaced. -/
def tset {α : Type} {n : Nat} (v : Vector α n) (i : Fin n) (x : α) : Vector α n := v.set i.val x

/-- The table whose entry at each number is given by a rule. -/
def tbuild {α : Type} (n : Nat) (f : Fin n → α) : Vector α n :=
  ⟨⟨(List.finRange n).map f⟩, by simp⟩

end Sys2Proof
end

