-- ==== Sys2Proof/Syntax.lean ====
section
/-! DEFINITION. The commands of the block: one constructor for each row of spec/opcode_table.json, in the table's order. -/

namespace Sys2Proof

/-- The part's steps, one constructor for each row of the table. A position request names the position and the frame the PCT takes from its port: the tag and the payload bytes (section 11.2); an office command names the tag and the payload of the frame taken from the office port (section 11.6). An event of a line carries the bytes that arrive on it. -/
inductive Instr
  /-- LINK_UP (R3). -/
  | linkUp (p : PositionId)
  /-- LINK_DOWN (R4). -/
  | linkDown (p : PositionId)
  /-- POSITION_FRAME_RECEIVED (R6, R179): bytes arrive on a position port. -/
  | positionFrameReceived (p : PositionId) (bytes : List Byte)
  /-- ATTACH (R11). -/
  | attach (p : PositionId) (tag : Byte) (payload : List Byte)
  /-- DETACH (R12). -/
  | detach (p : PositionId) (tag : Byte) (payload : List Byte)
  /-- BEGIN (R24). -/
  | beginTransaction (p : PositionId) (tag : Byte) (payload : List Byte)
  /-- ADD (R25). -/
  | add (p : PositionId) (tag : Byte) (payload : List Byte)
  /-- AMEND (R28, R29). -/
  | amend (p : PositionId) (tag : Byte) (payload : List Byte)
  /-- DROP (R30). -/
  | drop (p : PositionId) (tag : Byte) (payload : List Byte)
  /-- WEIGH (R54). -/
  | weigh (p : PositionId) (tag : Byte) (payload : List Byte)
  /-- ZERO (R59). -/
  | zero (p : PositionId) (tag : Byte) (payload : List Byte)
  /-- RATE (R80). -/
  | rate (p : PositionId) (tag : Byte) (payload : List Byte)
  /-- DETAIL (R31). -/
  | detail (p : PositionId) (tag : Byte) (payload : List Byte)
  /-- ACCEPT (R134). -/
  | accept (p : PositionId) (tag : Byte) (payload : List Byte)
  /-- VOID (R137). -/
  | void (p : PositionId) (tag : Byte) (payload : List Byte)
  /-- CANCEL (R22). -/
  | cancel (p : PositionId) (tag : Byte) (payload : List Byte)
  /-- COLLECT (R20). -/
  | collect (p : PositionId) (tag : Byte) (payload : List Byte)
  /-- FINISH (R42). -/
  | finish (p : PositionId) (tag : Byte) (payload : List Byte)
  /-- QUERY (R21). -/
  | query (p : PositionId) (tag : Byte) (payload : List Byte)
  /-- SAMPLE_FRAME (R48, R180): bytes arrive on a scale line. -/
  | sampleFrame (c : ChannelId) (bytes : List Byte)
  /-- SETTLE_TIMER_EXPIRY (R53). -/
  | settleTimerExpiry (c : ChannelId)
  /-- WEIGH_TIMER_EXPIRY (R58). -/
  | weighTimerExpiry (c : ChannelId)
  /-- EVALUATION_START (R82). -/
  | evaluationStart
  /-- CHECK_STEP (R84). -/
  | checkStep
  /-- TERM_STEP (R90). -/
  | termStep
  /-- DELIVERY_STEP (R98). -/
  | deliveryStep
  /-- CHAIN_STEP (R99). -/
  | chainStep
  /-- EVALUATION_HALT (R102). -/
  | evaluationHalt
  /-- OFFICE_FRAME_RECEIVED (R168, R179): what the office line brings: bytes, and a break in the line after them or none (log 26). -/
  | officeFrameReceived (input : LineInput)
  /-- STATUS (R175). -/
  | status (tag : Byte) (payload : List Byte)
  /-- TIME (R171). -/
  | time (tag : Byte) (payload : List Byte)
  /-- FLAGS (R172). -/
  | flags (tag : Byte) (payload : List Byte)
  /-- POSITION (R173). -/
  | position (tag : Byte) (payload : List Byte)
  /-- SCALE (R174). -/
  | scale (tag : Byte) (payload : List Byte)
  /-- PRINTER (R164). -/
  | printer (tag : Byte) (payload : List Byte)
  /-- REDIRECT (R163). -/
  | redirect (tag : Byte) (payload : List Byte)
  /-- ACCOUNT (R129). -/
  | account (tag : Byte) (payload : List Byte)
  /-- CREDIT (R130). -/
  | credit (tag : Byte) (payload : List Byte)
  /-- BLOCK (R140). -/
  | block (tag : Byte) (payload : List Byte)
  /-- LOAD_BEGIN (R108). -/
  | loadBegin (tag : Byte) (payload : List Byte)
  /-- LOAD_PART (R109). -/
  | loadPart (tag : Byte) (payload : List Byte)
  /-- LOAD_END (R111). -/
  | loadEnd (tag : Byte) (payload : List Byte)
  /-- LOAD_ABANDON (R112). -/
  | loadAbandon (tag : Byte) (payload : List Byte)
  /-- ACTIVATE (R115). -/
  | activate (tag : Byte) (payload : List Byte)
  /-- JOURNAL_READ (R148). -/
  | journalRead (tag : Byte) (payload : List Byte)
  /-- JOURNAL_RELEASE (R149). -/
  | journalRelease (tag : Byte) (payload : List Byte)
  /-- RESTART (R176). -/
  | restart (tag : Byte) (payload : List Byte)
  /-- RESTART_REBUILD (R176, R177). -/
  | restartRebuild
  /-- POWER_ON (R177, R170): `kept` is the clock cell's report. -/
  | powerOn (kept : Bool)
  /-- SUPPLY_FAILURE (R133). -/
  | supplyFailure
  /-- SUPPLY_SAMPLE (R131): the sample in microvolts (log 21). -/
  | supplySample (microvolts : Nat)
  /-- TICK (R113, R118, R170). -/
  | tick
  /-- GRACE_EXPIRY (R119). -/
  | graceExpiry (b : BankId)
  /-- LOAD_IDLE_TIMEOUT (R110). -/
  | loadIdleTimeout (b : BankId)
  /-- PRINTER_DONE (R157, R181): an answer frame of code 01H, after `noise` bytes, with its send number, its reason byte and its check byte. -/
  | printerDone (l : PrinterId) (noise : List Byte) (sendNumber reason check : Byte)
  /-- PRINTER_FAULT (R158, R181): the same with code 02H. -/
  | printerFault (l : PrinterId) (noise : List Byte) (sendNumber reason check : Byte)
  /-- PRINTER_READY (R159, R181): the same with code 03H. -/
  | printerReady (l : PrinterId) (noise : List Byte) (sendNumber reason check : Byte)
  /-- PRINT_TIMEOUT (R160). -/
  | printTimeout (l : PrinterId)
  /-- UNKNOWN_REQUEST_CODE (R8). -/
  | unknownRequestCode (p : PositionId) (code tag : Byte) (payload : List Byte)
  /-- UNKNOWN_COMMAND_CODE (R169). -/
  | unknownCommandCode (code tag : Byte) (payload : List Byte)
deriving DecidableEq, Repr

end Sys2Proof
end

