-- ==== Sys2Proof/Decode.lean ====
section
/-! DEFINITION. The command that a word spells by spec/opcode_table.json's bits. The table gives none of its sixty rows any bits (98_reader.md: no row has "fixed" or "fields"), so no word spells a command. The bytes of the ports and lines are read in Machine/Lines.lean and Machine/Operands.lean. -/

namespace Sys2Proof

/-- The command that `w`, a word of `nbits` bits, spells: none, since no row of the table has bits (log 1). -/
def decodeTableWord (_nbits _w : Nat) : Option Instr := none

end Sys2Proof
end

