-- ==== Sys2Proof/Config.lean ====
section
/-! DEFINITION. What the spec fixes for every module of this hardware (limits and durations), and the free values: the few values the spec leaves open, each a constant with no body, so that no proof can know it. -/

namespace Sys2Proof.Config

/-- R6: frames a position port holds that the PCT has not yet taken. -/
def positionFramesHeld : Nat := 4

/-- R168: frames the office port holds that have not yet been taken. -/
def officeFramesHeld : Nat := 2

/-- R17: completion records held plus operations in flight. -/
def budget : Nat := 8

/-- R17: label jobs of one position queued or printing. -/
def labelJobs : Nat := 4

/-- R153: jobs in one printer queue. -/
def printerQueue : Nat := 16

/-- R143: entries the journal holds. -/
def journalCapacity : Nat := 2048

/-- R147: the count from which the journal is NEAR-FULL. -/
def journalNearFull : Nat := 1920

/-- R139: blocks in the allocator's queue. -/
def blockQueue : Nat := 4

/-- R127: the highest value of a money register, 2^47 − 1. -/
def registerMax : Nat := 2 ^ 47 - 1

/-- R94: the bound of the rating accumulator, 2^47 − 1 rate units. -/
def accumulatorMax : Int := 2 ^ 47 - 1

/-- R50: accepted samples a channel's window holds. -/
def windowSize : Nat := 8

/-- R47: consecutive error samples that put a channel into FAULT. -/
def errorLimit : Nat := 8

/-- R49: consecutive spikes that restart the window. -/
def spikeRun : Nat := 3

/-- R58: the weigh timer, 10 s, in ms. -/
def weighTime : Nat := 10000

/-- R153: the print timer, 20 s, in ms. -/
def printTime : Nat := 20000

/-- R108: the load idle timer, 60 s, in ms. -/
def idleTime : Nat := 60000

/-- R131: the supply below which NORMAL becomes HOLD, 4.60 V, in microvolts (log 21). -/
def holdBelow : Nat := 4600000

/-- R131: the supply above which HOLD becomes NORMAL, 4.75 V, in microvolts (log 21). -/
def normalAbove : Nat := 4750000

/-- R62: bytes of an image before its first term record. -/
def imageFixed : Nat := 1416

/-- R105: bytes of image a bank has room for. -/
def bankRoom : Nat := 8192

/-- FREE VALUE, DESIGN CHOICE (log 12). R179 adds 80H to the code of a request; for a code of 80H or above the sum does not fit the code byte, and the spec states no code for that answer. -/
opaque wideResponseCode : Byte → Byte

/-- FREE VALUE, DESIGN CHOICE (log 11). R9 gives a refusal record the item slot "where the request named one". For a request code with a slot field whose payload has bytes but no readable slot from 0 to 7 (a wrong length, or a slot byte above 7), the spec does not state the slot byte of the FORMAT record. Applied to the request code and the payload. -/
opaque unreadSlot : Byte → List Byte → Byte

/-- FREE VALUE, DESIGN CHOICE (log 13). The byte that shows a head job's condition in STATUS (section 11.6 gives it one byte, section 11.5 lists no values for it). Applied to "the job is PRINTING". -/
opaque conditionCode : Bool → Byte

/-- FREE VALUE, DESIGN CHOICE (log 19). The granules a schedule's rounding gives when its rounding mode byte is none of R69's three; check 6 of R74 keeps such an image out of every bank. Applied to the accumulator and the granule. -/
opaque unknownRounding : Int → Nat → Nat

end Sys2Proof.Config
end

