-- ==== Sys2Proof/Machine/State.lean ====
section
/-! DEFINITION. The state of the Candrel 1608: every block's state as its chapter lists it, the non-volatile store, the queue of waiting commands, and the machine right after reset. Plain data throughout. -/

namespace Sys2Proof.Machine

/-! ### Faults and refusals -/

/-- Why the block stops: never. No rule of the spec stops the module; what it calls a fault (a scale channel's FAULT, R47; a printer's FAULTED, R158) is a state of that unit. The type has no constructor, so `fault` cannot be answered (safe: the model never claims a stop). -/
inductive Fault
deriving DecidableEq, Repr

/-- Why a command has no meaning. -/
inductive Refusal
  /-- Raised by `exec` for a row of the table that has no meaning yet: none is left. Safe: a claim about such a row could not be proved. -/
  | notModelled (mnemonic : String)
deriving DecidableEq, Repr

/-! ### Positions, transactions and items (chapters 1 and 2) -/

/-- R1: the state of a position context. -/
inductive PositionState
  | offline
  | linked
  | attached
  | inTransaction
deriving DecidableEq, Repr

/-- R26: the state of an item. -/
inductive ItemState
  | draft
  | weighing
  | weighed
  | rateQueued
  | rating
  | quoted
  | stale
  | accepted
  | voided
deriving DecidableEq, Repr

/-- R26: the progress of an item's label (`unlabelled` is NONE). -/
inductive LabelState
  | unlabelled
  | queued
  | printing
  | printed
  | removed
deriving DecidableEq, Repr

/-- R27, R88: how the chargeable weight was found. -/
inductive WeightKind
  | actual
  | volumetric
deriving DecidableEq, Repr

/-- R26: a set drawn from the four extras. -/
structure Extras where
  signature : Bool
  fragile : Bool
  insured : Bool
  proof : Bool
deriving DecidableEq, Repr

/-- R26: the dimensions in the order entered, whole millimetres. -/
structure Dimensions where
  length : Nat
  width : Nat
  height : Nat
deriving DecidableEq, Repr

/-- R27: a set drawn from SAT and ZERO-CLAMP. -/
structure Marks where
  sat : Bool
  zeroClamp : Bool
deriving DecidableEq, Repr

/-- R95: one applied term of a trace and the contribution it offered, in rate units. -/
structure TraceEntry where
  term : Nat
  contribution : Int
deriving DecidableEq, Repr

/-- R27: the record the rating evaluator delivers for an item. -/
structure Quote where
  postage : Nat
  tariffId : Word32
  bank : BankId
  generation : Word16
  chargeable : Nat
  kind : WeightKind
  zone : Fin 16
  marks : Marks
  trace : List TraceEntry
  stale : Bool
deriving DecidableEq, Repr

/-- R26: the item's facts, which the clerk enters by AMEND. -/
structure Facts where
  service : Fin 8
  destination : Option Nat
  declared : Option Nat
  extras : Extras
  dimensions : Option Dimensions
deriving DecidableEq, Repr

/-- R26: an item record. -/
structure Item where
  state : ItemState
  facts : Facts
  weight : Option Nat
  previous : Option Nat
  quote : Option Quote
  itemNumber : Option Nat
  label : LabelState
deriving DecidableEq, Repr

/-- R23: eight slots, each EMPTY (`none`) or holding one item. -/
abbrev Transaction := Vector (Option Item) 8

/-- Section 11.10: the status reasons shared by REPORTED records and completion records. -/
inductive Reason
  | ok
  | cancelled
  | state
  | format
  | protection
  | accountBlocked
  | transactionFull
  | noScale
  | missingDestination
  | missingDimensions
  | noTariff
  | serviceNotOffered
  | destinationClosed
  | overWeight
  | overSize
  | valueOverLimit
  | reRate
  | noCredit
  | noNumbers
  | journalFull
  | noPrinter
  | clockUnset
  | mismatch
  | overload
  | underload
  | belowMinimum
  | unstable
  | zeroRange
  | scaleFault
  | scaleOff
deriving DecidableEq, Repr

/-- Section 1.7: a completion record of one of the three kinds. -/
inductive Completion
  | weighDone (status : Reason) (slot : Slot) (weight previous : Option Nat)
  | rateDone (status : Reason) (origin : Slot) (quoted residual : Nat) (lastPostage : Option Nat)
  | labelDone (slot : Slot) (itemNumber : Nat) (printer : PrinterId)
deriving DecidableEq, Repr

/-- R1, R5: the configuration of a position, written by POSITION. Bit a of `allowed` is account a. -/
structure PositionConfig where
  enabled : Bool
  scale : Option ChannelId
  printer : Option PrinterId
  allowed : BitVec 4
deriving DecidableEq, Repr

/-- R1: a position context. `rating` is the mark that a rating or REST chain is in flight. -/
structure PositionContext where
  config : PositionConfig
  state : PositionState
  linePresent : Bool
  account : Option AccountId
  key : Option (Fin 16)
  transaction : Option Transaction
  completions : List Completion
  weigh : Option Slot
  rating : Bool
deriving DecidableEq, Repr

/-! ### Ports and lines (chapters 1, 10 and 11) -/

/-- Section 11.1: what the envelope of a frame carries. -/
structure Frame where
  code : Byte
  tag : Byte
  payload : List Byte
deriving DecidableEq, Repr

/-- R6, R168, R179: a port: the received frames not yet taken, in order of arrival, and the bytes of a frame under reception. -/
structure Port where
  held : List Frame
  rx : List Byte
deriving DecidableEq, Repr

/-- One frame that the module sends, as the bytes on its port or line. -/
inductive Sent
  | position (p : PositionId) (wire : List Byte)
  | office (wire : List Byte)
  | printer (l : PrinterId) (wire : List Byte)
deriving DecidableEq, Repr

/-! ### Scale channels (chapter 3) -/

/-- R44: the configuration of a channel, written by SCALE; `settle` in ms, `band` in divisions. -/
structure ScaleConfig where
  enabled : Bool
  capacity : Nat
  division : Nat
  calibratedZero : Int
  span : Nat
  spikeLimit : Nat
  band : Nat
  settle : Nat
deriving DecidableEq, Repr

/-- R44: the state of a channel. -/
inductive ChannelState
  | off
  | fault
  | unstable
  | stable
deriving DecidableEq, Repr

/-- R44: the weigh sub-state, with the owner position and item slot. -/
inductive WeighState
  | idle
  | waiting (p : PositionId) (slot : Slot)
deriving DecidableEq, Repr

/-- R44: a channel record. A timer is stopped (`none`) or running with the ms it was started for (log 5). -/
structure Channel where
  config : ScaleConfig
  state : ChannelState
  window : List Int
  filtered : Option Int
  workingZero : Int
  reading : Option Int
  reference : Option Int
  spikes : Nat
  errors : Nat
  settleTimer : Option Nat
  weigh : WeighState
  weighTimer : Option Nat
deriving DecidableEq, Repr

/-! ### Tariff store (chapters 4 and 6) -/

/-- R106: the state of a bank. -/
inductive BankState
  | empty
  | loading
  | loaded
  | active
  | retiring
deriving DecidableEq, Repr

/-- R105: a grace timer; `running` holds the seconds left. -/
inductive GraceTimer
  | stopped
  | running (seconds : Nat)
  | expired
deriving DecidableEq, Repr

/-- R105, R108: the length and the check value declared by LOAD-BEGIN. -/
structure Declared where
  length : Nat
  check : Word32
deriving DecidableEq, Repr

/-- R105: a bank. While it is LOADING, `image` holds the bytes received so far, so its length is the bytes received. `grace` is the header's, in minutes (R111). -/
structure Bank where
  state : BankState
  image : List Byte
  tariffId : Option Word32
  effective : Option Word32
  grace : Option Nat
  generation : Option Word16
  refs : Nat
  graceTimer : GraceTimer
  declared : Option Declared
  idleTimer : Option Nat
deriving DecidableEq, Repr

/-- R105: the tariff store. -/
structure TariffStore where
  bankA : Bank
  bankB : Bank
  counter : Word16
  lastLoaded : Option BankId
deriving DecidableEq, Repr

/-! ### Rating evaluator (chapter 5) -/

/-- R80: the scope of a rating. -/
inductive Scope
  | one
  | rest
deriving DecidableEq, Repr

/-- R78, R77: a rating operation, as a queue entry and as the evaluator carries it. -/
structure Operation where
  position : PositionId
  slot : Slot
  origin : Slot
  scope : Scope
  quoted : Nat
  lastPostage : Option Nat
deriving DecidableEq, Repr

/-- R77: why an evaluation is to halt at its next term boundary. -/
inductive HaltReason
  | cancelled
  | reRate
  | abandoned
deriving DecidableEq, Repr

/-- R84, R86: what the check step keeps for the steps after it: the zone, the chargeable weight C with its kind, and the number of steps N. -/
structure Working where
  zone : Fin 16
  chargeable : Nat
  kind : WeightKind
  steps : Nat
deriving DecidableEq, Repr

/-- R83: the step an evaluation takes next. -/
inductive EvalStep
  | check
  | term (index : Nat) (w : Working)
  | delivery (w : Working)
deriving DecidableEq, Repr

/-- R77: the evaluation in progress. -/
structure Evaluation where
  bank : BankId
  generation : Word16
  flags : BitVec 8
  facts : Facts
  weight : Nat
  step : EvalStep
  accumulator : Int
  marks : Marks
  trace : List TraceEntry
  halt : Option HaltReason
deriving DecidableEq, Repr

/-- R77: the evaluator state with what it carries. -/
inductive EvaluatorState
  | idle
  | evaluating (op : Operation) (ev : Evaluation)
  | chaining (op : Operation)
deriving DecidableEq, Repr

/-- R77, R78: the rating evaluator; the queue is oldest first. -/
structure Evaluator where
  queue : List Operation
  state : EvaluatorState
deriving DecidableEq, Repr

/-! ### Accounts, supply monitor, serial allocator (chapter 7) -/

/-- R126: OPEN or BLOCKED. -/
inductive AccountStatus
  | opened
  | blocked
deriving DecidableEq, Repr

/-- R126: a till account. -/
structure Account where
  key : Fin 16
  status : AccountStatus
  loaded : Nat
  issued : Nat
  refunded : Nat
  remaining : Nat
  pieces : Nat
  threshold : Nat
  low : Bool
deriving DecidableEq, Repr

/-- R131: the supply monitor. -/
inductive Supply
  | normal
  | hold
deriving DecidableEq, Repr

/-- R139: a granted block of serials. -/
structure SerialBlock where
  first : Nat
  last : Nat
deriving DecidableEq, Repr

/-- R139: the serial allocator. -/
structure Allocator where
  officeCode : Option Nat
  blocks : List SerialBlock
  next : Option Nat
  highest : Nat
deriving DecidableEq, Repr

/-! ### Acceptance journal (chapter 8) -/

/-- R144: the item fields of an ACCEPT or VOID entry. -/
structure SaleRecord where
  position : PositionId
  itemNumber : Nat
  postage : Nat
  service : Fin 8
  zone : Fin 16
  chargeable : Nat
  kind : WeightKind
  tariffId : Word32
  marks : Marks
deriving DecidableEq, Repr

/-- R144: the kind of an entry with the fields of that kind. -/
inductive JournalEvent
  | accept (sale : SaleRecord)
  | void (sale : SaleRecord)
  | credit (amount : Nat)
deriving DecidableEq, Repr

/-- R144: a journal entry. -/
structure JournalEntry where
  seq : Word32
  time : Word32
  account : AccountId
  event : JournalEvent
deriving DecidableEq, Repr

/-- R143: the acceptance journal, oldest entry first. -/
structure Journal where
  entries : List JournalEntry
  next : Word32
deriving DecidableEq, Repr

/-! ### Label spool (chapter 9) -/

/-- R153: why a printer is FAULTED. -/
inductive FaultReason
  | media
  | jam
  | head
  | timeout
deriving DecidableEq, Repr

/-- R153: the state of a printer; the fault reason is present exactly in FAULTED. -/
inductive PrinterState
  | off
  | ready
  | printing
  | faulted (reason : FaultReason)
deriving DecidableEq, Repr

/-- R166: the label record built at the acceptance. -/
structure LabelRecord where
  itemNumber : Nat
  service : Fin 8
  postage : Nat
  time : Word32
  officeCode : Nat
  position : PositionId
  chargeable : Nat
  kind : WeightKind
  zone : Fin 16
  destination : Option Nat
  tariffId : Word32
deriving DecidableEq, Repr

/-- R154: WAITING or PRINTING. -/
inductive JobCondition
  | waiting
  | printing
deriving DecidableEq, Repr

/-- R154: a label job. -/
structure Job where
  itemNumber : Nat
  position : PositionId
  slot : Slot
  record : LabelRecord
  attempts : Nat
  condition : JobCondition
deriving DecidableEq, Repr

/-- R153: a printer record; the oldest job of the queue is the head job. -/
structure Printer where
  enabled : Bool
  state : PrinterState
  queue : List Job
  sendNumber : Byte
  timer : Option Nat
deriving DecidableEq, Repr

/-! ### Office link block and the non-volatile store (chapter 10) -/

/-- R170: the office clock. -/
structure Clock where
  value : Word32
  valid : Bool
deriving DecidableEq, Repr

/-- R105, R123: what the store keeps of a LOADED or ACTIVE bank. -/
structure StoredBank where
  active : Bool
  image : List Byte
  tariffId : Option Word32
  effective : Option Word32
  grace : Option Nat
  generation : Option Word16
deriving DecidableEq, Repr

/-- R177, section 10.7: the non-volatile store: what comes back at power-on and RESTART. A bank stored EMPTY is `none`. -/
structure Nvs where
  positions : Vector PositionConfig 16
  channels : Vector ScaleConfig 8
  bankA : Option StoredBank
  bankB : Option StoredBank
  counter : Word16
  lastLoaded : Option BankId
  accounts : Vector Account 4
  allocator : Allocator
  journal : Journal
  printersEnabled : Vector Bool 4
  queues : Vector (List Job) 4
  flags : BitVec 8
deriving DecidableEq, Repr

/-- R176, R177: without supply; between the DONE of a RESTART and the end of the rebuilding; running. -/
inductive Power
  | off
  | restarting
  | running
deriving DecidableEq, Repr

/-! ### The whole machine -/

/-- Every piece of state the spec gives the Candrel 1608, and two fields of the model's own: `sent`, the frames the last command put on the ports and lines (log 4), and `pending`, the commands waiting, first in first out (log 1). -/
structure State where
  power : Power
  positions : Vector PositionContext 16
  ports : Vector Port 16
  officePort : Port
  channels : Vector Channel 8
  scaleLines : Vector (List Byte) 8
  tariffs : TariffStore
  evaluator : Evaluator
  accounts : Vector Account 4
  supply : Supply
  allocator : Allocator
  journal : Journal
  printers : Vector Printer 4
  printerLines : Vector (List Byte) 4
  labelCounts : Vector Nat 16
  clock : Clock
  flags : BitVec 8
  nvs : Nvs
  sent : List Sent
  pending : List Instr
deriving DecidableEq, Repr

/-! ### Reset: a new module after its first power-on (R177) -/

/-- R1: a position whose configuration has never been written. -/
def PositionConfig.unwritten : PositionConfig :=
  { enabled := false, scale := none, printer := none, allowed := 0 }

/-- R1: the context of such a position after power-on. -/
def PositionContext.unwritten : PositionContext :=
  { config := .unwritten, state := .offline, linePresent := false, account := none, key := none, transaction := none,
    completions := [], weigh := none, rating := false }

/-- R44: a channel never configured is disabled. DESIGN CHOICE, unsafe (log 10): the spec gives its other settings no value, and the model gives them 0. -/
def ScaleConfig.unwritten : ScaleConfig :=
  { enabled := false, capacity := 0, division := 0, calibratedZero := 0, span := 0, spikeLimit := 0, band := 0, settle := 0 }

/-- R44: such a channel after power-on. -/
def Channel.unwritten : Channel :=
  { config := .unwritten, state := .off, window := [], filtered := none, workingZero := 0, reading := none,
    reference := none, spikes := 0, errors := 0, settleTimer := none, weigh := .idle, weighTimer := none }

/-- R105, R106: a bank that holds nothing. -/
def Bank.blank : Bank :=
  { state := .empty, image := [], tariffId := none, effective := none, grace := none, generation := none, refs := 0,
    graceTimer := .stopped, declared := none, idleTimer := none }

/-- R126: an account never written by the office. -/
def Account.unwritten : Account :=
  { key := 0, status := .blocked, loaded := 0, issued := 0, refunded := 0, remaining := 0, pieces := 0, threshold := 0, low := false }

/-- R139: an allocator never written. -/
def Allocator.unwritten : Allocator := { officeCode := none, blocks := [], next := none, highest := 0 }

/-- R143: a journal never written. -/
def Journal.unwritten : Journal := { entries := [], next := 1 }

/-- R153: a printer never enabled. -/
def Printer.unwritten : Printer := { enabled := false, state := .off, queue := [], sendNumber := 0, timer := none }

/-- A port with nothing received. -/
def Port.quiet : Port := { held := [], rx := [] }

/-- R177: a store never written. -/
def Nvs.unwritten : Nvs :=
  { positions := Vector.replicate 16 .unwritten, channels := Vector.replicate 8 .unwritten, bankA := none, bankB := none,
    counter := 0, lastLoaded := none, accounts := Vector.replicate 4 .unwritten, allocator := .unwritten,
    journal := .unwritten, printersEnabled := Vector.replicate 4 false, queues := Vector.replicate 4 [], flags := 0 }

/-- The machine right after reset: a new module after its first power-on (R177), whose clock cell reports loss (R170). DESIGN CHOICE, unsafe (log 10): that reset means this power-on, and the settings of `ScaleConfig.unwritten`. -/
def State.reset : State :=
  { power := .running, positions := Vector.replicate 16 .unwritten, ports := Vector.replicate 16 .quiet,
    officePort := .quiet, channels := Vector.replicate 8 .unwritten, scaleLines := Vector.replicate 8 [],
    tariffs := { bankA := .blank, bankB := .blank, counter := 0, lastLoaded := none },
    evaluator := { queue := [], state := .idle }, accounts := Vector.replicate 4 .unwritten, supply := .normal,
    allocator := .unwritten, journal := .unwritten, printers := Vector.replicate 4 .unwritten,
    printerLines := Vector.replicate 4 [], labelCounts := Vector.replicate 16 0,
    clock := { value := 0, valid := false }, flags := 0, nvs := .unwritten, sent := [], pending := [] }

end Sys2Proof.Machine
end

