-- ==== Sys2Proof/Machine/Bytes.lean ====
section
/-! DEFINITION. Numbers as bytes (chapter 11, opening paragraphs): least significant byte first, two's complement, packed decimal, absent fields with every bit set; and the checks of frames and images (section 11.1, R65). -/

namespace Sys2Proof.Machine

/-- A number as `n` bytes, least significant byte first. -/
def leBytes : Nat → Nat → List Byte
  | 0, _ => []
  | n + 1, v => BitVec.ofNat 8 v :: leBytes n (v / 256)

/-- The number that bytes hold, least significant byte first. -/
def leNat : List Byte → Nat
  | [] => 0
  | b :: bs => b.toNat + 256 * leNat bs

/-- A signed number as `n` bytes in two's complement. -/
def leInt (n : Nat) (i : Int) : List Byte := leBytes n (i % (256 : Int) ^ n).toNat

/-- The signed number that a two's complement field of `bits` bits holds. -/
def signedOf (bits v : Nat) : Int := if v < 2 ^ (bits - 1) then v else (v : Int) - 2 ^ bits

/-- An absent field: every bit set. -/
def absentBytes (n : Nat) : List Byte := List.replicate n 0xFF

/-- A field that may be absent, as `n` bytes. -/
def optBytes (n : Nat) : Option Nat → List Byte
  | some v => leBytes n v
  | none => absentBytes n

/-- A field of one byte that may be absent. -/
def optByte : Option Nat → Byte
  | some v => BitVec.ofNat 8 v
  | none => 0xFF

/-- Yes as 01H, no as 00H, as section 11.2, 11.4 and 11.6 list for the LOW mark, the stale byte and their like. DESIGN CHOICE (log 28): the same for the yes or no bytes of answers for which no section lists values. -/
def boolByte (b : Bool) : Byte := if b then 1 else 0

/-- Packed decimal, least significant two digits first. -/
def bcdReversed : Nat → Nat → List Byte
  | 0, _ => []
  | n + 1, v => BitVec.ofNat 8 (16 * (v / 10 % 10) + v % 10) :: bcdReversed n (v / 100)

/-- Packed decimal, two digits to a byte, most significant digit first. -/
def bcdBytes (n v : Nat) : List Byte := (bcdReversed n v).reverse

/-- A packed decimal field that may be absent. -/
def optBcd (n : Nat) : Option Nat → List Byte
  | some v => bcdBytes n v
  | none => absentBytes n

/-- The number that packed decimal bytes hold; none when a half-byte is no digit. -/
def bcdNat (bs : List Byte) : Option Nat :=
  bs.foldl
    (fun acc b =>
      match acc with
      | some v => if b.toNat / 16 < 10 ∧ b.toNat % 16 < 10 then some (100 * v + 10 * (b.toNat / 16) + b.toNat % 16) else none
      | none => none)
    (some 0)

/-- The exclusive-or of bytes. -/
def xorBytes (bs : List Byte) : Byte := bs.foldl (· ^^^ ·) 0

/-- One bit of the envelope's CRC-16: divisor 1021H, most significant bit first. -/
def crc16Bit (c : BitVec 16) : BitVec 16 := if c.msb then (c <<< 1) ^^^ 0x1021 else c <<< 1

/-- One byte of the envelope's CRC-16. -/
def crc16Byte (c : BitVec 16) (b : Byte) : BitVec 16 :=
  (List.replicate 8 ()).foldl (fun c _ => crc16Bit c) (c ^^^ (b.zeroExtend 16 <<< 8))

/-- Section 11.1: the CRC-16 of the envelope, register starting at FFFFH. -/
def crc16 (bs : List Byte) : BitVec 16 := bs.foldl crc16Byte 0xFFFF

/-- The CRC-16 as it is sent: most significant byte first. -/
def crc16Bytes (bs : List Byte) : List Byte :=
  [BitVec.ofNat 8 ((crc16 bs).toNat / 256), BitVec.ofNat 8 (crc16 bs).toNat]

/-- One bit of the image's check value: divisor EDB88320H, least significant bit first (R65). -/
def crc32Bit (c : Word32) : Word32 := if c.getLsbD 0 then (c >>> 1) ^^^ 0xEDB88320 else c >>> 1

/-- One byte of the image's check value. -/
def crc32Byte (c : Word32) (b : Byte) : Word32 :=
  (List.replicate 8 ()).foldl (fun c _ => crc32Bit c) (c ^^^ b.zeroExtend 32)

/-- R65: the 32-bit check over bytes. -/
def crc32 (bs : List Byte) : Word32 := bs.foldl crc32Byte 0xFFFFFFFF ^^^ 0xFFFFFFFF

end Sys2Proof.Machine
end

