-- ==== Sys2Proof/Machine/Operands.lean ====
section
/-! DEFINITION. The operands of the commands: how the payload of a position request (section 11.2) and of an office command (section 11.6) is read. Each reader answers none exactly when the frame's length does not suit the code or a field lies outside its range: check 2 of R8, and R169. -/

namespace Sys2Proof.Machine

/-- A byte that names one of `n` things. -/
def readFin (n : Nat) (b : Byte) : Option (Fin n) :=
  if h : b.toNat < n then some ⟨b.toNat, h⟩ else none

/-- A byte that names one of `n` things, or none of them with FFH. -/
def readOptFin (n : Nat) (b : Byte) : Option (Option (Fin n)) :=
  if b = 0xFF then some none else (readFin n b).map some

/-- A yes or no byte, 00H or 01H (log 15). -/
def readYesNo (b : Byte) : Option Bool :=
  if b = 0x00 then some false else if b = 0x01 then some true else none

/-- A byte that names a bank, 00H A or 01H B. -/
def readBank (b : Byte) : Option BankId :=
  if b = 0x00 then some .A else if b = 0x01 then some .B else none

/-- A 32-bit field. -/
def readWord32 (bs : List Byte) : Word32 := BitVec.ofNat 32 (leNat bs)

/-! ### Position requests -/

/-- A request without fields. -/
def readNothing : List Byte → Option Unit
  | [] => some ()
  | _ => none

/-- A request whose one field is an item slot. -/
def readSlot : List Byte → Option Slot
  | [k] => readFin 8 k
  | _ => none

/-- ATTACH: account 0 to 3, key 0 to 15 (R11). -/
def readAttach : List Byte → Option (AccountId × Fin 16)
  | [a, k] =>
    match readFin 4 a, readFin 16 k with
    | some account, some key => some (account, key)
    | _, _ => none
  | _ => none

/-- RATE: slot and scope (R80). -/
def readRate : List Byte → Option (Slot × Scope)
  | [k, sc] =>
    match readFin 8 k with
    | some slot => if sc = 0x00 then some (slot, .one) else if sc = 0x01 then some (slot, .rest) else none
    | none => none
  | _ => none

/-- CANCEL: a slot, or ALL as none (R22). -/
def readCancel : List Byte → Option (Option Slot)
  | [k] => readOptFin 8 k
  | _ => none

/-- FINISH: expected count 0 to 8 and expected total 0 to 79,999,992 (R42). -/
def readFinish : List Byte → Option (Nat × Nat)
  | [n, t0, t1, t2, t3] =>
    if n.toNat ≤ 8 ∧ leNat [t0, t1, t2, t3] ≤ 79999992 then some (n.toNat, leNat [t0, t1, t2, t3]) else none
  | _ => none

/-- R28: what AMEND does to one fact. -/
inductive FactAction (α : Type)
  | leave
  | set (value : α)
  | clear
deriving DecidableEq, Repr

/-- R28: the five actions of an AMEND. -/
structure Amendment where
  slot : Slot
  service : FactAction (Fin 8)
  destination : FactAction Nat
  declared : FactAction Nat
  extras : FactAction Extras
  dimensions : FactAction Dimensions
deriving DecidableEq, Repr

/-- Section 11.2: an action byte (00H leave, 01H set, 02H clear) with its value field, which is read only when set. -/
def readAction {α : Type} (action : Byte) (value : Option α) : Option (FactAction α) :=
  if action = 0x00 then some .leave
  else if action = 0x01 then value.map .set
  else if action = 0x02 then some .clear
  else none

/-- Section 11.4: the extras byte; a byte with a bit from 4 to 7 set is out of range (R28). -/
def readExtras (b : Byte) : Option Extras :=
  if b.toNat < 16 then
    some { signature := b.getLsbD 0, fragile := b.getLsbD 1, insured := b.getLsbD 2, proof := b.getLsbD 3 }
  else none

/-- Three dimensions, each 1 to 2,000 mm (R28). -/
def readDimensions (l w h : Nat) : Option Dimensions :=
  if 1 ≤ l ∧ l ≤ 2000 ∧ 1 ≤ w ∧ w ≤ 2000 ∧ 1 ≤ h ∧ h ≤ 2000 then some ⟨l, w, h⟩ else none

/-- A declared value, 0 to 9,999,999 minor units (R28). -/
def readDeclared (v : Nat) : Option Nat := if v ≤ 9999999 then some v else none

/-- AMEND (R28): slot, five action bytes, then the five value fields. -/
def readAmend : List Byte → Option Amendment
  | [k, aS, aD, aV, aE, aM, service, d0, d1, d2, v0, v1, v2, v3, extras, l0, l1, w0, w1, h0, h1] =>
    match readFin 8 k, readAction aS (readFin 8 service), readAction aD (bcdNat [d0, d1, d2]),
      readAction aV (readDeclared (leNat [v0, v1, v2, v3])), readAction aE (readExtras extras),
      readAction aM (readDimensions (leNat [l0, l1]) (leNat [w0, w1]) (leNat [h0, h1])) with
    | some slot, some s, some d, some v, some e, some m => some ⟨slot, s, d, v, e, m⟩
    | _, _, _, _, _, _ => none
  | _ => none

/-! ### Office commands -/

/-- TIME: a clock value (R171). -/
def readTime : List Byte → Option Word32
  | [t0, t1, t2, t3] => some (readWord32 [t0, t1, t2, t3])
  | _ => none

/-- R172: what FLAGS does to one flag. -/
inductive FlagAction
  | clear
  | set
  | keep
deriving DecidableEq, Repr

/-- Section 11.6: 00H CLEAR, 01H SET, 02H KEEP. -/
def readFlagAction (b : Byte) : Option FlagAction :=
  if b = 0x00 then some .clear else if b = 0x01 then some .set else if b = 0x02 then some .keep else none

/-- FLAGS: eight actions, flag 0 first (R172). -/
def readFlags (payload : List Byte) : Option (List FlagAction) :=
  if payload.length = 8 then payload.mapM readFlagAction else none

/-- POSITION: position, enabled, scale channel, printer, allowed accounts (R173); bits 4 to 7 of the last are out of range (log 15). -/
def readPosition : List Byte → Option (PositionId × PositionConfig)
  | [p, e, c, l, a] =>
    match readFin 16 p, readYesNo e, readOptFin 8 c, readOptFin 4 l with
    | some position, some enabled, some scale, some printer =>
      if a.toNat < 16 then some (position, ⟨enabled, scale, printer, BitVec.ofNat 4 a.toNat⟩) else none
    | _, _, _, _ => none
  | _ => none

/-- SCALE: channel and whole configuration, every setting in its range (R44, R45, R174). -/
def readScale : List Byte → Option (ChannelId × ScaleConfig)
  | [c, e, p0, p1, d, z0, z1, z2, s0, s1, k0, k1, k2, b, t] =>
    match readFin 8 c, readYesNo e with
    | some channel, some enabled =>
      if 1 ≤ leNat [p0, p1] ∧ leNat [p0, p1] ≤ 50000 ∧ d.toNat ∈ [1, 2, 5, 10, 20] ∧ 1 ≤ leNat [s0, s1] ∧
          1 ≤ leNat [k0, k1, k2] ∧ leNat [k0, k1, k2] ≤ 8388607 ∧ 1 ≤ b.toNat ∧ b.toNat ≤ 5 ∧ 2 ≤ t.toNat ∧ t.toNat ≤ 30 then
        some (channel,
          { enabled := enabled, capacity := leNat [p0, p1], division := d.toNat,
            calibratedZero := signedOf 24 (leNat [z0, z1, z2]), span := leNat [s0, s1], spikeLimit := leNat [k0, k1, k2],
            band := b.toNat, settle := 100 * t.toNat })
      else none
    | _, _ => none
  | _ => none

/-- PRINTER: printer and enabled setting (R164). -/
def readPrinter : List Byte → Option (PrinterId × Bool)
  | [l, e] =>
    match readFin 4 l, readYesNo e with
    | some printer, some enabled => some (printer, enabled)
    | _, _ => none
  | _ => none

/-- REDIRECT: source and target printer (R163). -/
def readRedirect : List Byte → Option (PrinterId × PrinterId)
  | [p, q] =>
    match readFin 4 p, readFin 4 q with
    | some source, some target => some (source, target)
    | _, _ => none
  | _ => none

/-- R129: the settings of an ACCOUNT command; none is KEEP. -/
structure AccountChange where
  account : AccountId
  key : Option (Fin 16)
  status : Option AccountStatus
  threshold : Option Nat
deriving DecidableEq, Repr

/-- Section 11.6: an account state byte, FFH for KEEP. -/
def readStatus (b : Byte) : Option (Option AccountStatus) :=
  if b = 0xFF then some none else if b = 0x00 then some (some .opened) else if b = 0x01 then some (some .blocked) else none

/-- A low threshold, 0 to 99,999,999, FFFFFFFFH for KEEP (R129). -/
def readThreshold (v : Nat) : Option (Option Nat) :=
  if v = 0xFFFFFFFF then some none else if v ≤ 99999999 then some (some v) else none

/-- ACCOUNT: account, key, state, low threshold (R129). -/
def readAccount : List Byte → Option AccountChange
  | [a, k, st, t0, t1, t2, t3] =>
    match readFin 4 a, readOptFin 16 k, readStatus st, readThreshold (leNat [t0, t1, t2, t3]) with
    | some account, some key, some status, some threshold => some ⟨account, key, status, threshold⟩
    | _, _, _, _ => none
  | _ => none

/-- CREDIT: account and amount 1 to 99,999,999 (R130). -/
def readCredit : List Byte → Option (AccountId × Nat)
  | [a, m0, m1, m2, m3] =>
    match readFin 4 a with
    | some account =>
      if 1 ≤ leNat [m0, m1, m2, m3] ∧ leNat [m0, m1, m2, m3] ≤ 99999999 then some (account, leNat [m0, m1, m2, m3]) else none
    | none => none
  | _ => none

/-- BLOCK: first serial 1 to 99,999,999 and count 1 to 1,000,000 (R140). -/
def readBlock : List Byte → Option (Nat × Nat)
  | [f0, f1, f2, f3, n0, n1, n2, n3] =>
    if 1 ≤ leNat [f0, f1, f2, f3] ∧ leNat [f0, f1, f2, f3] ≤ 99999999 ∧ 1 ≤ leNat [n0, n1, n2, n3] ∧
        leNat [n0, n1, n2, n3] ≤ 1000000 then
      some (leNat [f0, f1, f2, f3], leNat [n0, n1, n2, n3])
    else none
  | _ => none

/-- R108: what LOAD-BEGIN declares. -/
structure LoadDeclaration where
  tariffId : Word32
  effective : Word32
  length : Nat
  check : Word32
deriving DecidableEq, Repr

/-- LOAD-BEGIN: tariff id, effective time, length 1 to 8,192, check value (R108). -/
def readLoadBegin : List Byte → Option LoadDeclaration
  | [i0, i1, i2, i3, e0, e1, e2, e3, l0, l1, c0, c1, c2, c3] =>
    if 1 ≤ leNat [l0, l1] ∧ leNat [l0, l1] ≤ Config.bankRoom then
      some ⟨readWord32 [i0, i1, i2, i3], readWord32 [e0, e1, e2, e3], leNat [l0, l1], readWord32 [c0, c1, c2, c3]⟩
    else none
  | _ => none

/-- LOAD-PART: offset and 1 to 240 image bytes, their number given by the frame's length (R109). -/
def readLoadPart : List Byte → Option (Nat × List Byte)
  | o0 :: o1 :: part => if 1 ≤ part.length ∧ part.length ≤ 240 then some (leNat [o0, o1], part) else none
  | _ => none

/-- LOAD-ABANDON and ACTIVATE: a bank (R112, R115). -/
def readBankName : List Byte → Option BankId
  | [b] => readBank b
  | _ => none

/-- JOURNAL-READ: a count, 1 to 16 (R148). -/
def readJournalRead : List Byte → Option Nat
  | [n] => if 1 ≤ n.toNat ∧ n.toNat ≤ 16 then some n.toNat else none
  | _ => none

/-- RESTART: KEEP as none, or an office code 0 to 99,999 (R176). The office code field is present with KEEP too, and is not read then (log 16). -/
def readRestart : List Byte → Option (Option Nat)
  | [m, c0, c1, c2, c3] =>
    if m = 0x00 then some none
    else if m = 0x01 then if leNat [c0, c1, c2, c3] ≤ 99999 then some (some (leNat [c0, c1, c2, c3])) else none
    else none
  | _ => none

end Sys2Proof.Machine
end

