-- ==== Sys2Proof/Machine/Image.lean ====
section
/-! DEFINITION. Tariff images (chapter 4): where each field stands (section 11.7) and the nine ordered checks of LOAD-END with their locator (R74, R75). -/

namespace Sys2Proof.Machine

/-! ### Fields -/

/-- The `n` bytes of an image from an offset on. -/
def imgBytes (img : List Byte) (offset n : Nat) : List Byte := (img.drop offset).take n

/-- A number of `n` bytes at an offset, least significant byte first (R62). -/
def imgNat (img : List Byte) (offset n : Nat) : Nat := leNat (imgBytes img offset n)

/-- The byte at an offset. -/
def imgByte (img : List Byte) (offset : Nat) : Byte := img.getD offset 0

/-- R64: the header's tariff id. -/
def imageTariffId (img : List Byte) : Word32 := BitVec.ofNat 32 (imgNat img 0 4)

/-- R64: the header's effective time. -/
def imageEffective (img : List Byte) : Word32 := BitVec.ofNat 32 (imgNat img 4 4)

/-- R64: the header's image length. -/
def imageLength (img : List Byte) : Nat := imgNat img 8 2

/-- R64: the header's grace, in minutes. -/
def imageGrace (img : List Byte) : Nat := (imgByte img 10).toNat

/-- R64: the header's check value. -/
def imageCheck (img : List Byte) : Word32 := BitVec.ofNat 32 (imgNat img 12 4)

/-- R64: the header's office code. -/
def imageOffice (img : List Byte) : Nat := imgNat img 16 4

/-- R65: the check value computed over the image, the header's check field taken as zero. -/
def computedCheck (img : List Byte) : Word32 := crc32 (img.take 12 ++ [0, 0, 0, 0] ++ img.drop 16)

/-- The zone map entry of a three-digit destination prefix, as its byte (section 11.7). -/
def zoneByte (img : List Byte) (digits : Nat) : Byte := imgByte img (32 + digits)

/-- R66: the zone of a destination prefix, or none when it is CLOSED. A byte that check 6 of R74 refuses is read as CLOSED (log 19). -/
def zoneOf (img : List Byte) (digits : Nat) : Option (Fin 16) := readFin 16 (zoneByte img digits)

/-- R69: how a price between two granules is brought to one of them. -/
inductive RoundingMode
  | up
  | nearest
  | down
deriving DecidableEq, Repr

/-- Section 11.7: the rounding mode byte; none for a value that check 6 of R74 refuses. -/
def readRounding (b : Byte) : Option RoundingMode :=
  if b = 0x00 then some .up else if b = 0x01 then some .nearest else if b = 0x02 then some .down else none

/-- R67 to R70: a schedule. -/
structure Schedule where
  offered : Bool
  volumetric : Bool
  rounding : Option RoundingMode
  termCount : Nat
  divisor : Nat
  baseWeight : Nat
  stepWeight : Nat
  maxWeight : Nat
  maxSide : Nat
  maxLengthGirth : Nat
  granule : Nat
  maxValue : Nat
  ceiling : Nat
deriving DecidableEq, Repr

/-- Where the record of a schedule begins (R62). -/
def scheduleAt (n : Nat) : Nat := 1032 + 48 * n

/-- Section 11.7: the schedule of service `n`. An offered or volumetric byte other than 01H counts as no, which for the bytes that check 6 of R74 refuses is the model's choice (log 19). -/
def scheduleOf (img : List Byte) (n : Nat) : Schedule :=
  let o := scheduleAt n
  { offered := imgByte img o == 1, volumetric := imgByte img (o + 1) == 1, rounding := readRounding (imgByte img (o + 2)),
    termCount := (imgByte img (o + 3)).toNat, divisor := imgNat img (o + 4) 2, baseWeight := imgNat img (o + 6) 2,
    stepWeight := imgNat img (o + 8) 2, maxWeight := imgNat img (o + 10) 2, maxSide := imgNat img (o + 12) 2,
    maxLengthGirth := imgNat img (o + 14) 2, granule := (imgByte img (o + 16)).toNat, maxValue := imgNat img (o + 17) 4,
    ceiling := imgNat img (o + 21) 4 }

/-- R72: the kind of quantity a rate term multiplies. -/
inductive Basis
  | flat
  | step
  | gram
  | value
  | girth
  | percent
deriving DecidableEq, Repr

/-- Section 11.7: the basis byte; none for a value that check 6 of R74 refuses. -/
def readBasis (b : Byte) : Option Basis :=
  if b = 0x00 then some .flat else if b = 0x01 then some .step else if b = 0x02 then some .gram
  else if b = 0x03 then some .value else if b = 0x04 then some .girth else if b = 0x05 then some .percent else none

/-- R71: a flag condition. -/
inductive FlagCondition
  | always
  | set (flag : Fin 8)
  | clear (flag : Fin 8)
deriving DecidableEq, Repr

/-- Section 11.7: 00H NONE, 10H + f flag f SET, 20H + f flag f CLEAR; none for a value that check 6 of R74 refuses. -/
def readFlagCondition (b : Byte) : Option FlagCondition :=
  if b = 0x00 then some .always
  else if b.toNat / 16 = 1 then (readFin 8 (b - 0x10)).map .set
  else if b.toNat / 16 = 2 then (readFin 8 (b - 0x20)).map .clear
  else none

/-- R71 to R73: a rate term. -/
structure RateTerm where
  basis : Option Basis
  flag : Option FlagCondition
  extras : Option Extras
  coefficient : Int
  zones : BitVec 16
  bandFrom : Nat
  bandTo : Nat
  threshold : Nat
  cap : Nat
deriving DecidableEq, Repr

/-- R62: the term records before those of schedule `n`. -/
def termsBefore (img : List Byte) (n : Nat) : Nat :=
  ((List.range n).map fun k => (imgByte img (scheduleAt k + 3)).toNat).sum

/-- Section 11.7: term `k` of schedule `n`. -/
def termOf (img : List Byte) (n k : Nat) : RateTerm :=
  let o := Config.imageFixed + 28 * (termsBefore img n + k)
  { basis := readBasis (imgByte img o), flag := readFlagCondition (imgByte img (o + 1)), extras := readExtras (imgByte img (o + 2)),
    coefficient := signedOf 24 (imgNat img (o + 3) 3), zones := BitVec.ofNat 16 (imgNat img (o + 6) 2),
    bandFrom := imgNat img (o + 8) 4, bandTo := imgNat img (o + 12) 4, threshold := imgNat img (o + 16) 4,
    cap := imgNat img (o + 20) 4 }

/-! ### Validation -/

/-- R75: the part of an image in which a check failed. -/
inductive ImagePart
  | header
  | zoneMap (digits : Nat)
  | schedule (n : Nat)
  | term (n k : Nat)
deriving DecidableEq, Repr

/-- R74: why an image is refused. -/
inductive ImageFault
  | structureFault
  | checkFault
  | officeFault
deriving DecidableEq, Repr

/-- R74, R75: the reason, the check number and the part of a refused image. -/
structure Locator where
  fault : ImageFault
  check : Nat
  part : ImagePart
deriving DecidableEq, Repr

/-- The first part that fails, in the order listed. -/
def firstFailing (parts : List (ImagePart × Bool)) : Option ImagePart :=
  (parts.find? fun x => !x.2).map (·.1)

/-- A list of parts over the eight schedules, in order. -/
def overSchedules (f : Nat → List (ImagePart × Bool)) : List (ImagePart × Bool) := (List.range 8).flatMap f

/-- A list of parts over the terms of schedule `n`, in list order. -/
def overTerms (img : List Byte) (n : Nat) (ok : RateTerm → Bool) : List (ImagePart × Bool) :=
  (List.range (scheduleOf img n).termCount).map fun k => (.term n k, ok (termOf img n k))

/-- R74 check 1. -/
def check1 (img : List Byte) (length : Nat) : Bool :=
  img.length == length && imageLength img == length && decide (Config.imageFixed ≤ length)

/-- R74 check 2. -/
def check2 (img : List Byte) (check : Word32) : Bool :=
  computedCheck img == imageCheck img && imageCheck img == check

/-- R74 check 3. -/
def check3 (img : List Byte) (office : Option Nat) : Bool := office == some (imageOffice img)

/-- R74 check 4. -/
def check4 (img : List Byte) (tariffId effective : Option Word32) : Bool :=
  tariffId == some (imageTariffId img) && effective == some (imageEffective img) && decide (imageGrace img ≤ 120)

/-- R74 check 5, R75: a term count above 24; otherwise, when the length disagrees with the counts, the first schedule at which their running sum exceeds what the length holds, or the HEADER. -/
def check5 (img : List Byte) : Option ImagePart :=
  match firstFailing (overSchedules fun n => [(.schedule n, decide ((scheduleOf img n).termCount ≤ 24))]) with
  | some part => some part
  | none =>
    if img.length = Config.imageFixed + 28 * termsBefore img 8 then none
    else
      match firstFailing (overSchedules fun n =>
        [(.schedule n, decide (termsBefore img (n + 1) ≤ (img.length - Config.imageFixed) / 28))]) with
      | some part => some part
      | none => some .header

/-- R74 check 6: zone map entries, then each schedule's named values and those of its terms. -/
def check6 (img : List Byte) : Option ImagePart :=
  firstFailing
    ((List.range 1000).map (fun d => (ImagePart.zoneMap d, decide ((zoneByte img d).toNat < 16) || zoneByte img d == 0xFF)) ++
      overSchedules fun n =>
        (.schedule n, decide ((imgByte img (scheduleAt n)).toNat ≤ 1) && decide ((imgByte img (scheduleAt n + 1)).toNat ≤ 1) &&
          (scheduleOf img n).rounding.isSome) ::
        overTerms img n fun t => t.basis.isSome && t.flag.isSome && t.extras.isSome)

/-- R74 check 7: every field of R67, R68 and R69 in its range, and the ceiling a multiple of the granule. -/
def Schedule.inRange (sc : Schedule) : Bool :=
  (!sc.volumetric || decide (1000 ≤ sc.divisor ∧ sc.divisor ≤ 20000)) &&
    decide (1 ≤ sc.stepWeight ∧ sc.stepWeight ≤ 10000) && decide (1 ≤ sc.maxWeight) &&
    decide (1 ≤ sc.maxSide ∧ sc.maxSide ≤ 2000) && decide (1 ≤ sc.maxLengthGirth ∧ sc.maxLengthGirth ≤ 10000) &&
    decide (sc.maxValue ≤ 9999999) && decide (1 ≤ sc.granule ∧ sc.granule ≤ 100) && decide (sc.ceiling ≤ 9999999) &&
    decide (sc.ceiling % sc.granule = 0)

/-- R74 check 7, for the schedules that are offered. -/
def check7 (img : List Byte) : Option ImagePart :=
  firstFailing (overSchedules fun n => [(.schedule n, !(scheduleOf img n).offered || (scheduleOf img n).inRange)])

/-- R74 check 8. -/
def RateTerm.capOk (t : RateTerm) : Bool :=
  decide (t.cap ≤ 2 ^ 31 - 1) && (t.basis != some .percent || decide (-10000 ≤ t.coefficient ∧ t.coefficient ≤ 10000))

/-- R74 check 8, over every term. -/
def check8 (img : List Byte) : Option ImagePart :=
  firstFailing (overSchedules fun n => overTerms img n RateTerm.capOk)

/-- R74 check 9, over every term. -/
def check9 (img : List Byte) : Option ImagePart :=
  firstFailing (overSchedules fun n => overTerms img n fun t => decide (t.bandFrom ≤ t.bandTo))

/-- R74: the nine checks in order over the image in a LOADING bank; none when the image is valid. `office` is the office code held by the serial allocator. -/
def imageFault (bk : Bank) (office : Option Nat) : Option Locator :=
  let length := match bk.declared with | some d => d.length | none => 0
  let check := match bk.declared with | some d => d.check | none => 0
  if check1 bk.image length = false then some ⟨.structureFault, 1, .header⟩
  else if check2 bk.image check = false then some ⟨.checkFault, 2, .header⟩
  else if check3 bk.image office = false then some ⟨.officeFault, 3, .header⟩
  else if check4 bk.image bk.tariffId bk.effective = false then some ⟨.structureFault, 4, .header⟩
  else
    match check5 bk.image with
    | some part => some ⟨.structureFault, 5, part⟩
    | none =>
      match check6 bk.image with
      | some part => some ⟨.structureFault, 6, part⟩
      | none =>
        match check7 bk.image with
        | some part => some ⟨.structureFault, 7, part⟩
        | none =>
          match check8 bk.image with
          | some part => some ⟨.structureFault, 8, part⟩
          | none =>
            match check9 bk.image with
            | some part => some ⟨.structureFault, 9, part⟩
            | none => none

end Sys2Proof.Machine
end

