-- ==== Sys2Proof/Machine/Arithmetic.lean ====
section
/-! DEFINITION. The arithmetic of weighing (R50, R51, R56, R59), of rating (R85, R88 to R97) and of item numbers (R142): pure functions on whole numbers, each division with the rounding its rule states. -/

namespace Sys2Proof.Machine

/-- Rounded up. -/
def ceilDiv (a b : Nat) : Nat := (a + b - 1) / b

/-- Rounded to nearest, halves away from zero. -/
def roundAway (a : Int) (b : Nat) : Int :=
  if 0 ≤ a then ((2 * a.natAbs + b) / (2 * b) : Nat) else -((2 * a.natAbs + b) / (2 * b) : Nat)

/-! ### Weighing -/

/-- R50: the filtered counts of a window, rounded toward minus infinity. -/
def filterCounts (window : List Int) : Int := window.sum / (window.length : Int)

/-- R51: the raw weight, rounded to the nearest whole gram. -/
def rawWeight (cfg : ScaleConfig) (filtered workingZero : Int) : Int := roundAway ((filtered - workingZero) * cfg.span) 65536

/-- R51: the reading, the raw weight rounded to the nearest multiple of e. -/
def readingOf (cfg : ScaleConfig) (filtered workingZero : Int) : Int :=
  roundAway (rawWeight cfg filtered workingZero) cfg.division * cfg.division

/-- R56: the status of a capture of a reading; the first condition that holds gives it. -/
def captureStatus (cfg : ScaleConfig) (reading : Int) : Reason :=
  if (cfg.capacity : Int) + 9 * cfg.division < reading then .overload
  else if reading < -20 * (cfg.division : Int) then .underload
  else if reading < 20 * (cfg.division : Int) then .belowMinimum
  else .ok

/-- R59: the zero range in counts. -/
def zeroRange (cfg : ScaleConfig) : Nat := cfg.capacity * 65536 / cfg.span * 2 / 100

/-! ### The parcel -/

/-- R85: the longest side. -/
def Dimensions.longest (d : Dimensions) : Nat := max d.length (max d.width d.height)

/-- R85: the girth, twice the sum of the other two. -/
def Dimensions.girth (d : Dimensions) : Nat := 2 * (d.length + d.width + d.height - d.longest)

/-- R68: the longest side plus the girth. -/
def Dimensions.lengthGirth (d : Dimensions) : Nat := d.longest + d.girth

/-- R88: the volumetric weight. -/
def volumetricWeight (sc : Schedule) (d : Dimensions) : Nat := ceilDiv (d.length * d.width * d.height) sc.divisor

/-- R88: the chargeable weight with its kind. -/
def chargeableWeight (sc : Schedule) (weight : Nat) (dims : Option Dimensions) : Nat × WeightKind :=
  match sc.volumetric, dims with
  | true, some d =>
    if weight < volumetricWeight sc d then (volumetricWeight sc d, .volumetric) else (weight, .actual)
  | _, _ => (weight, .actual)

/-- R89: the number of steps. -/
def stepCount (sc : Schedule) (chargeable : Nat) : Nat :=
  if chargeable ≤ sc.baseWeight then 0 else ceilDiv (chargeable - sc.baseWeight) sc.stepWeight

/-- R85: the first limit that the parcel fails. -/
def limitRefusal (sc : Schedule) (facts : Facts) (weight : Nat) : Option Reason :=
  if sc.maxWeight < weight then some .overWeight
  else if facts.dimensions.any (fun d => decide (sc.maxSide < d.longest)) then some .overSize
  else if facts.dimensions.any (fun d => decide (sc.maxLengthGirth < d.lengthGirth)) then some .overSize
  else if facts.declared.any (fun v => decide (sc.maxValue < v)) then some .valueOverLimit
  else if sc.volumetric && facts.dimensions.isNone then some .missingDimensions
  else none

/-- R84 to R86: the check step: the refusal it finds, or the working quantities. -/
def checkParcel (img : List Byte) (facts : Facts) (weight : Nat) : Except Reason Working :=
  let sc := scheduleOf img facts.service.val
  if sc.offered = false then .error .serviceNotOffered
  else
    match facts.destination with
    | none => .error .missingDestination
    | some dest =>
      match zoneOf img (dest / 1000) with
      | none => .error .destinationClosed
      | some zone =>
        match limitRefusal sc facts weight with
        | some r => .error r
        | none =>
          let c := chargeableWeight sc weight facts.dimensions
          .ok { zone := zone, chargeable := c.1, kind := c.2, steps := stepCount sc c.1 }

/-! ### Rate terms -/

/-- R71: every extra of the first set is in the second. -/
def Extras.within (required held : Extras) : Bool :=
  (!required.signature || held.signature) && (!required.fragile || held.fragile) &&
    (!required.insured || held.insured) && (!required.proof || held.proof)

/-- R71: a flag condition against the flag snapshot. -/
def FlagCondition.holds (flags : BitVec 8) : FlagCondition → Bool
  | .always => true
  | .set f => flags.getLsbD f.val
  | .clear f => !flags.getLsbD f.val

/-- R71, R90: the four conditions of a term. A field that check 6 of R74 refuses makes the term not apply (log 19). -/
def RateTerm.applies (t : RateTerm) (flags : BitVec 8) (facts : Facts) (w : Working) : Bool :=
  t.basis.isSome && t.zones.getLsbD w.zone.val && t.extras.any (fun x => x.within facts.extras) &&
    t.flag.any (FlagCondition.holds flags) && decide (t.bandFrom ≤ w.chargeable ∧ w.chargeable ≤ t.bandTo)

/-- R91: the quantity of a basis other than PERCENT. -/
def quantityOf (t : RateTerm) (facts : Facts) (w : Working) : Basis → Nat
  | .flat => 1
  | .step => w.steps
  | .gram => w.chargeable - t.threshold
  | .value => match facts.declared with | some d => ceilDiv d 100 | none => 0
  | .girth => match facts.dimensions with | some d => d.lengthGirth - t.threshold | none => 0
  | .percent => 0

/-- R92, R93: the contribution before the cap. -/
def RateTerm.raw (t : RateTerm) (facts : Facts) (w : Working) (accumulator : Int) : Int :=
  match t.basis with
  | some .percent => (accumulator * t.coefficient).tdiv 10000
  | some b => t.coefficient * quantityOf t facts w b
  | none => 0

/-- R73, R92: the cap. -/
def capped (cap : Nat) (raw : Int) : Int :=
  if 0 < cap ∧ cap < raw.natAbs then (if raw < 0 then -(cap : Int) else (cap : Int)) else raw

/-- R94: the accumulator after a contribution. -/
def saturate (sum : Int) : Int :=
  if Config.accumulatorMax < sum then Config.accumulatorMax
  else if sum < -Config.accumulatorMax then -Config.accumulatorMax
  else sum

/-- R90 to R95: an evaluation after term `k` of its schedule has been taken. -/
def Evaluation.takeTerm (t : RateTerm) (k : Nat) (w : Working) (ev : Evaluation) : Evaluation :=
  if t.applies ev.flags ev.facts w then
    let c := capped t.cap (t.raw ev.facts w ev.accumulator)
    let sum := ev.accumulator + c
    { ev with
      accumulator := saturate sum
      marks := { ev.marks with sat := ev.marks.sat || decide (saturate sum ≠ sum) }
      trace := ev.trace ++ [⟨k, c⟩] }
  else ev

/-! ### Conversion -/

/-- R96: the granules of a positive accumulator, g being the granule in rate units. -/
def roundGranules (mode : RoundingMode) (accumulator g : Nat) : Nat :=
  match mode with
  | .up => ceilDiv accumulator g
  | .nearest => (accumulator + g / 2) / g
  | .down => accumulator / g

/-- R96: the postage before the ceiling. A rounding mode that check 6 of R74 refuses gives a free value (log 19). -/
def roundedPostage (sc : Schedule) (accumulator : Int) : Nat :=
  if accumulator ≤ 0 then 0
  else
    match sc.rounding with
    | some mode => roundGranules mode accumulator.toNat (sc.granule * 100) * sc.granule
    | none => Config.unknownRounding accumulator sc.granule * sc.granule

/-- R96, R97: the postage and the marks of a quote. -/
def convert (sc : Schedule) (accumulator : Int) (marks : Marks) : Nat × Marks :=
  (min (roundedPostage sc accumulator) sc.ceiling,
    { sat := marks.sat || decide (sc.ceiling < roundedPostage sc accumulator), zeroClamp := decide (accumulator < 0) })

/-! ### Item numbers -/

/-- R142: the weights of the thirteen digits, from the left. -/
def digitWeights : List Nat := [2, 7, 6, 5, 4, 3, 2, 7, 6, 5, 4, 3, 2]

/-- The `n` decimal digits of a number, the last first. -/
def digitsReversed : Nat → Nat → List Nat
  | 0, _ => []
  | n + 1, v => v % 10 :: digitsReversed n (v / 10)

/-- R142: the check digit of a thirteen-digit number. -/
def checkDigit (thirteen : Nat) : Nat :=
  let s := (List.zipWith (· * ·) (digitsReversed 13 thirteen).reverse digitWeights).sum
  let r := (11 - s % 11) % 11
  if r = 10 then 0 else r

/-- R142: office code, serial and check digit as one fourteen-digit number. -/
def itemNumber (officeCode serial : Nat) : Nat :=
  (officeCode * 100000000 + serial) * 10 + checkDigit (officeCode * 100000000 + serial)

end Sys2Proof.Machine
end

