-- ==== Sys2Proof/Machine/Flags.lean ====
section
/-! DEFINITION. The flags and marks that the block works out from its figures: LOW (R128), NEAR-FULL (R147), the office flags (R172), the budget (R17, R18), a bank being due (R113), and the order of sequence numbers (R145). -/

namespace Sys2Proof.Machine

/-- R128: the LOW mark, worked out from REMAINING and the low threshold. -/
def Account.marked (a : Account) : Account := { a with low := decide (a.remaining < a.threshold) }

/-- R147: NEAR-FULL. -/
def Journal.nearFull (j : Journal) : Bool := decide (Config.journalNearFull ≤ j.entries.length)

/-- R134, R137, R130: the journal has room for one more entry. -/
def Journal.hasRoom (j : Journal) : Bool := decide (j.entries.length < Config.journalCapacity)

/-- R145: the distance by which sequence number `b` follows `a` along the cycle of 2^32. -/
def seqDistance (a b : Word32) : Nat := (b - a).toNat

/-- R172: one flag after its action. -/
def FlagAction.apply (held : Bool) : FlagAction → Bool
  | .clear => false
  | .set => true
  | .keep => held

/-- R172: the eight flags after a FLAGS command; bit f is flag f. -/
def flagsAfter (flags : BitVec 8) (actions : List FlagAction) : BitVec 8 :=
  BitVec.ofNat 8 ((List.range 8).foldl
    (fun acc f => if FlagAction.apply (flags.getLsbD f) (actions.getD f .keep) then acc + 2 ^ f else acc) 0)

/-- R113: a LOADED bank whose effective time is at or before the clock's value. -/
def Bank.due (now : Word32) (bk : Bank) : Bool :=
  decide (bk.state = .loaded) &&
    match bk.effective with
    | some t => decide (t ≤ now)
    | none => false

/-- R17: the budget total of a context with its label jobs: records held, weigh, rating and label jobs. -/
def PositionContext.budget (labels : Nat) (c : PositionContext) : Nat :=
  c.completions.length + (if c.weigh.isSome then 1 else 0) + (if c.rating then 1 else 0) + labels

/-- R100: an item that a rating could take: WEIGHED, QUOTED or STALE. -/
def ItemState.fit : ItemState → Bool
  | .weighed | .quoted | .stale => true
  | .draft | .weighing | .rateQueued | .rating | .accepted | .voided => false

/-- R54, R30: an item neither in flight nor accepted: DRAFT, WEIGHED, QUOTED or STALE. -/
def ItemState.free : ItemState → Bool
  | .draft | .weighed | .quoted | .stale => true
  | .weighing | .rateQueued | .rating | .accepted | .voided => false

/-- R16: a context whose completion queue is in use. -/
def PositionState.clerked : PositionState → Bool
  | .attached | .inTransaction => true
  | .offline | .linked => false

/-- R139: the serials that remain: the head block's from the next serial, and every serial of the other blocks. -/
def Allocator.serialsLeft (al : Allocator) : Nat :=
  match al.blocks, al.next with
  | h :: rest, some n => (h.last + 1 - n) + (rest.map fun x => x.last + 1 - x.first).sum
  | _, _ => 0

end Sys2Proof.Machine
end

