-- ==== Sys2Proof/Machine/Lines.lean ====
section
/-! DEFINITION. The ports and lines: how frames are found in the bytes received (R179, R180, R181) and how the module's own frames are built (R178, sections 11.1 and 11.9). -/

namespace Sys2Proof.Machine

/-! ### The envelope (section 11.1) -/

/-- The sync byte of a position port. -/
def positionSync : Byte := 0xA5

/-- The sync byte of the office port. -/
def officeSync : Byte := 0x5A

/-- The bytes from the length to the end of the payload, over which the CRC-16 is computed. -/
def Frame.body (f : Frame) : List Byte := leBytes 2 (2 + f.payload.length) ++ f.code :: f.tag :: f.payload

/-- A frame in its envelope. -/
def Frame.wire (sync : Byte) (f : Frame) : List Byte := sync :: (f.body ++ crc16Bytes f.body)

/-- R179: finds the frames in the bytes received; answers them in order with the bytes that may still become a frame. The first argument is fuel: the number of bytes. -/
def scanFrames (sync : Byte) : Nat → List Byte → List Frame × List Byte
  | 0, bs => ([], bs)
  | _ + 1, [] => ([], [])
  | n + 1, b :: rest =>
    if b ≠ sync then scanFrames sync n rest
    else
      match rest with
      | l0 :: l1 :: more =>
        let len := l0.toNat + 256 * l1.toNat
        if len < 2 ∨ 1024 < len then scanFrames sync n rest
        else if more.length < len + 2 then ([], b :: rest)
        else if crc16Bytes (l0 :: l1 :: more.take len) = (more.drop len).take 2 then
          match more.take len with
          | code :: tag :: payload =>
            let r := scanFrames sync n (more.drop (len + 2))
            (⟨code, tag, payload⟩ :: r.1, r.2)
          | _ => scanFrames sync n rest
        else scanFrames sync n rest
      | _ => ([], b :: rest)

/-- R6, R168: the port after bytes have arrived: each frame found is held, in order, while fewer than `room` are held, and is discarded otherwise. -/
def Port.receive (sync : Byte) (room : Nat) (bytes : List Byte) (port : Port) : Port :=
  let r := scanFrames sync (port.rx ++ bytes).length (port.rx ++ bytes)
  { held := port.held ++ r.1.take (room - port.held.length), rx := r.2 }

/-- R168: a break in the line: the frame whose reception it cuts short is discarded, all of its bytes with it (log 26); the frames held stay. -/
def Port.cutShort (port : Port) : Port := { port with rx := [] }

/-! ### Scale lines (R180) -/

/-- One arrival at a channel: an error sample (a failed check or the error flag, R47), or a good sample with its count. -/
inductive Arrival
  | error
  | good (count : Int)
deriving DecidableEq, Repr

/-- R180: finds the sample frames in the bytes received. A frame whose check fails is an error sample, and the line looks for a sync byte from the byte after its sync. -/
def scanSamples : Nat → List Byte → List Arrival × List Byte
  | 0, bs => ([], bs)
  | _ + 1, [] => ([], [])
  | n + 1, b :: rest =>
    if b ≠ 0xC3 then scanSamples n rest
    else
      match rest with
      | c0 :: c1 :: c2 :: status :: check :: more =>
        if check = xorBytes [c0, c1, c2, status] then
          let r := scanSamples n more
          ((if status.getLsbD 0 then .error else .good (signedOf 24 (leNat [c0, c1, c2]))) :: r.1, r.2)
        else
          let r := scanSamples n rest
          (.error :: r.1, r.2)
      | _ => ([], b :: rest)

/-- Section 11.9: the six bytes of a sample frame with its status byte. -/
def sampleWire (count : Int) (status : Byte) : List Byte :=
  0xC3 :: (leInt 3 count ++ [status, xorBytes (leInt 3 count ++ [status])])

/-! ### Printer lines (R181) -/

/-- R181: one answer of a printer, as it reaches the spool. -/
inductive PrinterAnswer
  | done (sendNumber : Byte)
  | fault (sendNumber : Byte) (reason : FaultReason)
  | ready
deriving DecidableEq, Repr

/-- Section 11.9: the answer that a code, a send number and a reason byte spell; none for an unknown code, or a FAULT with another reason. -/
def readAnswer (code sendNumber reason : Byte) : Option PrinterAnswer :=
  if code = 0x01 then some (.done sendNumber)
  else if code = 0x02 then
    if reason = 0x01 then some (.fault sendNumber .media)
    else if reason = 0x02 then some (.fault sendNumber .jam)
    else if reason = 0x03 then some (.fault sendNumber .head)
    else none
  else if code = 0x03 then some .ready
  else none

/-- R181: finds the answer frames in the bytes received; a frame that fails is discarded and the line looks for a sync byte from the byte after its sync. -/
def scanAnswers : Nat → List Byte → List PrinterAnswer × List Byte
  | 0, bs => ([], bs)
  | _ + 1, [] => ([], [])
  | n + 1, b :: rest =>
    if b ≠ 0x69 then scanAnswers n rest
    else
      match rest with
      | code :: sendNumber :: reason :: check :: more =>
        if check = xorBytes [code, sendNumber, reason] then
          match readAnswer code sendNumber reason with
          | some a =>
            let r := scanAnswers n more
            (a :: r.1, r.2)
          | none => scanAnswers n rest
        else scanAnswers n rest
      | _ => ([], b :: rest)

/-- Section 11.9: the five bytes of an answer frame with the check byte given. -/
def answerWire (code sendNumber reason check : Byte) : List Byte := [0x69, code, sendNumber, reason, check]

end Sys2Proof.Machine
end

