-- ==== Sys2Proof/Machine/Layouts.lean ====
section
/-! DEFINITION. The records and answers that the module sends, byte by byte (chapter 11): codes of section 11.5, reasons of section 11.10, completion and refusal records (11.3), item detail (11.4), office answers (11.6), journal entry and label record (11.8), the label frame (11.9). -/

namespace Sys2Proof.Machine

/-! ### Codes (sections 11.5 and 11.10) -/

def Reason.code : Reason → Byte
  | .ok => 0
  | .cancelled => 1
  | .state => 2
  | .format => 3
  | .protection => 4
  | .accountBlocked => 5
  | .transactionFull => 6
  | .noScale => 7
  | .missingDestination => 8
  | .missingDimensions => 9
  | .noTariff => 10
  | .serviceNotOffered => 11
  | .destinationClosed => 12
  | .overWeight => 13
  | .overSize => 14
  | .valueOverLimit => 15
  | .reRate => 16
  | .noCredit => 17
  | .noNumbers => 18
  | .journalFull => 19
  | .noPrinter => 20
  | .clockUnset => 21
  | .mismatch => 22
  | .overload => 23
  | .underload => 24
  | .belowMinimum => 25
  | .unstable => 26
  | .zeroRange => 27
  | .scaleFault => 28
  | .scaleOff => 29

/-- Section 11.10: the office refusal reasons; a CREDIT refused for a full journal carries 19. -/
inductive OfficeReason
  | noBank
  | sequence
  | length
  | structureFault
  | check
  | office
  | state
  | order
  | range
  | full
  | room
  | overflow
  | hold
  | format
  | journalFull
deriving DecidableEq, Repr

def OfficeReason.code : OfficeReason → Byte
  | .noBank => 64
  | .sequence => 65
  | .length => 66
  | .structureFault => 67
  | .check => 68
  | .office => 69
  | .state => 70
  | .order => 71
  | .range => 72
  | .full => 73
  | .room => 74
  | .overflow => 75
  | .hold => 76
  | .format => 77
  | .journalFull => 19

def ItemState.code : ItemState → Byte
  | .draft => 0
  | .weighing => 1
  | .weighed => 2
  | .rateQueued => 3
  | .rating => 4
  | .quoted => 5
  | .stale => 6
  | .accepted => 7
  | .voided => 8

def LabelState.code : LabelState → Byte
  | .unlabelled => 0
  | .queued => 1
  | .printing => 2
  | .printed => 3
  | .removed => 4

def PositionState.code : PositionState → Byte
  | .offline => 0
  | .linked => 1
  | .attached => 2
  | .inTransaction => 3

def ChannelState.code : ChannelState → Byte
  | .off => 0
  | .fault => 1
  | .unstable => 2
  | .stable => 3

/-- The weigh sub-state with its owner position and slot, which are absent in IDLE. -/
def WeighState.bytes : WeighState → List Byte
  | .idle => [0x00, 0xFF, 0xFF]
  | .waiting p k => [0x01, BitVec.ofNat 8 p.val, BitVec.ofNat 8 k.val]

def PrinterState.code : PrinterState → Byte
  | .off => 0
  | .ready => 1
  | .printing => 2
  | .faulted _ => 3

def FaultReason.code : FaultReason → Byte
  | .media => 1
  | .jam => 2
  | .head => 3
  | .timeout => 4

/-- The fault reason, absent when the printer is not FAULTED (R153). -/
def PrinterState.reasonByte : PrinterState → Byte
  | .faulted r => r.code
  | .off | .ready | .printing => 0xFF

def BankState.code : BankState → Byte
  | .empty => 0
  | .loading => 1
  | .loaded => 2
  | .active => 3
  | .retiring => 4

def bankCode : BankId → Byte
  | .A => 0
  | .B => 1

def WeightKind.code : WeightKind → Byte
  | .actual => 0
  | .volumetric => 1

def AccountStatus.code : AccountStatus → Byte
  | .opened => 0
  | .blocked => 1

def Supply.code : Supply → Byte
  | .normal => 0
  | .hold => 1

/-- Bit 0 SIGNATURE, bit 1 FRAGILE, bit 2 INSURED, bit 3 PROOF. -/
def Extras.byte (x : Extras) : Byte :=
  boolByte x.signature + 2 * boolByte x.fragile + 4 * boolByte x.insured + 8 * boolByte x.proof

/-- Bit 0 SAT, bit 1 ZERO-CLAMP. -/
def Marks.byte (m : Marks) : Byte := boolByte m.sat + 2 * boolByte m.zeroClamp

/-! ### Records (sections 11.3, 11.4, 11.8) -/

/-- The kind byte of a completion record. -/
def Completion.kind : Completion → Byte
  | .weighDone _ _ _ _ => 1
  | .rateDone _ _ _ _ _ => 2
  | .labelDone _ _ _ => 3

/-- Section 11.3: the 16-byte completion record. -/
def Completion.bytes (r : Completion) : List Byte :=
  match r with
  | .weighDone st k w pw => [r.kind, st.code, BitVec.ofNat 8 k.val] ++ optBytes 4 w ++ optBytes 4 pw ++ List.replicate 5 0
  | .rateDone st o n res last =>
    [r.kind, st.code, BitVec.ofNat 8 o.val, BitVec.ofNat 8 n, BitVec.ofNat 8 res] ++ optBytes 4 last ++ List.replicate 7 0
  | .labelDone k num l =>
    [r.kind, Reason.ok.code, BitVec.ofNat 8 k.val] ++ bcdBytes 7 num ++ [BitVec.ofNat 8 l.val] ++ List.replicate 5 0

/-- Section 11.4: the quote in an item detail. -/
def Quote.bytes (q : Quote) : List Byte :=
  leBytes 4 q.postage ++ leBytes 4 q.tariffId.toNat ++ [bankCode q.bank] ++ leBytes 2 q.generation.toNat ++
    leBytes 4 q.chargeable ++ [q.kind.code, BitVec.ofNat 8 q.zone.val, q.marks.byte, boolByte q.stale,
    BitVec.ofNat 8 q.trace.length] ++ q.trace.flatMap fun e => BitVec.ofNat 8 e.term :: leInt 8 e.contribution

/-- Section 11.4: the dimensions, each 2 bytes, absent together. -/
def dimensionBytes : Option Dimensions → List Byte
  | some d => leBytes 2 d.length ++ leBytes 2 d.width ++ leBytes 2 d.height
  | none => absentBytes 6

/-- Section 11.4: the item detail. -/
def Item.bytes (i : Item) : List Byte :=
  [i.state.code, BitVec.ofNat 8 i.facts.service.val, i.facts.extras.byte, i.label.code] ++
    optBcd 3 i.facts.destination ++ optBytes 4 i.facts.declared ++ dimensionBytes i.facts.dimensions ++
    optBytes 4 i.weight ++ optBytes 4 i.previous ++ optBcd 7 i.itemNumber ++
    match i.quote with
    | some q => 0x01 :: q.bytes
    | none => [0x00]

/-- Section 11.8: the item fields of a journal entry between the account and the amount, in the layout's order, with the time. -/
def saleBytes (time : Word32) (x : SaleRecord) : List Byte :=
  [BitVec.ofNat 8 x.position.val, x.kind.code] ++ leBytes 4 time.toNat ++ bcdBytes 7 x.itemNumber ++
    [BitVec.ofNat 8 x.service.val, BitVec.ofNat 8 x.zone.val, x.marks.byte] ++ leBytes 4 x.postage ++
    leBytes 4 x.chargeable ++ leBytes 4 x.tariffId.toNat

/-- Section 11.8: the 40-byte journal entry. -/
def JournalEntry.bytes (e : JournalEntry) : List Byte :=
  leBytes 4 e.seq.toNat ++
    match e.event with
    | .accept x => [0x01, BitVec.ofNat 8 e.account.val] ++ saleBytes e.time x ++ absentBytes 4 ++ [0x00, 0x00]
    | .void x => [0x02, BitVec.ofNat 8 e.account.val] ++ saleBytes e.time x ++ absentBytes 4 ++ [0x00, 0x00]
    | .credit amount =>
      [0x03, BitVec.ofNat 8 e.account.val] ++ absentBytes 2 ++ leBytes 4 e.time.toNat ++ absentBytes 22 ++ leBytes 4 amount ++
        [0x00, 0x00]

/-- Section 11.8: the 34-byte label record. -/
def LabelRecord.bytes (r : LabelRecord) : List Byte :=
  bcdBytes 7 r.itemNumber ++ [BitVec.ofNat 8 r.service.val] ++ leBytes 4 r.postage ++ leBytes 4 r.time.toNat ++
    leBytes 4 r.officeCode ++ [BitVec.ofNat 8 r.position.val] ++ leBytes 4 r.chargeable ++
    [r.kind.code, BitVec.ofNat 8 r.zone.val] ++ optBcd 3 r.destination ++ leBytes 4 r.tariffId.toNat

/-- Section 11.9: the label frame, with its send number and print attempts. -/
def labelWire (sendNumber : Byte) (attempts : Nat) (r : LabelRecord) : List Byte :=
  let body := [36, sendNumber, BitVec.ofNat 8 attempts] ++ r.bytes
  0x96 :: (body ++ [xorBytes body])

/-! ### Answers to requests (sections 11.2 and 11.3) -/

/-- R9: the four response codes with their content. The slot of a refusal record is read from the request. -/
inductive Answer
  | taken (result : List Byte)
  | reported (reason : Reason) (figureA figureB : Nat)
  | busy
  | unavailable
deriving DecidableEq, Repr

/-- REPORTED with both figures 0. -/
def Answer.refuse (r : Reason) : Answer := .reported r 0 0

/-- The payload of the response: `code` and `slotByte` are the request's, for the refusal record. -/
def Answer.payload (code slotByte : Byte) : Answer → List Byte
  | .taken result => 0x00 :: result
  | .reported r a b => [0x01, code, r.code, slotByte, 0x00] ++ leBytes 8 a ++ leBytes 4 b
  | .busy => [0x02]
  | .unavailable => [0x03]

/-- R179: the code of a response: the request's with 80H added; for a code of 80H or above a free value (log 12). -/
def responseCode (code : Byte) : Byte := if code.toNat < 128 then code + 0x80 else Config.wideResponseCode code

/-- R179: the ATTENTION frame: code 40H, tag 00H, position number and kind. -/
def attentionWire (p : PositionId) (r : Completion) : List Byte :=
  Frame.wire positionSync ⟨0x40, 0x00, [BitVec.ofNat 8 p.val, r.kind]⟩

/-! ### Answers to office commands (section 11.6) -/

/-- R168: DONE with its data, or REFUSED with a reason and its figures. -/
inductive OfficeAnswer
  | done (data : List Byte)
  | refused (reason : OfficeReason) (figures : List Byte)
deriving DecidableEq, Repr

def OfficeAnswer.payload : OfficeAnswer → List Byte
  | .done data => 0x00 :: data
  | .refused r figures => [0x01, r.code] ++ figures

/-- R75, section 11.6: the locator: check number 1, part 1, prefix 2, schedule 1, term index 1, absent where they do not apply. DESIGN CHOICE (log 27): chapter 11 does not say how the prefix is coded, and the model sends it as a number of two bytes, least significant first. -/
def Locator.bytes (x : Locator) : List Byte :=
  BitVec.ofNat 8 x.check ::
    match x.part with
    | .header => [0x00, 0xFF, 0xFF, 0xFF, 0xFF]
    | .zoneMap d => 0x01 :: leBytes 2 d ++ [0xFF, 0xFF]
    | .schedule n => [0x02, 0xFF, 0xFF, BitVec.ofNat 8 n, 0xFF]
    | .term n k => [0x03, 0xFF, 0xFF, BitVec.ofNat 8 n, BitVec.ofNat 8 k]

def ImageFault.reason : ImageFault → OfficeReason
  | .structureFault => .structureFault
  | .checkFault => .check
  | .officeFault => .office

/-- ACCOUNT's answer: the account as it stands (R129). -/
def Account.bytes (a : Account) : List Byte :=
  [BitVec.ofNat 8 a.key.val, a.status.code] ++ leBytes 4 a.threshold ++ leBytes 6 a.loaded ++ leBytes 6 a.issued ++
    leBytes 6 a.refunded ++ leBytes 6 a.remaining ++ leBytes 4 a.pieces ++ [boolByte a.low]

/-- R125: a bank in STATUS. -/
def Bank.statusBytes (bk : Bank) : List Byte :=
  [bk.state.code] ++ optBytes 4 (bk.tariffId.map BitVec.toNat) ++ optBytes 4 (bk.effective.map BitVec.toNat) ++
    optBytes 2 (bk.generation.map BitVec.toNat) ++ [BitVec.ofNat 8 bk.refs] ++
    (match bk.state, bk.graceTimer with
      | .retiring, .running n => leBytes 2 n
      | .retiring, _ => leBytes 2 0
      | _, _ => absentBytes 2) ++
    match bk.state, bk.declared with
    | .loading, some d => leBytes 2 bk.image.length ++ leBytes 2 d.length
    | _, _ => absentBytes 4

/-- R152: the journal in STATUS. -/
def Journal.statusBytes (j : Journal) : List Byte :=
  leBytes 2 j.entries.length ++ [boolByte j.nearFull] ++ leBytes 4 j.next.toNat

/-- R139: the allocator in STATUS. -/
def Allocator.statusBytes (al : Allocator) : List Byte :=
  leBytes 4 al.serialsLeft ++ optBytes 4 al.next ++ leBytes 4 al.highest

/-- R167: a printer in STATUS; the condition byte of the head job is a free value (log 13). -/
def Printer.statusBytes (pr : Printer) : List Byte :=
  [boolByte pr.enabled, pr.state.code, pr.state.reasonByte, BitVec.ofNat 8 pr.queue.length] ++
    match pr.queue with
    | j :: _ =>
      bcdBytes 7 j.itemNumber ++ [BitVec.ofNat 8 j.position.val, Config.conditionCode (decide (j.condition = .printing)),
        BitVec.ofNat 8 j.attempts]
    | [] => absentBytes 10

/-- R175: a position in STATUS. -/
def PositionContext.statusBytes (c : PositionContext) : List Byte :=
  [boolByte c.config.enabled, c.state.code, boolByte c.linePresent, optByte (c.account.map (·.val))]

/-- R175, section 11.6: the data of the STATUS answer. -/
def State.statusBytes (s : State) : List Byte :=
  leBytes 4 s.clock.value.toNat ++ [boolByte s.clock.valid] ++ optBytes 4 s.allocator.officeCode ++
    [s.flags, s.supply.code] ++ s.tariffs.bankA.statusBytes ++ s.tariffs.bankB.statusBytes ++
    (s.accounts.toList.flatMap fun a => [a.status.code, boolByte a.low]) ++ s.journal.statusBytes ++
    s.allocator.statusBytes ++ s.printers.toList.flatMap Printer.statusBytes ++ s.labelCounts.toList.map (BitVec.ofNat 8) ++
    (s.channels.toList.flatMap fun ch => ch.state.code :: ch.weigh.bytes) ++
    s.positions.toList.flatMap PositionContext.statusBytes

/-- R148: the data of a JOURNAL-READ answer: the entries, then count held, NEAR-FULL and next sequence number (their order: log 14). -/
def Journal.readBytes (n : Nat) (j : Journal) : List Byte :=
  (j.entries.take n).flatMap JournalEntry.bytes ++ j.statusBytes

/-- R149: the data of a JOURNAL-RELEASE answer: count removed, count held, oldest sequence (absent when empty), NEAR-FULL and next sequence number (their order: log 14). -/
def Journal.releaseBytes (removed : Nat) (j : Journal) : List Byte :=
  leBytes 2 removed ++ leBytes 2 j.entries.length ++ optBytes 4 (j.entries.head?.map (·.seq.toNat)) ++
    [boolByte j.nearFull] ++ leBytes 4 j.next.toNat

end Sys2Proof.Machine
end

