-- ==== Sys2Proof/Machine/Ops.lean ====
section
/-! DEFINITION. The named operations that the meanings share: reading and writing one unit of State, the writes to the non-volatile store, taking a request or command and answering it, handing a completion record to the PCT, and what the blocks do for one another (release of a bank reference, end of a weigh, end of a rating, sending a label job, activation, grace expiry, forced detach, rebuilding from the store). -/

namespace Sys2Proof.Machine

/-! ### One unit of State -/

def State.ctx (s : State) (p : PositionId) : PositionContext := tget s.positions p

def State.setCtx (p : PositionId) (c : PositionContext) (s : State) : State := { s with positions := tset s.positions p c }

def State.channel (s : State) (c : ChannelId) : Channel := tget s.channels c

def State.setChannel (c : ChannelId) (ch : Channel) (s : State) : State := { s with channels := tset s.channels c ch }

def State.bank (s : State) : BankId → Bank
  | .A => s.tariffs.bankA
  | .B => s.tariffs.bankB

def State.setBank (b : BankId) (bk : Bank) (s : State) : State :=
  match b with
  | .A => { s with tariffs := { s.tariffs with bankA := bk } }
  | .B => { s with tariffs := { s.tariffs with bankB := bk } }

def State.account (s : State) (a : AccountId) : Account := tget s.accounts a

def State.setAccount (a : AccountId) (x : Account) (s : State) : State := { s with accounts := tset s.accounts a x }

def State.printer (s : State) (l : PrinterId) : Printer := tget s.printers l

def State.setPrinter (l : PrinterId) (pr : Printer) (s : State) : State := { s with printers := tset s.printers l pr }

def State.setEvaluatorState (e : EvaluatorState) (s : State) : State := { s with evaluator := { s.evaluator with state := e } }

/-- R23: the item in a slot of the position's transaction; none when the slot is EMPTY or no transaction is open. -/
def State.item (s : State) (p : PositionId) (k : Slot) : Option Item :=
  match (s.ctx p).transaction with
  | some t => tget t k
  | none => none

/-- R33: writes a slot of the position's transaction; without a transaction the change is dropped. -/
def State.setItem (p : PositionId) (k : Slot) (i : Option Item) (s : State) : State :=
  match (s.ctx p).transaction with
  | some t => s.setCtx p { s.ctx p with transaction := some (tset t k i) }
  | none => s

/-- The frames a step puts on the ports and lines are appended in order. -/
def State.emit (x : Sent) (s : State) : State := { s with sent := s.sent ++ [x] }

/-- R176, R177: an event reaches a block only while the module runs; otherwise it changes nothing (log 8). `sent` holds the frames of this step alone (log 4). -/
def State.running (f : State → State) (s : State) : Host.Outcome State Fault Refusal :=
  .next (if s.power = .running then f { s with sent := [] } else { s with sent := [] })

/-! ### The non-volatile store (R177): each owner writes its change in the event that makes it (log 22) -/

/-- R5, R173: a position's configuration. -/
def State.savePosition (p : PositionId) (s : State) : State :=
  { s with nvs := { s.nvs with positions := tset s.nvs.positions p (s.ctx p).config } }

/-- R45, R174: a channel's configuration. -/
def State.saveChannel (c : ChannelId) (s : State) : State :=
  { s with nvs := { s.nvs with channels := tset s.nvs.channels c (s.channel c).config } }

/-- R124: what the store keeps of a bank: a LOADED or ACTIVE bank; every other bank is stored EMPTY. -/
def Bank.stored (bk : Bank) : Option StoredBank :=
  match bk.state with
  | .loaded => some ⟨false, bk.image, bk.tariffId, bk.effective, bk.grace, bk.generation⟩
  | .active => some ⟨true, bk.image, bk.tariffId, bk.effective, bk.grace, bk.generation⟩
  | .empty | .loading | .retiring => none

/-- R107, R124: the banks, the generation counter and the last-loaded bank. -/
def State.saveTariffs (s : State) : State :=
  { s with
    nvs :=
      { s.nvs with
        bankA := s.tariffs.bankA.stored, bankB := s.tariffs.bankB.stored, counter := s.tariffs.counter,
        lastLoaded := s.tariffs.lastLoaded } }

/-- R126, R133: an account. -/
def State.saveAccount (a : AccountId) (s : State) : State :=
  { s with nvs := { s.nvs with accounts := tset s.nvs.accounts a (s.account a) } }

/-- R139, R140: the serial allocator. -/
def State.saveAllocator (s : State) : State := { s with nvs := { s.nvs with allocator := s.allocator } }

/-- R151: the journal. -/
def State.saveJournal (s : State) : State := { s with nvs := { s.nvs with journal := s.journal } }

/-- R165: a job as stored: the condition is volatile. -/
def Job.stored (j : Job) : Job := { j with condition := .waiting }

/-- R165: a printer's queue with its jobs and their print attempts. -/
def State.saveQueue (l : PrinterId) (s : State) : State :=
  { s with nvs := { s.nvs with queues := tset s.nvs.queues l ((s.printer l).queue.map Job.stored) } }

/-- R164: a printer's enabled setting. -/
def State.savePrinter (l : PrinterId) (s : State) : State :=
  { s with nvs := { s.nvs with printersEnabled := tset s.nvs.printersEnabled l (s.printer l).enabled } }

/-- R172: the office flags. -/
def State.saveFlags (s : State) : State := { s with nvs := { s.nvs with flags := s.flags } }

/-! ### References on banks (R116, R117) -/

/-- R116, R117: `n` references given back; a RETIRING bank whose count comes to 0 becomes EMPTY. -/
def Bank.release (n : Nat) (bk : Bank) : Bank :=
  if bk.state = .retiring ∧ bk.refs - n = 0 then .blank else { bk with refs := bk.refs - n }

/-- R116: one reference on a bank is released. -/
def State.release (b : BankId) (s : State) : State := s.setBank b ((s.bank b).release 1)

/-- R27: the bank on which an item's quote holds a reference: exactly while the item is QUOTED. -/
def Item.claim (i : Item) : Option BankId :=
  match i.state, i.quote with
  | .quoted, some q => some q.bank
  | _, _ => none

/-- R27, R32: the reference that an item's quote holds, if it holds one, is released. -/
def State.releaseQuote (i : Item) (s : State) : State :=
  match i.claim with
  | some b => s.release b
  | none => s

/-- R34, R36, R29: the item's quote is discarded, its reference released if it was QUOTED, and the item takes a new state. -/
def State.requote (p : PositionId) (k : Slot) (st : ItemState) (s : State) : State :=
  match s.item p k with
  | some i => (s.releaseQuote i).setItem p k (some { i with state := st, quote := none })
  | none => s

/-- R32: the references of a whole transaction's quotes are released. -/
def State.releaseAll (t : Transaction) (s : State) : State :=
  t.toList.foldl
    (fun s o =>
      match o with
      | some i => s.releaseQuote i
      | none => s)
    s

/-! ### Completion records (R16, R19) -/

/-- R16, R19: a completion record is handed to the PCT: appended for an ATTACHED or IN-TRANSACTION position, with one ATTENTION frame when the queue was empty, and discarded otherwise. -/
def State.handCompletion (p : PositionId) (r : Completion) (s : State) : State :=
  if (s.ctx p).state.clerked then
    let s' := s.setCtx p { s.ctx p with completions := (s.ctx p).completions ++ [r] }
    if (s.ctx p).completions.isEmpty then s'.emit (.position p (attentionWire p r)) else s'
  else s

/-! ### Weighs (R35, R56, R57) -/

/-- R35: the end of a weigh at its item; `reading` is read only for OK. -/
def Item.weighEnded (status : Reason) (reading : Nat) (i : Item) : Item :=
  if status = .ok then { i with previous := i.weight, weight := some reading, state := .weighed }
  else { i with state := if i.weight.isSome then .weighed else .draft }

/-- R33, R35: the PCT applies the end of a weigh to the item, which must be WEIGHING. -/
def State.applyWeighEnd (p : PositionId) (k : Slot) (status : Reason) (reading : Nat) (s : State) : State :=
  match s.item p k with
  | some i => if i.state = .weighing then s.setItem p k (some (i.weighEnded status reading)) else s
  | none => s

/-- R35, R56, R57: the PCT's part of the end of a weigh: the item, the weigh in flight, and the WEIGH-DONE with the item's weights as they stand. -/
def State.finishWeigh (p : PositionId) (k : Slot) (status : Reason) (reading : Nat) (s : State) : State :=
  let s1 := s.applyWeighEnd p k status reading
  let s2 := s1.setCtx p { s1.ctx p with weigh := none }
  s2.handCompletion p
    (.weighDone status k ((s1.item p k).bind (·.weight)) ((s1.item p k).bind (·.previous)))

/-- R57: the weigh timer stops and the weigh sub-state returns to IDLE. -/
def Channel.freed (ch : Channel) : Channel := { ch with weigh := .idle, weighTimer := none }

/-- R57: a WAITING weigh of a channel ends with a status; an IDLE channel is left as it is. -/
def State.endWeigh (c : ChannelId) (status : Reason) (reading : Nat) (s : State) : State :=
  match (s.channel c).weigh with
  | .waiting p k => (s.setChannel c (s.channel c).freed).finishWeigh p k status reading
  | .idle => s

/-- R57: the channel that holds the weigh of a position. -/
def State.weighChannel (s : State) (p : PositionId) : Option ChannelId :=
  (List.finRange 8).find? fun c =>
    match (s.channel c).weigh with
    | .waiting q _ => decide (q = p)
    | .idle => false

/-! ### Ratings (R37, R87, R100) -/

/-- R37: a refusal or cancellation at the item: a RATE-QUEUED or RATING item becomes WEIGHED. -/
def State.returnItem (p : PositionId) (k : Slot) (s : State) : State :=
  match s.item p k with
  | some i =>
    if i.state = .rateQueued ∨ i.state = .rating then s.setItem p k (some { i with state := .weighed, quote := none }) else s
  | none => s

/-- R100: the slots after the last one examined that hold an item in WEIGHED, QUOTED or STALE state. -/
def State.residual (s : State) (p : PositionId) (last : Slot) : Nat :=
  ((List.finRange 8).filter fun k => decide (last < k) && (s.item p k).any fun i => i.state.fit).length

/-- R100: the one RATE-DONE of an operation is handed over, and the position's rating in flight ends. -/
def State.handRateDone (op : Operation) (last : Slot) (status : Reason) (s : State) : State :=
  (s.setCtx op.position { s.ctx op.position with rating := false }).handCompletion op.position
    (.rateDone status op.origin op.quoted (s.residual op.position last) op.lastPostage)

/-- R87, R102: an operation ends at its slot without a quote: the item is returned, the evaluator becomes IDLE, and the RATE-DONE is handed over. -/
def State.endRating (op : Operation) (status : Reason) (s : State) : State :=
  ((s.returnItem op.position op.slot).setEvaluatorState .idle).handRateDone op op.slot status

/-! ### Labels (R41, R156 to R165) -/

/-- R41: a label progress report at one item: the item that carries the number, unless its label is REMOVED or PRINTED. -/
def Item.relabel (num : Nat) (st : LabelState) (i : Item) : Item :=
  if i.itemNumber = some num ∧ i.label ≠ .removed ∧ i.label ≠ .printed then { i with label := st } else i

/-- R41: a label progress report, matched by item number in the position's transaction. -/
def State.reportLabel (p : PositionId) (num : Nat) (st : LabelState) (s : State) : State :=
  match (s.ctx p).transaction with
  | some t => s.setCtx p { s.ctx p with transaction := some (tbuild 8 fun k => (tget t k).map (Item.relabel num st)) }
  | none => s

/-- R161: the spool's count of a position's label jobs after a change. -/
def State.countLabels (p : PositionId) (n : Nat) (s : State) : State := { s with labelCounts := tset s.labelCounts p n }

/-- R156: the head job as it is sent: one more attempt, held at 255, and PRINTING. -/
def Job.sending (j : Job) : Job := { j with attempts := min (j.attempts + 1) 255, condition := .printing }

/-- R156: whenever a printer is READY and its queue holds a job, the head job is sent. -/
def State.sendHead (l : PrinterId) (s : State) : State :=
  match (s.printer l).state, (s.printer l).queue with
  | .ready, j :: rest =>
    let pr := s.printer l
    (((s.setPrinter l
        { pr with
          state := .printing, queue := j.sending :: rest, sendNumber := pr.sendNumber + 1,
          timer := some Config.printTime }).saveQueue l).emit
        (.printer l (labelWire (pr.sendNumber + 1) j.sending.attempts j.record))).reportLabel j.position j.itemNumber .printing
  | _, _ => s

/-- R158, R159, R160, R164: the print timer stops, the head job waits again at the head, the printer takes a new state, and the PCT is told. -/
def State.returnHead (l : PrinterId) (st : PrinterState) (s : State) : State :=
  match (s.printer l).queue with
  | j :: rest =>
    (s.setPrinter l { s.printer l with state := st, queue := { j with condition := .waiting } :: rest, timer := none }).reportLabel
      j.position j.itemNumber .queued
  | [] => s.setPrinter l { s.printer l with state := st, timer := none }

/-- R157: the head job has been printed: it leaves the queue, the count falls, the PCT is told and takes the LABEL-DONE, and the READY printer sends its next head. -/
def State.finishHead (l : PrinterId) (s : State) : State :=
  match (s.printer l).queue with
  | j :: rest =>
    (((((s.setPrinter l { s.printer l with state := .ready, queue := rest, timer := none }).countLabels j.position
        (tget s.labelCounts j.position - 1)).saveQueue l).reportLabel j.position j.itemNumber .printed).handCompletion j.position
      (.labelDone j.slot j.itemNumber l)).sendHead l
  | [] => s.setPrinter l { s.printer l with state := .ready, timer := none }

/-- R162: the printer whose queue holds the job with an item number. -/
def State.jobPrinter (s : State) (num : Nat) : Option PrinterId :=
  (List.finRange 4).find? fun l => (s.printer l).queue.any fun j => decide (j.itemNumber = num)

/-- R162: VOID asks the spool to withdraw an item's job: a WAITING job is removed; the answer says whether it was. -/
def State.withdrawJob (num : Nat) (s : State) : State × Bool :=
  match s.jobPrinter num with
  | some l =>
    match (s.printer l).queue.find? fun j => decide (j.itemNumber = num) with
    | some j =>
      if j.condition = .waiting then
        ((((s.setPrinter l
            { s.printer l with queue := (s.printer l).queue.eraseP fun x => decide (x.itemNumber = num) }).countLabels j.position
            (tget s.labelCounts j.position - 1)).saveQueue l).sendHead l, true)
      else (s, false)
    | none => (s, false)
  | none => (s, false)

/-- R155: a new label job joins the tail of a printer's queue, the position's count rises, and a READY printer sends it at once. -/
def State.queueJob (l : PrinterId) (j : Job) (s : State) : State :=
  (((s.setPrinter l { s.printer l with queue := (s.printer l).queue ++ [j] }).countLabels j.position
    (tget s.labelCounts j.position + 1)).saveQueue l).sendHead l

/-! ### Journal (R146) -/

/-- R145, R146: an entry takes the next sequence number and joins the newest end; the journal is written. -/
def State.appendEntry (a : AccountId) (e : JournalEvent) (s : State) : State :=
  State.saveJournal
    { s with
      journal :=
        { entries := s.journal.entries ++ [⟨s.journal.next, s.clock.value, a, e⟩], next := s.journal.next + 1 } }

/-! ### Accounts (R126 to R128, R133) -/

/-- R128, R133: an account's registers change: the LOW mark is worked out afresh and the account is written. -/
def State.updateAccount (a : AccountId) (x : Account) (s : State) : State := (s.setAccount a x.marked).saveAccount a

/-! ### Grace expiry and activation (R114, R119) -/

/-- R38: a QUOTED item whose quote names the bank and generation of a stale mark. -/
def Item.onGeneration (b : BankId) (g : Option Word16) (i : Item) : Bool :=
  match i.state, i.quote with
  | .quoted, some q => decide (q.bank = b ∧ some q.generation = g)
  | _, _ => false

/-- R38: the stale mark at one item. -/
def Item.markStale (b : BankId) (g : Option Word16) (i : Item) : Item :=
  if i.onGeneration b g then { i with state := .stale, quote := i.quote.map fun q => { q with stale := true } } else i

/-- R38: the stale mark at a context. -/
def PositionContext.markStale (b : BankId) (g : Option Word16) (c : PositionContext) : PositionContext :=
  match c.transaction with
  | some t => { c with transaction := some (tbuild 8 fun k => (tget t k).map (Item.markStale b g)) }
  | none => c

/-- R38: how many items of a context a stale mark reaches. -/
def PositionContext.claims (b : BankId) (g : Option Word16) (c : PositionContext) : Nat :=
  match c.transaction with
  | some t => t.toList.countP fun o => o.any (Item.onGeneration b g)
  | none => 0

/-- R104: the expiry notice at the evaluator: the evaluation on that bank and generation is to halt RE-RATE if no halt reason is set. -/
def Evaluator.notice (b : BankId) (g : Option Word16) (e : Evaluator) : Evaluator :=
  match e.state with
  | .evaluating op ev =>
    if ev.bank = b ∧ some ev.generation = g ∧ ev.halt = none then
      { e with state := .evaluating op { ev with halt := some .reRate } }
    else e
  | .idle | .chaining _ => e

/-- R119: the grace of a RETIRING bank expires: the stale mark goes to every position, the expiry notice to the evaluator, and the bank becomes EMPTY when no evaluation holds it. -/
def State.expireGrace (b : BankId) (s : State) : State :=
  let g := (s.bank b).generation
  let n := (s.positions.toList.map (PositionContext.claims b g)).sum
  State.setBank b (Bank.release n { s.bank b with graceTimer := .expired })
    { s with positions := tbuild 16 fun p => (s.ctx p).markStale b g, evaluator := s.evaluator.notice b g }

/-- R114: what an activation of a bank with grace `minutes` and effective time `effective` makes of the other bank. -/
def Bank.superseded (minutes : Nat) (effective : Option Word32) (bk : Bank) : Bank :=
  match bk.state with
  | .active => if bk.refs = 0 then .blank else { bk with state := .retiring, graceTimer := .running (60 * minutes) }
  | .loaded =>
    match bk.effective, effective with
    | some t, some e => if t ≤ e then .blank else bk
    | _, _ => bk
  | .empty | .loading | .retiring => bk

/-- R114: activation of a LOADED bank; with a grace of 0 the grace expiry of the bank it retires is made in the same event. -/
def State.activate (b : BankId) (s : State) : State :=
  let bk := s.bank b
  let old := s.bank b.other
  let s1 :=
    ((s.setBank b { bk with state := .active }).setBank b.other (old.superseded (bk.grace.getD 0) bk.effective)).saveTariffs
  if old.state = .active ∧ old.refs ≠ 0 ∧ bk.grace.getD 0 = 0 then s1.expireGrace b.other else s1

/-- R118: a tick at the grace timer of one bank. -/
def State.tickGrace (b : BankId) (s : State) : State :=
  match (s.bank b).state, (s.bank b).graceTimer with
  | .retiring, .running n =>
    if n ≤ 1 then s.expireGrace b else s.setBank b { s.bank b with graceTimer := .running (n - 1) }
  | _, _ => s

/-! ### The forced detach (R14) -/

/-- R14, R57: a channel from which the weigh of a position, if it holds it, is gone without a completion. -/
def Channel.dropOwner (p : PositionId) (ch : Channel) : Channel :=
  match ch.weigh with
  | .waiting q _ => if q = p then ch.freed else ch
  | .idle => ch

/-- R103: the evaluator without a position's rating: its entry removed, its chain ended, its evaluation ABANDONED. -/
def Evaluator.abandon (p : PositionId) (e : Evaluator) : Evaluator :=
  { queue := e.queue.filter fun op => decide (op.position ≠ p)
    state :=
      match e.state with
      | .idle => .idle
      | .chaining op => if op.position = p then .idle else .chaining op
      | .evaluating op ev =>
        if op.position = p then .evaluating op { ev with halt := some .abandoned } else .evaluating op ev }

/-- R14: a context cleared by the forced detach; the cause then sets the state. -/
def PositionContext.cleared (c : PositionContext) : PositionContext :=
  { c with account := none, key := none, transaction := none, completions := [], weigh := none, rating := false }

/-- R14: the forced detach of a position in ATTACHED or IN-TRANSACTION; in LINKED or OFFLINE it finds nothing to clear. -/
def State.forcedDetach (p : PositionId) (s : State) : State :=
  if (s.ctx p).state.clerked then
    let s1 :=
      { s with channels := tbuild 8 fun c => (s.channel c).dropOwner p, evaluator := s.evaluator.abandon p }
    let s2 :=
      match (s.ctx p).transaction with
      | some t => s1.releaseAll t
      | none => s1
    s2.setCtx p (s.ctx p).cleared
  else s

/-- The state of a context is set; nothing else changes. -/
def State.setPositionState (p : PositionId) (st : PositionState) (s : State) : State :=
  s.setCtx p { s.ctx p with state := st }

/-! ### Taking and answering position requests (R6 to R9) -/

/-- R6: the PCT takes the frame at the head of the port's held frames, when it is the one named. -/
def State.takeRequest (p : PositionId) (f : Frame) (s : State) : Option State :=
  match (tget s.ports p).held with
  | h :: rest => if h = f then some { s with ports := tset s.ports p { tget s.ports p with held := rest } } else none
  | [] => none

/-- R7, R9, R179: the response, on the port of the position, with the request's tag; it goes before any ATTENTION frame of the same step (log 18). -/
def State.respond (p : PositionId) (f : Frame) (slotByte : Byte) (a : Answer) (s : State) : State :=
  { s with sent := .position p (Frame.wire positionSync ⟨responseCode f.code, f.tag, a.payload f.code slotByte⟩) :: s.sent }

/-- R8, section 1.4: what the checks need to know of a request: its code, how its payload is read, the states in which it is served, the item slot it names, and the slot byte of its refusal record. -/
structure RequestForm (α : Type) where
  code : Byte
  read : List Byte → Option α
  served : PositionState → Bool
  slot : α → Option Slot
  slotByte : List Byte → Byte

/-- R8: the four checks in order; a request that passes is served. -/
def State.judge {α : Type} (form : RequestForm α) (p : PositionId) (payload : List Byte)
    (serve : α → State → State × Answer) (s : State) : State × Answer :=
  if (s.ctx p).config.enabled = false then (s, .unavailable)
  else
    match form.read payload with
    | none => (s, .refuse .format)
    | some a =>
      if form.served (s.ctx p).state = false then (s, .refuse .state)
      else
        match form.slot a with
        | none => serve a s
        | some k => if (s.item p k).isNone then (s, .refuse .state) else serve a s

/-- R6 to R9: a request is taken from its port, checked, served and answered. A request whose frame is not at the head of the port cannot be taken, and changes nothing (log 2, log 3). -/
def State.request {α : Type} (form : RequestForm α) (p : PositionId) (tag : Byte) (payload : List Byte)
    (serve : α → State → State × Answer) (s : State) : State :=
  match s.takeRequest p ⟨form.code, tag, payload⟩ with
  | some s1 =>
    let r := s1.judge form p payload serve
    r.1.respond p ⟨form.code, tag, payload⟩ (form.slotByte payload) r.2
  | none => s

/-- The slot byte of a refusal record for a request without a slot field: absent. -/
def noSlotByte (_payload : List Byte) : Byte := 0xFF

/-- R9, section 11.3: the slot byte of a refusal record for a request whose payload has `length` bytes and begins with its slot: FFH when the payload is empty, since such a request names no slot. Where the payload has bytes but no slot from 0 to 7 can be read, it is a free value (log 11). -/
def firstSlotByte (code : Byte) (length : Nat) (payload : List Byte) : Byte :=
  match payload with
  | k :: _ => if payload.length = length ∧ k.toNat < 8 then k else Config.unreadSlot code payload
  | [] => 0xFF

/-- The same for CANCEL, whose ALL names no slot. -/
def cancelSlotByte (payload : List Byte) : Byte := if payload = [0xFF] then 0xFF else firstSlotByte 0x0D 1 payload

/-- Section 1.4: served in LINKED, ATTACHED and IN-TRANSACTION. -/
def servedOnline : PositionState → Bool
  | .linked | .attached | .inTransaction => true
  | .offline => false

/-- Section 1.4: served in LINKED. -/
def servedLinked : PositionState → Bool
  | .linked => true
  | .offline | .attached | .inTransaction => false

/-- Section 1.4: served in ATTACHED and IN-TRANSACTION. -/
def servedAttached : PositionState → Bool
  | .attached | .inTransaction => true
  | .offline | .linked => false

/-- Section 1.4: served in IN-TRANSACTION. -/
def servedInTransaction : PositionState → Bool
  | .inTransaction => true
  | .offline | .linked | .attached => false

/-- R17: the budget total of a position. -/
def State.budget (s : State) (p : PositionId) : Nat := (s.ctx p).budget (tget s.labelCounts p)

/-! ### Taking and answering office commands (R168, R169) -/

/-- R168: the office link block takes the frame at the head of the office port's held frames, when it is the one named. -/
def State.takeCommand (f : Frame) (s : State) : Option State :=
  match s.officePort.held with
  | h :: rest => if h = f then some { s with officePort := { s.officePort with held := rest } } else none
  | [] => none

/-- R168, R179: the answer, on the office port, with the command's tag. -/
def State.answer (f : Frame) (a : OfficeAnswer) (s : State) : State :=
  { s with sent := .office (Frame.wire officeSync ⟨responseCode f.code, f.tag, a.payload⟩) :: s.sent }

/-- R168, R169: a command is taken from the office port, its form checked, served and answered. -/
def State.command {α : Type} (code : Byte) (read : List Byte → Option α) (tag : Byte) (payload : List Byte)
    (serve : α → State → State × OfficeAnswer) (s : State) : State :=
  match s.takeCommand ⟨code, tag, payload⟩ with
  | some s1 =>
    match read payload with
    | some a =>
      let r := serve a s1
      r.1.answer ⟨code, tag, payload⟩ r.2
    | none => s1.answer ⟨code, tag, payload⟩ (.refused .format [])
  | none => s

/-! ### Rebuilding from the store (R177, section 10.7) -/

/-- R1: a context rebuilt with its stored configuration. -/
def PositionContext.rebuilt (cfg : PositionConfig) : PositionContext :=
  { config := cfg, state := .offline, linePresent := false, account := none, key := none, transaction := none,
    completions := [], weigh := none, rating := false }

/-- R44: a channel rebuilt with its stored configuration. -/
def Channel.rebuilt (cfg : ScaleConfig) : Channel :=
  { config := cfg, state := if cfg.enabled then .unstable else .off, window := [], filtered := none,
    workingZero := cfg.calibratedZero, reading := none, reference := none, spikes := 0, errors := 0, settleTimer := none,
    weigh := .idle, weighTimer := none }

/-- R123: a bank rebuilt from what is stored of it. -/
def Bank.rebuilt : Option StoredBank → Bank
  | some x =>
    { state := if x.active then .active else .loaded, image := x.image, tariffId := x.tariffId, effective := x.effective,
      grace := x.grace, generation := x.generation, refs := 0, graceTimer := .stopped, declared := none, idleTimer := none }
  | none => .blank

/-- R153, R165: a printer rebuilt with its stored setting and queue. -/
def Printer.rebuilt (enabled : Bool) (queue : List Job) : Printer :=
  { enabled := enabled, state := if enabled then .ready else .off, queue := queue.map Job.stored, sendNumber := 0, timer := none }

/-- R161: the label jobs of a position in the stored queues. -/
def storedLabels (queues : Vector (List Job) 4) (p : PositionId) : Nat :=
  (queues.toList.map fun q => q.countP fun j => decide (j.position = p)).sum

/-- R177, section 10.7: every block rebuilt from the store. The clock, the supply monitor and the queue of commands are left as they are; the sends of R165 follow in `State.sendHeads`. -/
def State.rebuild (s : State) : State :=
  { s with
    positions := tbuild 16 fun p => .rebuilt (tget s.nvs.positions p)
    ports := tbuild 16 fun _ => .quiet
    officePort := .quiet
    channels := tbuild 8 fun c => .rebuilt (tget s.nvs.channels c)
    scaleLines := tbuild 8 fun _ => []
    tariffs :=
      { bankA := .rebuilt s.nvs.bankA, bankB := .rebuilt s.nvs.bankB, counter := s.nvs.counter, lastLoaded := s.nvs.lastLoaded }
    evaluator := { queue := [], state := .idle }
    accounts := s.nvs.accounts
    allocator := s.nvs.allocator
    journal := s.nvs.journal
    printers := tbuild 4 fun l => .rebuilt (tget s.nvs.printersEnabled l) (tget s.nvs.queues l)
    printerLines := tbuild 4 fun _ => []
    labelCounts := tbuild 16 fun p => storedLabels s.nvs.queues p
    flags := s.nvs.flags }

/-- R165, R177: the head job of each READY printer whose queue holds one is sent. DESIGN CHOICE (log 25): the rules give no order among the printers, and the model sends L0, L1, L2 and L3 in this order. -/
def State.sendHeads (s : State) : State := (((s.sendHead 0).sendHead 1).sendHead 2).sendHead 3

end Sys2Proof.Machine
end

