-- ==== Sys2Proof/Machine/Accounts.lean ====
section
/-! DEFINITION. Accounts, acceptance and item numbers (chapter 7): ACCOUNT, CREDIT, BLOCK, the supply monitor, ACCEPT and VOID. -/

namespace Sys2Proof.Machine

/-! ### ACCOUNT and CREDIT -/

/-- R129: ACCOUNT with KEEP for all three fields only reads the account. -/
def AccountChange.keepsAll (x : AccountChange) : Bool := x.key.isNone && x.status.isNone && x.threshold.isNone

/-- R129: each field given a value takes it. -/
def AccountChange.apply (x : AccountChange) (a : Account) : Account :=
  { a with key := x.key.getD a.key, status := x.status.getD a.status, threshold := x.threshold.getD a.threshold }

/-- R129: ACCOUNT. -/
def serveAccount (x : AccountChange) (s : State) : State × OfficeAnswer :=
  let s1 := if x.keepsAll then s else s.updateAccount x.account (x.apply (s.account x.account))
  (s1, .done (s1.account x.account).bytes)

/-- ACCOUNT (R129). -/
def execAccount (tag : Byte) (payload : List Byte) (s : State) : Host.Outcome State Fault Refusal :=
  s.running (State.command 0x03 readAccount tag payload serveAccount)

/-- R127, R130: an account after a credit. -/
def Account.credited (amount : Nat) (a : Account) : Account :=
  { a with loaded := a.loaded + amount, remaining := a.remaining + amount }

/-- R130: the checks of CREDIT in order, and its effects. -/
def serveCredit (x : AccountId × Nat) (s : State) : State × OfficeAnswer :=
  let a := s.account x.1
  if s.supply = .hold then (s, .refused .hold [])
  else if s.clock.valid = false then (s, .refused .state [])
  else if Config.registerMax < a.loaded + x.2 then (s, .refused .overflow [])
  else if s.journal.hasRoom = false then (s, .refused .journalFull [])
  else
    let s1 := (s.updateAccount x.1 (a.credited x.2)).appendEntry x.1 (.credit x.2)
    let a1 := s1.account x.1
    (s1, .done (leBytes 6 a1.loaded ++ leBytes 6 a1.remaining ++ [boolByte a1.low] ++ leBytes 4 s.journal.next.toNat))

/-- CREDIT (R130, R133). -/
def execCredit (tag : Byte) (payload : List Byte) (s : State) : Host.Outcome State Fault Refusal :=
  s.running (State.command 0x04 readCredit tag payload serveCredit)

/-! ### BLOCK -/

/-- R140: a block joins the tail of the queue. -/
def Allocator.granted (first last : Nat) (al : Allocator) : Allocator :=
  { al with
    blocks := al.blocks ++ [⟨first, last⟩], next := if al.blocks.isEmpty then some first else al.next, highest := last }

/-- R140: the checks of BLOCK in order, and its effect. -/
def serveBlock (x : Nat × Nat) (s : State) : State × OfficeAnswer :=
  let last := x.1 + x.2 - 1
  if x.1 ≤ s.allocator.highest then (s, .refused .order [])
  else if 99999999 < last then (s, .refused .range [])
  else if Config.blockQueue ≤ s.allocator.blocks.length then (s, .refused .full [])
  else
    let s1 := State.saveAllocator { s with allocator := s.allocator.granted x.1 last }
    (s1, .done (leBytes 4 s1.allocator.serialsLeft))

/-- BLOCK (R140). -/
def execBlock (tag : Byte) (payload : List Byte) (s : State) : Host.Outcome State Fault Refusal :=
  s.running (State.command 0x05 readBlock tag payload serveBlock)

/-! ### The supply monitor -/

/-- R131: the monitor after a sample, in microvolts. -/
def Supply.sampled (microvolts : Nat) : Supply → Supply
  | .normal => if microvolts < Config.holdBelow then .hold else .normal
  | .hold => if Config.normalAbove < microvolts then .normal else .hold

/-- SUPPLY_SAMPLE (R131). The monitor works whenever the supply is present, through a restart too (log 8). -/
def execSupplySample (microvolts : Nat) (s : State) : Host.Outcome State Fault Refusal :=
  .next { s with supply := if s.power = .off then s.supply else s.supply.sampled microvolts, sent := [] }

/-! ### ACCEPT -/

def acceptForm : RequestForm Slot :=
  { code := 0x0B, read := readSlot, served := servedInTransaction, slot := some, slotByte := firstSlotByte 0x0B 1 }

/-- R127, R135: an account after an acceptance. -/
def Account.debited (p : Nat) (a : Account) : Account :=
  { a with issued := a.issued + p, remaining := a.remaining - p, pieces := min (a.pieces + 1) 4294967295 }

/-- R141: the allocator after its next serial has been taken. -/
def Allocator.taken (al : Allocator) : Allocator :=
  match al.blocks, al.next with
  | h :: rest, some n =>
    if n = h.last then { al with blocks := rest, next := rest.head?.map (·.first) } else { al with next := some (n + 1) }
  | _, _ => al

/-- R135, R138, R144: the item fields of a journal entry. -/
def saleOf (p : PositionId) (num : Nat) (i : Item) (q : Quote) : SaleRecord :=
  { position := p, itemNumber := num, postage := q.postage, service := i.facts.service, zone := q.zone,
    chargeable := q.chargeable, kind := q.kind, tariffId := q.tariffId, marks := q.marks }

/-- R166: the label record built at the acceptance. -/
def labelOf (p : PositionId) (num office : Nat) (time : Word32) (i : Item) (q : Quote) : LabelRecord :=
  { itemNumber := num, service := i.facts.service, postage := q.postage, time := time, officeCode := office, position := p,
    chargeable := q.chargeable, kind := q.kind, zone := q.zone, destination := i.facts.destination, tariffId := q.tariffId }

/-- R155: the label job of an acceptance. -/
def jobOf (p : PositionId) (k : Slot) (r : LabelRecord) : Job :=
  { itemNumber := r.itemNumber, position := p, slot := k, record := r, attempts := 0, condition := .waiting }

/-- R39: the acceptance at the item. -/
def Item.acceptedAs (num : Nat) (i : Item) : Item := { i with state := .accepted, itemNumber := some num, label := .queued }

/-- R135: the effects of an ACCEPT, all in its one event: account, allocator, journal, item, label spool. -/
def State.acceptItem (p : PositionId) (k : Slot) (a : AccountId) (l : PrinterId) (office serial : Nat) (i : Item) (q : Quote)
    (s : State) : State :=
  let num := itemNumber office serial
  let s1 := s.updateAccount a ((s.account a).debited q.postage)
  let s2 := State.saveAllocator { s1 with allocator := s1.allocator.taken }
  let s3 := s2.appendEntry a (.accept (saleOf p num i q))
  let s4 := (s3.releaseQuote i).setItem p k (some (i.acceptedAs num))
  s4.queueJob l (jobOf p k (labelOf p num office s.clock.value i q))

/-- R134: the checks of ACCEPT after the item has been found QUOTED with its quote and the position attached: 4 to 10. -/
def State.acceptChecked (p : PositionId) (k : Slot) (a : AccountId) (key : Fin 16) (i : Item) (q : Quote) (s : State) :
    State × Answer :=
  let x := s.account a
  if x.status ≠ .opened then (s, .refuse .accountBlocked)
  else if x.key ≠ key then (s, .refuse .protection)
  else if x.remaining < q.postage ∨ Config.registerMax < x.issued + q.postage then (s, .reported .noCredit x.remaining 0)
  else
    match s.allocator.officeCode, s.allocator.next with
    | some office, some serial =>
      if s.journal.hasRoom = false then (s, .refuse .journalFull)
      else if Config.budget ≤ s.budget p ∨ Config.labelJobs ≤ tget s.labelCounts p ∨
          (s.ctx p).config.printer.any (fun l => decide (Config.printerQueue ≤ (s.printer l).queue.length)) = true then
        (s, .busy)
      else
        match (s.ctx p).config.printer with
        | none => (s, .refuse .noPrinter)
        | some l =>
          let s1 := s.acceptItem p k a l office serial i q
          (s1, .taken (bcdBytes 7 (itemNumber office serial) ++ leBytes 4 q.postage ++ [boolByte (s1.account a).low]))
    | _, _ => (s, .refuse .noNumbers)

/-- R134: the checks of ACCEPT in order. An IN-TRANSACTION position without account or key, or a QUOTED item without quote, does not arise and is answered STATE (log 20). -/
def serveAccept (p : PositionId) (k : Slot) (s : State) : State × Answer :=
  if s.supply = .hold then (s, .unavailable)
  else if s.clock.valid = false then (s, .refuse .clockUnset)
  else
    match s.item p k with
    | none => (s, .refuse .state)
    | some i =>
      if i.state = .stale then (s, .refuse .reRate)
      else if i.state ≠ .quoted then (s, .refuse .state)
      else
        match i.quote, (s.ctx p).account, (s.ctx p).key with
        | some q, some a, some key => s.acceptChecked p k a key i q
        | _, _, _ => (s, .refuse .state)

/-- ACCEPT (R134, R135). -/
def execAccept (p : PositionId) (tag : Byte) (payload : List Byte) (s : State) : Host.Outcome State Fault Refusal :=
  s.running (State.request acceptForm p tag payload (serveAccept p))

/-! ### VOID -/

def voidForm : RequestForm Slot :=
  { code := 0x0C, read := readSlot, served := servedInTransaction, slot := some, slotByte := firstSlotByte 0x0C 1 }

/-- R127, R138: an account after a void. -/
def Account.refundedBy (p : Nat) (a : Account) : Account :=
  { a with refunded := a.refunded + p, remaining := a.remaining + p }

/-- R40: the void at the item; its label is REMOVED when its job was withdrawn. -/
def Item.voidedWith (withdrawn : Bool) (i : Item) : Item :=
  { i with state := .voided, label := if withdrawn then .removed else i.label }

/-- R138: the effects of a VOID, all in its one event; answers the label state after it. -/
def State.voidItem (p : PositionId) (k : Slot) (a : AccountId) (num : Nat) (i : Item) (q : Quote) (s : State) : State :=
  let s1 := s.updateAccount a ((s.account a).refundedBy q.postage)
  let s2 := s1.appendEntry a (.void (saleOf p num i q))
  let r := s2.withdrawJob num
  r.1.setItem p k (some (i.voidedWith r.2))

/-- R137: the checks of VOID in order. An ACCEPTED item without quote or number, or a position without account or key, does not arise and is answered STATE (log 20). -/
def serveVoid (p : PositionId) (k : Slot) (s : State) : State × Answer :=
  if s.supply = .hold then (s, .unavailable)
  else
    match s.item p k with
    | none => (s, .refuse .state)
    | some i =>
      if i.state ≠ .accepted then (s, .refuse .state)
      else
        match i.quote, i.itemNumber, (s.ctx p).account, (s.ctx p).key with
        | some q, some num, some a, some key =>
          let x := s.account a
          if x.status ≠ .opened then (s, .refuse .accountBlocked)
          else if x.key ≠ key then (s, .refuse .protection)
          else if s.journal.hasRoom = false then (s, .refuse .journalFull)
          else
            let s1 := s.voidItem p k a num i q
            (s1,
              .taken (bcdBytes 7 num ++ leBytes 4 q.postage ++
                [match s1.item p k with | some j => j.label.code | none => 0xFF, boolByte (s1.account a).low]))
        | _, _, _, _ => (s, .refuse .state)

/-- VOID (R137, R138). -/
def execVoid (p : PositionId) (tag : Byte) (payload : List Byte) (s : State) : Host.Outcome State Fault Refusal :=
  s.running (State.request voidForm p tag payload (serveVoid p))

end Sys2Proof.Machine
end

