-- ==== Sys2Proof/Machine/Items.lean ====
section
/-! DEFINITION. Transactions and items (chapter 2): BEGIN, ADD, AMEND, DROP, DETAIL and FINISH. -/

namespace Sys2Proof.Machine

/-! ### BEGIN and ADD -/

def beginForm : RequestForm Unit :=
  { code := 0x03, read := readNothing, served := servedOnline, slot := fun _ => none, slotByte := noSlotByte }

/-- R23, R24: eight EMPTY slots. -/
def emptyTransaction : Transaction := Vector.replicate 8 none

/-- R24: BEGIN is served in ATTACHED and refused with STATE elsewhere. -/
def serveBegin (p : PositionId) (_ : Unit) (s : State) : State × Answer :=
  if (s.ctx p).state = .attached then
    (s.setCtx p { s.ctx p with state := .inTransaction, transaction := some emptyTransaction }, .taken [])
  else (s, .refuse .state)

/-- BEGIN (R24). -/
def execBegin (p : PositionId) (tag : Byte) (payload : List Byte) (s : State) : Host.Outcome State Fault Refusal :=
  s.running (State.request beginForm p tag payload (serveBegin p))

def addForm : RequestForm Unit :=
  { code := 0x04, read := readNothing, served := servedInTransaction, slot := fun _ => none, slotByte := noSlotByte }

/-- R26: the item as ADD makes it. -/
def Item.fresh : Item :=
  { state := .draft,
    facts := { service := 0, destination := none, declared := none, extras := ⟨false, false, false, false⟩, dimensions := none },
    weight := none, previous := none, quote := none, itemNumber := none, label := .unlabelled }

/-- R25: the lowest-numbered EMPTY slot. -/
def State.emptySlot (s : State) (p : PositionId) : Option Slot := (List.finRange 8).find? fun k => (s.item p k).isNone

/-- R25: ADD. -/
def serveAdd (p : PositionId) (_ : Unit) (s : State) : State × Answer :=
  match s.emptySlot p with
  | some k => (s.setItem p k (some .fresh), .taken [BitVec.ofNat 8 k.val])
  | none => (s, .refuse .transactionFull)

/-- ADD (R25, R26). -/
def execAdd (p : PositionId) (tag : Byte) (payload : List Byte) (s : State) : Host.Outcome State Fault Refusal :=
  s.running (State.request addForm p tag payload (serveAdd p))

/-! ### AMEND -/

def amendForm : RequestForm Amendment :=
  { code := 0x05, read := readAmend, served := servedInTransaction, slot := fun m => some m.slot, slotByte := firstSlotByte 0x05 21 }

/-- R28: one fact that clearing makes absent. -/
def FactAction.onOption {α : Type} (held : Option α) : FactAction α → Option α
  | .leave => held
  | .set v => some v
  | .clear => none

/-- R28: one fact that clearing returns to a value. -/
def FactAction.onValue {α : Type} (cleared held : α) : FactAction α → α
  | .leave => held
  | .set v => v
  | .clear => cleared

/-- R28: the named actions are made. -/
def Amendment.apply (m : Amendment) (f : Facts) : Facts :=
  { service := m.service.onValue 0 f.service
    destination := m.destination.onOption f.destination
    declared := m.declared.onOption f.declared
    extras := m.extras.onValue ⟨false, false, false, false⟩ f.extras
    dimensions := m.dimensions.onOption f.dimensions }

/-- R29: an AMEND that names "leave" for all five facts. -/
def Amendment.idle (m : Amendment) : Bool :=
  decide (m.service = .leave ∧ m.destination = .leave ∧ m.declared = .leave ∧ m.extras = .leave ∧ m.dimensions = .leave)

/-- R29: AMEND according to the state of the item. An item in flight, ACCEPTED or VOIDED is refused even when every action is "leave" (log 17). -/
def serveAmend (p : PositionId) (m : Amendment) (s : State) : State × Answer :=
  match s.item p m.slot with
  | some i =>
    if i.state.free = false then (s, .refuse .state)
    else if m.idle then (s, .taken [i.state.code])
    else if i.state = .quoted ∨ i.state = .stale then
      ((s.releaseQuote i).setItem p m.slot (some { i with facts := m.apply i.facts, quote := none, state := .weighed }),
        .taken [ItemState.weighed.code])
    else (s.setItem p m.slot (some { i with facts := m.apply i.facts }), .taken [i.state.code])
  | none => (s, .refuse .state)

/-- AMEND (R28, R29). -/
def execAmend (p : PositionId) (tag : Byte) (payload : List Byte) (s : State) : Host.Outcome State Fault Refusal :=
  s.running (State.request amendForm p tag payload (serveAmend p))

/-! ### DROP and DETAIL -/

def dropForm : RequestForm Slot :=
  { code := 0x06, read := readSlot, served := servedInTransaction, slot := some, slotByte := firstSlotByte 0x06 1 }

/-- R30, R32: a DRAFT, WEIGHED, QUOTED or STALE item is discarded; any other is kept. -/
def serveDrop (p : PositionId) (k : Slot) (s : State) : State × Answer :=
  match s.item p k with
  | some i =>
    if i.state.free then ((s.releaseQuote i).setItem p k none, .taken [BitVec.ofNat 8 k.val]) else (s, .refuse .state)
  | none => (s, .refuse .state)

/-- DROP (R30, R32). -/
def execDrop (p : PositionId) (tag : Byte) (payload : List Byte) (s : State) : Host.Outcome State Fault Refusal :=
  s.running (State.request dropForm p tag payload (serveDrop p))

def detailForm : RequestForm Slot :=
  { code := 0x0A, read := readSlot, served := servedInTransaction, slot := some, slotByte := firstSlotByte 0x0A 1 }

/-- R31: the whole item record. -/
def serveDetail (p : PositionId) (k : Slot) (s : State) : State × Answer :=
  match s.item p k with
  | some i => (s, .taken i.bytes)
  | none => (s, .refuse .state)

/-- DETAIL (R31). -/
def execDetail (p : PositionId) (tag : Byte) (payload : List Byte) (s : State) : Host.Outcome State Fault Refusal :=
  s.running (State.request detailForm p tag payload (serveDetail p))

/-! ### FINISH -/

def finishForm : RequestForm (Nat × Nat) :=
  { code := 0x0F, read := readFinish, served := servedInTransaction, slot := fun _ => none, slotByte := noSlotByte }

/-- R42: the items of a transaction in a given state. -/
def Transaction.inState (st : ItemState) (t : Transaction) : List Item :=
  t.toList.filterMap fun o => o.filter fun i => decide (i.state = st)

/-- R42: the sum of the postage of the ACCEPTED items' quotes. -/
def Transaction.acceptedTotal (t : Transaction) : Nat :=
  ((Transaction.inState .accepted t).map fun i => match i.quote with | some q => q.postage | none => 0).sum

/-- R42, R43: FINISH: BUSY while a weigh or rating is in flight, MISMATCH with the actual figures, or the transaction closes. -/
def serveFinish (p : PositionId) (x : Nat × Nat) (s : State) : State × Answer :=
  match (s.ctx p).transaction with
  | some t =>
    if (s.ctx p).weigh.isSome ∨ (s.ctx p).rating = true then (s, .busy)
    else
      let count := (Transaction.inState .accepted t).length
      let total := Transaction.acceptedTotal t
      if x.1 = count ∧ x.2 = total then
        ((s.releaseAll t).setCtx p { s.ctx p with state := .attached, transaction := none },
          .taken (BitVec.ofNat 8 count :: leBytes 4 total ++ [BitVec.ofNat 8 (Transaction.inState .voided t).length]))
      else (s, .reported .mismatch total count)
  | none => (s, .refuse .state)

/-- FINISH (R42, R43). -/
def execFinish (p : PositionId) (tag : Byte) (payload : List Byte) (s : State) : Host.Outcome State Fault Refusal :=
  s.running (State.request finishForm p tag payload (serveFinish p))

end Sys2Proof.Machine
end

