-- ==== Sys2Proof/Machine/Journals.lean ====
section
/-! DEFINITION. The acceptance journal's own commands (chapter 8): JOURNAL-READ and JOURNAL-RELEASE. -/

namespace Sys2Proof.Machine

/-- JOURNAL_READ (R148): the oldest entries, up to the count asked, with the journal's figures. -/
def execJournalRead (tag : Byte) (payload : List Byte) (s : State) : Host.Outcome State Fault Refusal :=
  s.running (State.command 0x10 readJournalRead tag payload fun n s => (s, .done (s.journal.readBytes n)))

/-- R149: how many entries a release of `seq` removes. -/
def Journal.releaseCount (seq : Word32) (j : Journal) : Nat :=
  match j.entries with
  | [] => 0
  | oldest :: _ =>
    let d := seqDistance oldest.seq seq
    if d < j.entries.length then d + 1 else if d < 2 ^ 31 then j.entries.length else 0

/-- R149: the journal after a release; the next sequence number is kept. -/
def Journal.released (seq : Word32) (j : Journal) : Journal := { j with entries := j.entries.drop (j.releaseCount seq) }

/-- R149, R151: JOURNAL-RELEASE; the journal is written when an entry leaves. -/
def serveJournalRelease (seq : Word32) (s : State) : State × OfficeAnswer :=
  let n := s.journal.releaseCount seq
  let s1 := if n = 0 then s else State.saveJournal { s with journal := s.journal.released seq }
  (s1, .done (s1.journal.releaseBytes n))

/-- JOURNAL_RELEASE (R149). -/
def execJournalRelease (tag : Byte) (payload : List Byte) (s : State) : Host.Outcome State Fault Refusal :=
  s.running (State.command 0x11 readTime tag payload serveJournalRelease)

end Sys2Proof.Machine
end

