-- ==== Sys2Proof/Machine/Office.lean ====
section
/-! DEFINITION. The office link and start-up (chapter 10): frames on the office port, STATUS, TIME, FLAGS, POSITION, SCALE, RESTART and its rebuilding, the supply failing and returning, and unknown command codes. -/

namespace Sys2Proof.Machine

/-! ### Frames, STATUS, TIME and FLAGS -/

/-- R168, R179: bytes arrive on the office port, and a break in the line after them discards the frame it cuts short (log 26). -/
def State.receiveOffice (input : LineInput) (s : State) : State :=
  let port := s.officePort.receive officeSync Config.officeFramesHeld input.bytes
  { s with officePort := if input.broken then port.cutShort else port }

/-- OFFICE_FRAME_RECEIVED (R168, R179). -/
def execOfficeFrameReceived (input : LineInput) (s : State) : Host.Outcome State Fault Refusal :=
  s.running (State.receiveOffice input)

/-- STATUS (R175). -/
def execStatus (tag : Byte) (payload : List Byte) (s : State) : Host.Outcome State Fault Refusal :=
  s.running (State.command 0x01 readNothing tag payload fun _ s => (s, .done s.statusBytes))

/-- R171: TIME sets the clock and its valid flag, and answers what it held before. -/
def serveTime (value : Word32) (s : State) : State × OfficeAnswer :=
  ({ s with clock := ⟨value, true⟩ }, .done (leBytes 4 s.clock.value.toNat ++ [boolByte s.clock.valid]))

/-- TIME (R171). -/
def execTime (tag : Byte) (payload : List Byte) (s : State) : Host.Outcome State Fault Refusal :=
  s.running (State.command 0x02 readTime tag payload serveTime)

/-- R172: FLAGS sets, clears or keeps each flag and writes them; KEEP for all eight only reads. -/
def serveFlags (actions : List FlagAction) (s : State) : State × OfficeAnswer :=
  let s1 :=
    if actions.all (fun a => decide (a = .keep)) then s else State.saveFlags { s with flags := flagsAfter s.flags actions }
  (s1, .done [s1.flags])

/-- FLAGS (R172). -/
def execFlags (tag : Byte) (payload : List Byte) (s : State) : Host.Outcome State Fault Refusal :=
  s.running (State.command 0x06 readFlags tag payload serveFlags)

/-! ### POSITION and SCALE -/

/-- R46, R173: a position counts for a channel when its configuration names it or its weigh is still held there. -/
def State.countsFor (s : State) (c : ChannelId) (q : PositionId) : Bool :=
  decide ((s.ctx q).config.scale = some c) ||
    match (s.channel c).weigh with
    | .waiting owner _ => decide (owner = q)
    | .idle => false

/-- R46, R173: the positions other than `p` that count for a channel. -/
def State.othersOn (s : State) (c : ChannelId) (p : PositionId) : Nat :=
  ((List.finRange 16).filter fun q => decide (q ≠ p) && s.countsFor c q).length

/-- R5: what a new configuration makes of a context, after any forced detach under the old one. -/
def PositionContext.configured (cfg : PositionConfig) (c : PositionContext) : PositionContext :=
  { c with
    config := cfg
    state :=
      match c.config.enabled, cfg.enabled with
      | true, false => .offline
      | false, true => if c.linePresent then .linked else .offline
      | _, _ => c.state }

/-- R5, R173: POSITION: refused FULL when the position would be the third on its channel; a disabling performs the forced detach under the old settings. -/
def servePosition (x : PositionId × PositionConfig) (s : State) : State × OfficeAnswer :=
  if x.2.scale.any (fun c => decide (2 ≤ s.othersOn c x.1)) = true then (s, .refused .full [])
  else
    let s1 := if (s.ctx x.1).config.enabled ∧ x.2.enabled = false then s.forcedDetach x.1 else s
    let s2 := (s1.setCtx x.1 ((s1.ctx x.1).configured x.2)).savePosition x.1
    (s2, .done [(s2.ctx x.1).state.code])

/-- POSITION (R173, R5, R46). -/
def execPosition (tag : Byte) (payload : List Byte) (s : State) : Host.Outcome State Fault Refusal :=
  s.running (State.command 0x07 readPosition tag payload servePosition)

/-- R45: a channel under a new configuration. -/
def Channel.configured (cfg : ScaleConfig) (ch : Channel) : Channel :=
  { ch with
    config := cfg, state := if cfg.enabled then .unstable else .off, window := [], filtered := none,
    workingZero := cfg.calibratedZero, reading := none, reference := none, spikes := 0, errors := 0, settleTimer := none }

/-- R45, R174: SCALE: the configuration is written, a weigh in flight ends with SCALE-OFF, and the channel is reset. -/
def serveScale (x : ChannelId × ScaleConfig) (s : State) : State × OfficeAnswer :=
  let s1 := ((s.setChannel x.1 ((s.channel x.1).configured x.2)).saveChannel x.1).endWeigh x.1 .scaleOff 0
  (s1, .done [(s1.channel x.1).state.code])

/-- SCALE (R174, R45). -/
def execScale (tag : Byte) (payload : List Byte) (s : State) : Host.Outcome State Fault Refusal :=
  s.running (State.command 0x08 readScale tag payload serveScale)

/-! ### RESTART and the supply -/

/-- R176: from the DONE on, frames held by the ports are discarded, and nothing is taken until the rebuilding. -/
def State.beginRestart (s : State) : State :=
  { s with power := .restarting, ports := tbuild 16 fun _ => .quiet, officePort := .quiet }

/-- R176: RESTART with KEEP, the office code held, or the first office code; any other code is refused STATE. -/
def serveRestart (code : Option Nat) (s : State) : State × OfficeAnswer :=
  match code, s.allocator.officeCode with
  | none, _ => (s.beginRestart, .done [])
  | some x, none => ((State.saveAllocator { s with allocator := { s.allocator with officeCode := some x } }).beginRestart, .done [])
  | some x, some held => if x = held then (s.beginRestart, .done []) else (s, .refused .state [])

/-- RESTART (R176). -/
def execRestart (tag : Byte) (payload : List Byte) (s : State) : Host.Outcome State Fault Refusal :=
  s.running (State.command 0x12 readRestart tag payload serveRestart)

/-- RESTART_REBUILD (R176, R177): once the answer has left the port every block is rebuilt; the clock and the supply monitor keep their state. -/
def execRestartRebuild (s : State) : Host.Outcome State Fault Refusal :=
  .next (if s.power = .restarting then State.sendHeads { s.rebuild with power := .running, sent := [] } else { s with sent := [] })

/-- R170: the clock at power-on, by the cell's report. -/
def Clock.afterPower (kept : Bool) (c : Clock) : Clock := if kept then c else ⟨0, false⟩

/-- POWER_ON (R170, R131, R177): the supply returns; a power-on without a supply failure before it is a failure and return in one (log 9). -/
def execPowerOn (kept : Bool) (s : State) : Host.Outcome State Fault Refusal :=
  .next (State.sendHeads
    { s.rebuild with power := .running, supply := .normal, clock := s.clock.afterPower kept, sent := [] })

/-- SUPPLY_FAILURE (R133, R177): what is not in the store is lost; the clock runs on its cell (log 22). -/
def execSupplyFailure (s : State) : Host.Outcome State Fault Refusal :=
  .next { s.rebuild with power := .off, sent := [] }

/-! ### Unknown command codes -/

/-- UNKNOWN_COMMAND_CODE (R169): answered REFUSED FORMAT. A known code is served by its own row, so here it changes nothing (log 2). -/
def execUnknownCommandCode (code tag : Byte) (payload : List Byte) (s : State) : Host.Outcome State Fault Refusal :=
  s.running fun s =>
    if 1 ≤ code.toNat ∧ code.toNat ≤ 18 then s
    else s.command (α := Empty) code (fun _ => none) tag payload fun x _ => nomatch x

end Sys2Proof.Machine
end

