-- ==== Sys2Proof/Machine/Positions.lean ====
section
/-! DEFINITION. Counter positions (chapter 1): the line and frame events, and ATTACH, DETACH, CANCEL, COLLECT, QUERY and unknown request codes. -/

namespace Sys2Proof.Machine

/-! ### Line and frame events -/

/-- R3: the line is present; an enabled OFFLINE position becomes LINKED. -/
def PositionContext.lineUp (c : PositionContext) : PositionContext :=
  { c with linePresent := true, state := if c.config.enabled ∧ c.state = .offline then .linked else c.state }

/-- LINK_UP (R3). -/
def execLinkUp (p : PositionId) (s : State) : Host.Outcome State Fault Refusal :=
  s.running fun s => s.setCtx p (s.ctx p).lineUp

/-- R2, R4: the line is gone: held frames and a frame under reception are discarded, an attached position is force-detached, and the state becomes OFFLINE. -/
def State.lineDown (p : PositionId) (s : State) : State :=
  let s1 := { s with ports := tset s.ports p .quiet }
  let s2 := (s1.setCtx p { s1.ctx p with linePresent := false }).forcedDetach p
  s2.setPositionState p .offline

/-- LINK_DOWN (R4, R2, R14). -/
def execLinkDown (p : PositionId) (s : State) : Host.Outcome State Fault Refusal := s.running (State.lineDown p)

/-- R2, R6, R179: bytes arrive on a position port; while the line is not present they are discarded. DESIGN CHOICE (log 24): a frame whose first bytes come before LINK-UP and whose last come after it loses its first bytes, and with them is lost. -/
def State.receivePosition (p : PositionId) (bytes : List Byte) (s : State) : State :=
  if (s.ctx p).linePresent then
    { s with ports := tset s.ports p ((tget s.ports p).receive positionSync Config.positionFramesHeld bytes) }
  else s

/-- POSITION_FRAME_RECEIVED (R6, R2, R179). -/
def execPositionFrameReceived (p : PositionId) (bytes : List Byte) (s : State) : Host.Outcome State Fault Refusal :=
  s.running (State.receivePosition p bytes)

/-! ### ATTACH and DETACH -/

def attachForm : RequestForm (AccountId × Fin 16) :=
  { code := 0x01, read := readAttach, served := servedLinked, slot := fun _ => none, slotByte := noSlotByte }

/-- R11: the checks of ATTACH in order, and its effect. -/
def serveAttach (p : PositionId) (x : AccountId × Fin 16) (s : State) : State × Answer :=
  let a := s.account x.1
  if (s.ctx p).config.allowed.getLsbD x.1.val = false then (s, .refuse .protection)
  else if x.2 ≠ a.key then (s, .refuse .protection)
  else if a.status ≠ .opened then (s, .refuse .accountBlocked)
  else
    (s.setCtx p { s.ctx p with account := some x.1, key := some x.2, state := .attached },
      .taken [BitVec.ofNat 8 x.1.val, boolByte a.low])

/-- ATTACH (R11). -/
def execAttach (p : PositionId) (tag : Byte) (payload : List Byte) (s : State) : Host.Outcome State Fault Refusal :=
  s.running (State.request attachForm p tag payload (serveAttach p))

def detachForm : RequestForm Unit :=
  { code := 0x02, read := readNothing, served := servedOnline, slot := fun _ => none, slotByte := noSlotByte }

/-- R12: the forced detach, the state LINKED, and the count of records removed; in LINKED nothing changes. -/
def serveDetach (p : PositionId) (_ : Unit) (s : State) : State × Answer :=
  if (s.ctx p).state.clerked then
    ((s.forcedDetach p).setPositionState p .linked, .taken [BitVec.ofNat 8 (s.ctx p).completions.length])
  else (s, .taken [0x00])

/-- DETACH (R12, R14). -/
def execDetach (p : PositionId) (tag : Byte) (payload : List Byte) (s : State) : Host.Outcome State Fault Refusal :=
  s.running (State.request detachForm p tag payload (serveDetach p))

/-! ### CANCEL -/

def cancelForm : RequestForm (Option Slot) :=
  { code := 0x0D, read := readCancel, served := servedInTransaction, slot := id, slotByte := cancelSlotByte }

/-- R22: a slot is meant by ALL (none) or by its own name. -/
def targets (target : Option Slot) (k : Slot) : Bool :=
  match target with
  | none => true
  | some t => decide (t = k)

/-- R22: the weigh of the position is cancelled when it concerns the target; answers whether it was found. -/
def State.cancelWeigh (p : PositionId) (target : Option Slot) (s : State) : State × Bool :=
  match (s.ctx p).weigh, s.weighChannel p with
  | some w, some c => if targets target w then (s.endWeigh c .cancelled 0, true) else (s, false)
  | _, _ => (s, false)

/-- R101, R102: a cancellation at the evaluator: a queued entry is removed at once, an evaluation under way is given the halt reason CANCELLED if it has none, and a CHAINING operation ends for ALL. -/
def State.cancelOperation (p : PositionId) (target : Option Slot) (s : State) : State :=
  match s.evaluator.queue.find? fun op => decide (op.position = p) && targets target op.slot with
  | some op =>
    (State.returnItem p op.slot
      { s with
        evaluator :=
          { s.evaluator with
            queue := s.evaluator.queue.eraseP fun op => decide (op.position = p) && targets target op.slot } }).handRateDone
      op op.slot .cancelled
  | none =>
    match s.evaluator.state with
    | .evaluating op ev =>
      if op.position = p ∧ targets target op.slot = true ∧ ev.halt = none then
        s.setEvaluatorState (.evaluating op { ev with halt := some .cancelled })
      else s
    | .chaining op =>
      if op.position = p ∧ target = none then (s.setEvaluatorState .idle).handRateDone op op.slot .cancelled else s
    | .idle => s

/-- R22: the rating is found when the named slot is RATE-QUEUED or RATING, or ALL is named and a rating is in flight. -/
def State.ratingFound (p : PositionId) (target : Option Slot) (s : State) : Bool :=
  match target with
  | some k => (s.item p k).any fun i => decide (i.state = .rateQueued ∨ i.state = .rating)
  | none => (s.ctx p).rating

/-- R22: the weigh, then the rating, in the order of R22 (DEDUCED, log 29); the answer carries FOUND or NONE for each. -/
def serveCancel (p : PositionId) (target : Option Slot) (s : State) : State × Answer :=
  let w := s.cancelWeigh p target
  let found := w.1.ratingFound p target
  (if found then w.1.cancelOperation p target else w.1, .taken [boolByte w.2, boolByte found])

/-- CANCEL (R22, R101, R102). -/
def execCancel (p : PositionId) (tag : Byte) (payload : List Byte) (s : State) : Host.Outcome State Fault Refusal :=
  s.running (State.request cancelForm p tag payload (serveCancel p))

/-! ### COLLECT and QUERY -/

def collectForm : RequestForm Unit :=
  { code := 0x0E, read := readNothing, served := servedOnline, slot := fun _ => none, slotByte := noSlotByte }

/-- R20: the oldest record leaves the queue and is answered with the number still held. -/
def serveCollect (p : PositionId) (_ : Unit) (s : State) : State × Answer :=
  match (s.ctx p).completions with
  | r :: rest =>
    (s.setCtx p { s.ctx p with completions := rest }, .taken ([0x01, BitVec.ofNat 8 rest.length] ++ r.bytes))
  | [] => (s, .taken [0x00, 0x00])

/-- COLLECT (R20). -/
def execCollect (p : PositionId) (tag : Byte) (payload : List Byte) (s : State) : Host.Outcome State Fault Refusal :=
  s.running (State.request collectForm p tag payload (serveCollect p))

def queryForm : RequestForm Unit :=
  { code := 0x10, read := readNothing, served := servedOnline, slot := fun _ => none, slotByte := noSlotByte }

/-- R106: the ACTIVE bank, if there is one. -/
def State.activeBank (s : State) : Option BankId :=
  if s.tariffs.bankA.state = .active then some .A else if s.tariffs.bankB.state = .active then some .B else none

/-- R21, section 11.2: an item state in QUERY; FFH for an EMPTY slot and when no transaction is open. -/
def State.itemByte (s : State) (p : PositionId) (k : Slot) : Byte :=
  match s.item p k with
  | some i => i.state.code
  | none => 0xFF

/-- R21: the scale channel configured for the position, its state and its weigh sub-state. -/
def State.scaleBytes (s : State) (c : PositionContext) : List Byte :=
  match c.config.scale with
  | some ch => BitVec.ofNat 8 ch.val :: (s.channel ch).state.code :: (s.channel ch).weigh.bytes
  | none => absentBytes 5

/-- R21: the printer configured for the position, its state and its fault reason. -/
def State.printerBytes (s : State) (c : PositionContext) : List Byte :=
  match c.config.printer with
  | some l => [BitVec.ofNat 8 l.val, (s.printer l).state.code, (s.printer l).state.reasonByte]
  | none => absentBytes 3

/-- R21: the active tariff, with the byte that tells whether there is one. -/
def State.activeTariffBytes (s : State) : List Byte :=
  match s.activeBank with
  | some b => 0x01 :: optBytes 4 ((s.bank b).tariffId.map BitVec.toNat)
  | none => 0x00 :: absentBytes 4

/-- R21, section 11.2: the picture of a position. -/
def State.queryBytes (p : PositionId) (s : State) : List Byte :=
  let c := s.ctx p
  [c.state.code, optByte (c.account.map (·.val))] ++ (List.finRange 8).map (s.itemByte p) ++ s.scaleBytes c ++
    s.printerBytes c ++
    [match c.account with
      | some a => boolByte (s.account a).low
      | none => 0xFF] ++
    s.activeTariffBytes ++
    [BitVec.ofNat 8 c.completions.length, boolByte c.weigh.isSome, boolByte c.rating, BitVec.ofNat 8 (tget s.labelCounts p)]

/-- QUERY (R21). -/
def execQuery (p : PositionId) (tag : Byte) (payload : List Byte) (s : State) : Host.Outcome State Fault Refusal :=
  s.running (State.request queryForm p tag payload fun _ s => (s, .taken (s.queryBytes p)))

/-! ### Unknown request codes -/

/-- R8 checks 1 and 2: a frame whose request code is none of the sixteen; no payload suits it. -/
def unknownForm (code : Byte) : RequestForm Empty :=
  { code := code, read := fun _ => none, served := servedOnline, slot := fun _ => none, slotByte := noSlotByte }

/-- UNKNOWN_REQUEST_CODE (R8, R9). A known code is served by its own row, so here it changes nothing (log 2). -/
def execUnknownRequestCode (p : PositionId) (code tag : Byte) (payload : List Byte) (s : State) :
    Host.Outcome State Fault Refusal :=
  s.running fun s =>
    if 1 ≤ code.toNat ∧ code.toNat ≤ 16 then s
    else s.request (unknownForm code) p tag payload fun x _ => nomatch x

end Sys2Proof.Machine
end

