-- ==== Sys2Proof/Machine/Rating.lean ====
section
/-! DEFINITION. Rating (chapter 5): RATE, and the steps of the evaluator: start, check, term, delivery, chain and halt. -/

namespace Sys2Proof.Machine

/-! ### RATE -/

def rateForm : RequestForm (Slot × Scope) :=
  { code := 0x09, read := readRate, served := servedInTransaction, slot := fun x => some x.1, slotByte := firstSlotByte 0x09 2 }

/-- R80 check 3: a bank is ACTIVE. -/
def State.tariffInForce (s : State) : Bool :=
  decide (s.tariffs.bankA.state = .active ∨ s.tariffs.bankB.state = .active)

/-- R81: the operations ahead of a new entry: those that joined before it, and one if the evaluator is not IDLE. -/
def State.operationsAhead (s : State) : Nat :=
  s.evaluator.queue.length + match s.evaluator.state with | .idle => 0 | .evaluating _ _ | .chaining _ => 1

/-- R36, R81: a RATE that is taken: the item becomes RATE-QUEUED, the rating is in flight, and a first entry joins the tail. -/
def State.takeRate (p : PositionId) (k : Slot) (scope : Scope) (s : State) : State :=
  let s1 := s.requote p k .rateQueued
  let s2 := s1.setCtx p { s1.ctx p with rating := true }
  { s2 with evaluator := { s2.evaluator with queue := s2.evaluator.queue ++ [⟨p, k, k, scope, 0, none⟩] } }

/-- R80: the checks of RATE in order. -/
def serveRate (p : PositionId) (x : Slot × Scope) (s : State) : State × Answer :=
  match s.item p x.1 with
  | none => (s, .refuse .state)
  | some i =>
    if i.state.fit = false then (s, .refuse .state)
    else if i.facts.destination.isNone then (s, .refuse .missingDestination)
    else if s.tariffInForce = false then (s, .refuse .noTariff)
    else if (s.ctx p).rating then (s, .busy)
    else if Config.budget ≤ s.budget p then (s, .busy)
    else (s.takeRate p x.1 x.2, .taken [BitVec.ofNat 8 s.operationsAhead])

/-- RATE (R80, R81). -/
def execRate (p : PositionId) (tag : Byte) (payload : List Byte) (s : State) : Host.Outcome State Fault Refusal :=
  s.running (State.request rateForm p tag payload (serveRate p))

/-! ### Evaluation start -/

/-- R82: the bank that is ACTIVE with its generation. -/
def State.inForce (s : State) : Option (BankId × Word16) :=
  if s.tariffs.bankA.state = .active then some (.A, s.tariffs.bankA.generation.getD 0)
  else if s.tariffs.bankB.state = .active then some (.B, s.tariffs.bankB.generation.getD 0)
  else none

/-- R82: the evaluation at its start: accumulator 0, no marks, no trace, no halt reason. -/
def Evaluation.begun (b : BankId) (g : Word16) (flags : BitVec 8) (i : Item) : Evaluation :=
  { bank := b, generation := g, flags := flags, facts := i.facts, weight := i.weight.getD 0, step := .check,
    accumulator := 0, marks := ⟨false, false⟩, trace := [], halt := none }

/-- R116: the ACTIVE bank's reference count rises by one. -/
def State.reference (b : BankId) (s : State) : State := s.setBank b { s.bank b with refs := (s.bank b).refs + 1 }

/-- R79, R82: the IDLE evaluator takes the head entry: with a bank ACTIVE the evaluation starts, without one the operation is refused NO-TARIFF. An entry whose item is not RATE-QUEUED does not arise (R33) and is dropped (log 20). -/
def State.startEvaluation (s : State) : State :=
  match s.evaluator.state, s.evaluator.queue with
  | .idle, op :: rest =>
    let s1 := { s with evaluator := { s.evaluator with queue := rest } }
    match s1.item op.position op.slot with
    | some i =>
      if i.state = .rateQueued then
        match s1.inForce with
        | some (b, g) =>
          ((s1.reference b).setItem op.position op.slot (some { i with state := .rating })).setEvaluatorState
            (.evaluating op (.begun b g s.flags i))
        | none => s1.endRating op .noTariff
      else s1
    | none => s1
  | _, _ => s

/-- EVALUATION_START (R79, R82, R87). -/
def execEvaluationStart (s : State) : Host.Outcome State Fault Refusal := s.running State.startEvaluation

/-! ### Check, term and delivery steps -/

/-- R83: the step after the one that ends with the working quantities: term `next`, or delivery when the list is over. -/
def stepAfter (img : List Byte) (service : Fin 8) (next : Nat) (w : Working) : EvalStep :=
  if next < (scheduleOf img service.val).termCount then .term next w else .delivery w

/-- R84 to R87: the check step; a refusal releases the reference and ends the operation. -/
def State.checkStep (s : State) : State :=
  match s.evaluator.state with
  | .evaluating op ev =>
    match ev.halt, ev.step with
    | none, .check =>
      match checkParcel (s.bank ev.bank).image ev.facts ev.weight with
      | .ok w =>
        s.setEvaluatorState (.evaluating op { ev with step := stepAfter (s.bank ev.bank).image ev.facts.service 0 w })
      | .error r => (s.release ev.bank).endRating op r
    | _, _ => s
  | .idle | .chaining _ => s

/-- CHECK_STEP (R84 to R89). -/
def execCheckStep (s : State) : Host.Outcome State Fault Refusal := s.running State.checkStep

/-- R83, R90: the next term is taken. -/
def State.termStep (s : State) : State :=
  match s.evaluator.state with
  | .evaluating op ev =>
    match ev.halt, ev.step with
    | none, .term k w =>
      let img := (s.bank ev.bank).image
      s.setEvaluatorState (.evaluating op
        { ev.takeTerm (termOf img ev.facts.service.val k) k w with step := stepAfter img ev.facts.service (k + 1) w })
    | _, _ => s
  | .idle | .chaining _ => s

/-- TERM_STEP (R90 to R95). -/
def execTermStep (s : State) : Host.Outcome State Fault Refusal := s.running State.termStep

/-- R98: the quote that an evaluation delivers. -/
def Evaluation.quote (img : List Byte) (w : Working) (ev : Evaluation) : Quote :=
  let r := convert (scheduleOf img ev.facts.service.val) ev.accumulator ev.marks
  { postage := r.1, tariffId := imageTariffId img, bank := ev.bank, generation := ev.generation, chargeable := w.chargeable,
    kind := w.kind, zone := w.zone, marks := r.2, trace := ev.trace, stale := false }

/-- R37: a quote is stored in the RATING item, which becomes QUOTED. -/
def State.storeQuote (p : PositionId) (k : Slot) (q : Quote) (s : State) : State :=
  match s.item p k with
  | some i => if i.state = .rating then s.setItem p k (some { i with state := .quoted, quote := some q }) else s
  | none => s

/-- R98: the operation after a delivery of a postage. -/
def Operation.delivered (postage : Nat) (op : Operation) : Operation :=
  { op with quoted := op.quoted + 1, lastPostage := some postage }

/-- R98: the operation goes on to a chain step: scope REST and a slot below 7. -/
def Operation.chains (op : Operation) : Bool := decide (op.scope = .rest ∧ op.slot.val < 7)

/-- R96 to R98: the delivery step: the quote is delivered with the evaluation's reference, and the operation ends or goes to CHAINING. -/
def State.deliveryStep (s : State) : State :=
  match s.evaluator.state with
  | .evaluating op ev =>
    match ev.halt, ev.step with
    | none, .delivery w =>
      let q := ev.quote (s.bank ev.bank).image w
      let op' := op.delivered q.postage
      let s1 := s.storeQuote op.position op.slot q
      if op.chains then s1.setEvaluatorState (.chaining op') else (s1.setEvaluatorState .idle).handRateDone op' op.slot .ok
    | _, _ => s
  | .idle | .chaining _ => s

/-- DELIVERY_STEP (R96 to R98). -/
def execDeliveryStep (s : State) : Host.Outcome State Fault Refusal := s.running State.deliveryStep

/-! ### Chain step and halt -/

/-- R99: the slot after the one just quoted. -/
def slotAfter (k : Slot) : Slot := k + 1

/-- R99: the chain step: a continuation is placed behind every entry waiting, or the chain ends. -/
def State.chainStep (s : State) : State :=
  match s.evaluator.state with
  | .chaining op =>
    let k := slotAfter op.slot
    if op.slot.val < 7 ∧ (s.item op.position k).any (fun i => i.state.fit) = true then
      let s1 := s.requote op.position k .rateQueued
      { s1 with evaluator := { queue := s1.evaluator.queue ++ [{ op with slot := k }], state := .idle } }
    else (s.setEvaluatorState .idle).handRateDone op (if op.slot.val < 7 then k else op.slot) .ok
  | .idle | .evaluating _ _ => s

/-- CHAIN_STEP (R99, R100). -/
def execChainStep (s : State) : Host.Outcome State Fault Refusal := s.running State.chainStep

/-- R102 to R104: at a term boundary where a halt reason is set, the evaluation halts and releases its reference. -/
def State.haltEvaluation (s : State) : State :=
  match s.evaluator.state with
  | .evaluating op ev =>
    match ev.halt with
    | some .cancelled => (s.release ev.bank).endRating op .cancelled
    | some .reRate => (s.release ev.bank).endRating op .reRate
    | some .abandoned => (s.release ev.bank).setEvaluatorState .idle
    | none => s
  | .idle | .chaining _ => s

/-- EVALUATION_HALT (R102, R103, R104, R120). -/
def execEvaluationHalt (s : State) : Host.Outcome State Fault Refusal := s.running State.haltEvaluation

end Sys2Proof.Machine
end

