-- ==== Sys2Proof/Machine/Scales.lean ====
section
/-! DEFINITION. Scale channels (chapter 3): samples, the settle and weigh timers, WEIGH and ZERO. -/

namespace Sys2Proof.Machine

/-! ### Samples -/

/-- R50, R51: the window changes, and filtered counts and reading are recomputed. -/
def Channel.withWindow (window : List Int) (ch : Channel) : Channel :=
  { ch with
    window := window, filtered := some (filterCounts window),
    reading := some (readingOf ch.config (filterCounts window) ch.workingZero) }

/-- R50, R52: a window restart with one sample: the reference becomes the new reading, the state UNSTABLE, and the settle timer starts afresh. -/
def Channel.restart (count : Int) (ch : Channel) : Channel :=
  let c := ch.withWindow [count]
  { c with reference := c.reading, state := .unstable, settleTimer := some ch.config.settle, spikes := 0 }

/-- R52: a recomputed reading that is not from a restart is judged against the reference. -/
def Channel.judged (ch : Channel) : Channel :=
  match ch.reading, ch.reference with
  | some r, some f =>
    if ch.config.band * ch.config.division < (r - f).natAbs then
      { ch with reference := some r, state := .unstable, settleTimer := some ch.config.settle }
    else ch
  | _, _ => ch

/-- R50: an accepted sample joins the window, whose oldest sample leaves when it would hold nine. -/
def Channel.join (count : Int) (ch : Channel) : Channel :=
  let w := ch.window ++ [count]
  ({ ch with spikes := 0 }.withWindow (if Config.windowSize < w.length then w.drop 1 else w)).judged

/-- R47: entry into FAULT: the window and what is computed from it go, and the settle timer stops. -/
def Channel.failed (ch : Channel) : Channel :=
  { ch with
    state := .fault, errors := Config.errorLimit, window := [], filtered := none, reading := none, reference := none,
    spikes := 0, settleTimer := none }

/-- R48, R49: a good sample on a channel that is not OFF. -/
def Channel.takeGood (count : Int) (ch : Channel) : Channel :=
  let c := { ch with errors := 0 }
  match ch.state, ch.filtered with
  | .off, _ => ch
  | .fault, _ => c.restart count
  | _, none => c.restart count
  | _, some f =>
    if ch.config.spikeLimit < (count - f).natAbs then
      if Config.spikeRun ≤ ch.spikes + 1 then c.restart count else { c with spikes := ch.spikes + 1 }
    else c.join count

/-- R47 to R49: one arrival at a channel; a channel that is OFF discards it. -/
def State.takeArrival (c : ChannelId) (s : State) (a : Arrival) : State :=
  let ch := s.channel c
  match ch.state, a with
  | .off, _ => s
  | _, .good count => s.setChannel c (ch.takeGood count)
  | .fault, .error => s
  | _, .error =>
    if Config.errorLimit ≤ ch.errors + 1 then (s.setChannel c ch.failed).endWeigh c .scaleFault 0
    else s.setChannel c { ch with errors := ch.errors + 1 }

/-- R180: bytes arrive on a scale line; each frame found is one arrival, in order. -/
def State.receiveSamples (c : ChannelId) (bytes : List Byte) (s : State) : State :=
  let buf := tget s.scaleLines c ++ bytes
  let r := scanSamples buf.length buf
  r.1.foldl (State.takeArrival c) { s with scaleLines := tset s.scaleLines c r.2 }

/-- SAMPLE_FRAME (R47 to R52, R180). -/
def execSampleFrame (c : ChannelId) (bytes : List Byte) (s : State) : Host.Outcome State Fault Refusal :=
  s.running (State.receiveSamples c bytes)

/-! ### Timers -/

/-- R56: the status of a capture of the channel's reading, with the reading in grams. -/
def Channel.capture (ch : Channel) : Option (Reason × Nat) :=
  ch.reading.map fun r => (captureStatus ch.config r, r.toNat)

/-- R53: the settle timer of an UNSTABLE channel expires: it becomes STABLE, and a WAITING weigh is captured. -/
def State.settle (c : ChannelId) (s : State) : State :=
  let ch := s.channel c
  if ch.settleTimer.isSome ∧ ch.state = .unstable then
    let s1 := s.setChannel c { ch with state := .stable, settleTimer := none }
    match ch.capture with
    | some x => s1.endWeigh c x.1 x.2
    | none => s1
  else s

/-- SETTLE_TIMER_EXPIRY (R53, R56). A stopped timer does not expire (log 2). -/
def execSettleTimerExpiry (c : ChannelId) (s : State) : Host.Outcome State Fault Refusal := s.running (State.settle c)

/-- WEIGH_TIMER_EXPIRY (R57, R58). A stopped timer does not expire (log 2). -/
def execWeighTimerExpiry (c : ChannelId) (s : State) : Host.Outcome State Fault Refusal :=
  s.running fun s => if (s.channel c).weighTimer.isSome then s.endWeigh c .unstable 0 else s

/-! ### WEIGH -/

def weighForm : RequestForm Slot :=
  { code := 0x07, read := readSlot, served := servedInTransaction, slot := some, slotByte := firstSlotByte 0x07 1 }

/-- R34, R54: the start of a weigh: the item becomes WEIGHING and loses any quote, and the position's weigh in flight is recorded. -/
def State.startWeigh (p : PositionId) (k : Slot) (s : State) : State :=
  let s1 := s.requote p k .weighing
  s1.setCtx p { s1.ctx p with weigh := some k }

/-- R55: a WEIGH that has passed its checks: captured at once on a STABLE channel, WAITING on an UNSTABLE one. -/
def State.takeWeigh (p : PositionId) (c : ChannelId) (k : Slot) (s : State) : State × Answer :=
  let ch := s.channel c
  match ch.state, ch.capture with
  | .stable, some x =>
    let s1 := (s.startWeigh p k).finishWeigh p k x.1 x.2
    (s1, .taken ([0x00, x.1.code] ++ optBytes 4 ((s1.item p k).bind (·.weight)) ++ optBytes 4 ((s1.item p k).bind (·.previous))))
  | _, _ =>
    ((s.startWeigh p k).setChannel c { ch with weigh := .waiting p k, weighTimer := some Config.weighTime }, .taken [0x01])

/-- R54: the checks of WEIGH in order. -/
def serveWeigh (p : PositionId) (k : Slot) (s : State) : State × Answer :=
  match (s.ctx p).config.scale, s.item p k with
  | none, _ => (s, .refuse .noScale)
  | some _, none => (s, .refuse .state)
  | some c, some i =>
    let ch := s.channel c
    if i.state.free = false then (s, .refuse .state)
    else if ch.state = .off then (s, .unavailable)
    else if ch.weigh ≠ .idle ∨ (s.ctx p).weigh.isSome then (s, .busy)
    else if Config.budget ≤ s.budget p then (s, .busy)
    else if ch.state = .fault then (s, .refuse .scaleFault)
    else s.takeWeigh p c k

/-- WEIGH (R54, R55). -/
def execWeigh (p : PositionId) (tag : Byte) (payload : List Byte) (s : State) : Host.Outcome State Fault Refusal :=
  s.running (State.request weighForm p tag payload (serveWeigh p))

/-! ### ZERO -/

def zeroForm : RequestForm Unit :=
  { code := 0x08, read := readNothing, served := servedAttached, slot := fun _ => none, slotByte := noSlotByte }

/-- R59, R51: the working zero becomes the filtered counts, the reference 0, and the reading is recomputed. -/
def Channel.zeroed (filtered : Int) (ch : Channel) : Channel :=
  { ch with workingZero := filtered, reference := some 0, reading := some (readingOf ch.config filtered filtered) }

/-- R59: the checks of ZERO in order, and its effect. -/
def serveZero (p : PositionId) (_ : Unit) (s : State) : State × Answer :=
  match (s.ctx p).config.scale with
  | none => (s, .refuse .noScale)
  | some c =>
    let ch := s.channel c
    if ch.state = .off then (s, .unavailable)
    else if ch.weigh ≠ .idle then (s, .busy)
    else if ch.state ≠ .stable then (s, .refuse .unstable)
    else
      match ch.filtered with
      | some f =>
        if (f - ch.config.calibratedZero).natAbs ≤ zeroRange ch.config then
          (s.setChannel c (ch.zeroed f), .taken (leInt 4 (f - ch.config.calibratedZero)))
        else (s, .refuse .zeroRange)
      | none => (s, .refuse .zeroRange)

/-- ZERO (R59). -/
def execZero (p : PositionId) (tag : Byte) (payload : List Byte) (s : State) : Host.Outcome State Fault Refusal :=
  s.running (State.request zeroForm p tag payload (serveZero p))

end Sys2Proof.Machine
end

