-- ==== Sys2Proof/Machine/Spool.lean ====
section
/-! DEFINITION. Label spool and printers (chapter 9): the printers' answers, the print timeout, PRINTER and REDIRECT. -/

namespace Sys2Proof.Machine

/-! ### Answers of a printer -/

/-- R157: a DONE answer ends the job when the printer is PRINTING and the send number matches; otherwise it is ignored. -/
def State.takeDone (l : PrinterId) (sendNumber : Byte) (s : State) : State :=
  if (s.printer l).state = .printing ∧ (s.printer l).sendNumber = sendNumber then s.finishHead l else s

/-- R158: a FAULT answer according to the printer's state. -/
def State.takeFault (l : PrinterId) (sendNumber : Byte) (reason : FaultReason) (s : State) : State :=
  match (s.printer l).state with
  | .printing => if (s.printer l).sendNumber = sendNumber then s.returnHead l (.faulted reason) else s
  | .ready | .faulted _ => s.setPrinter l { s.printer l with state := .faulted reason }
  | .off => s

/-- R159: a READY answer according to the printer's state. -/
def State.takeReady (l : PrinterId) (s : State) : State :=
  match (s.printer l).state with
  | .faulted _ => (s.setPrinter l { s.printer l with state := .ready }).sendHead l
  | .printing => (s.returnHead l .ready).sendHead l
  | .ready | .off => s

/-- R181: one answer reaches the spool. -/
def State.takePrinterAnswer (l : PrinterId) (s : State) : PrinterAnswer → State
  | .done sn => s.takeDone l sn
  | .fault sn r => s.takeFault l sn r
  | .ready => s.takeReady l

/-- R181: bytes arrive on a printer line; each answer found reaches the spool, in order. -/
def State.receiveAnswers (l : PrinterId) (bytes : List Byte) (s : State) : State :=
  let buf := tget s.printerLines l ++ bytes
  let r := scanAnswers buf.length buf
  r.1.foldl (State.takePrinterAnswer l) { s with printerLines := tset s.printerLines l r.2 }

/-- PRINTER_DONE (R157, R181). -/
def execPrinterDone (l : PrinterId) (noise : List Byte) (sendNumber reason check : Byte) (s : State) :
    Host.Outcome State Fault Refusal :=
  s.running (State.receiveAnswers l (noise ++ answerWire 0x01 sendNumber reason check))

/-- PRINTER_FAULT (R158, R181). -/
def execPrinterFault (l : PrinterId) (noise : List Byte) (sendNumber reason check : Byte) (s : State) :
    Host.Outcome State Fault Refusal :=
  s.running (State.receiveAnswers l (noise ++ answerWire 0x02 sendNumber reason check))

/-- PRINTER_READY (R159, R181). -/
def execPrinterReady (l : PrinterId) (noise : List Byte) (sendNumber reason check : Byte) (s : State) :
    Host.Outcome State Fault Refusal :=
  s.running (State.receiveAnswers l (noise ++ answerWire 0x03 sendNumber reason check))

/-- PRINT_TIMEOUT (R160): the print timer of a PRINTING printer expires. A stopped timer does not expire (log 2). -/
def execPrintTimeout (l : PrinterId) (s : State) : Host.Outcome State Fault Refusal :=
  s.running fun s =>
    if (s.printer l).state = .printing ∧ (s.printer l).timer.isSome then s.returnHead l (.faulted .timeout) else s

/-! ### PRINTER and REDIRECT -/

/-- R164: what the enabled setting makes of the printer. -/
def State.setEnabled (l : PrinterId) (enabled : Bool) (s : State) : State :=
  match enabled, (s.printer l).state with
  | false, .printing => s.returnHead l .off
  | false, .ready | false, .faulted _ => s.setPrinter l { s.printer l with state := .off }
  | false, .off => s
  | true, .off => (s.setPrinter l { s.printer l with state := .ready }).sendHead l
  | true, .ready | true, .printing | true, .faulted _ => s

/-- R164: PRINTER: the setting is written, and the printer treated. -/
def servePrinter (x : PrinterId × Bool) (s : State) : State × OfficeAnswer :=
  let s1 := (s.setPrinter x.1 { s.printer x.1 with enabled := x.2 }).savePrinter x.1
  let s2 := s1.setEnabled x.1 x.2
  (s2, .done [(s2.printer x.1).state.code])

/-- PRINTER (R164). -/
def execPrinter (tag : Byte) (payload : List Byte) (s : State) : Host.Outcome State Fault Refusal :=
  s.running (State.command 0x09 readPrinter tag payload servePrinter)

/-- R163: the WAITING jobs of a queue, in order. -/
def waitingJobs (queue : List Job) : List Job := queue.filter fun j => decide (j.condition = .waiting)

/-- R163, R41: each moved job is reported to the PCT, its label state QUEUED. -/
def State.reportMoved (jobs : List Job) (s : State) : State :=
  jobs.foldl (fun s j => s.reportLabel j.position j.itemNumber .queued) s

/-- R163: the checks of REDIRECT in order, and its effect. -/
def serveRedirect (x : PrinterId × PrinterId) (s : State) : State × OfficeAnswer :=
  let source := s.printer x.1
  let target := s.printer x.2
  let moved := waitingJobs source.queue
  if x.1 = x.2 then (s, .refused .state [])
  else if target.state = .off then (s, .refused .state [])
  else if Config.printerQueue - target.queue.length < moved.length then (s, .refused .room [])
  else
    let s1 :=
      ((((s.setPrinter x.1
          { source with queue := source.queue.filter fun j => decide (j.condition ≠ .waiting) }).setPrinter x.2
          { target with queue := target.queue ++ moved }).saveQueue x.1).saveQueue x.2).reportMoved moved
    (s1.sendHead x.2, .done [BitVec.ofNat 8 moved.length, BitVec.ofNat 8 (target.queue.length + moved.length)])

/-- REDIRECT (R163). -/
def execRedirect (tag : Byte) (payload : List Byte) (s : State) : Host.Outcome State Fault Refusal :=
  s.running (State.command 0x0A readRedirect tag payload serveRedirect)

end Sys2Proof.Machine
end

