-- ==== Sys2Proof/Machine/Tariffs.lean ====
section
/-! DEFINITION. Tariff loading and changeover (chapter 6): the load commands, ACTIVATE, the tick, grace expiry and the load idle timeout. -/

namespace Sys2Proof.Machine

/-- R108: the bank that is LOADING, if there is one. -/
def State.loadingBank (s : State) : Option BankId :=
  if s.tariffs.bankA.state = .loading then some .A else if s.tariffs.bankB.state = .loading then some .B else none

/-- R108: the EMPTY bank a load takes: A if A is EMPTY, else B. -/
def State.emptyBank (s : State) : Option BankId :=
  if s.tariffs.bankA.state = .empty then some .A else if s.tariffs.bankB.state = .empty then some .B else none

/-- R108: a bank as LOAD-BEGIN makes it. -/
def Bank.loadingOf (d : LoadDeclaration) : Bank :=
  { state := .loading, image := [], tariffId := some d.tariffId, effective := some d.effective, grace := none,
    generation := none, refs := 0, graceTimer := .stopped, declared := some ⟨d.length, d.check⟩,
    idleTimer := some Config.idleTime }

/-- R108: the checks of LOAD-BEGIN in order, and its effect. -/
def serveLoadBegin (d : LoadDeclaration) (s : State) : State × OfficeAnswer :=
  if s.loadingBank.isSome then (s, .refused .noBank [])
  else
    match s.emptyBank with
    | some b => (s.setBank b (.loadingOf d), .done [bankCode b])
    | none => (s, .refused .noBank [])

/-- LOAD_BEGIN (R108). -/
def execLoadBegin (tag : Byte) (payload : List Byte) (s : State) : Host.Outcome State Fault Refusal :=
  s.running (State.command 0x0B readLoadBegin tag payload serveLoadBegin)

/-- R109: the checks of LOAD-PART in order, and its effect. -/
def serveLoadPart (x : Nat × List Byte) (s : State) : State × OfficeAnswer :=
  match s.loadingBank with
  | none => (s, .refused .state [])
  | some b =>
    let bk := s.bank b
    if x.1 ≠ bk.image.length then (s, .refused .sequence (leBytes 2 bk.image.length))
    else if (match bk.declared with | some d => d.length | none => 0) < x.1 + x.2.length then
      (s, .refused .length (leBytes 2 bk.image.length))
    else
      (s.setBank b { bk with image := bk.image ++ x.2, idleTimer := some Config.idleTime },
        .done (leBytes 2 (bk.image.length + x.2.length)))

/-- LOAD_PART (R109). -/
def execLoadPart (tag : Byte) (payload : List Byte) (s : State) : Host.Outcome State Fault Refusal :=
  s.running (State.command 0x0C readLoadPart tag payload serveLoadPart)

/-- R107, R111: a bank whose image has passed validation takes its header's fields and the next generation. -/
def Bank.loadedWith (g : Word16) (bk : Bank) : Bank :=
  { bk with
    state := .loaded, tariffId := some (imageTariffId bk.image), effective := some (imageEffective bk.image),
    grace := some (imageGrace bk.image), generation := some g, declared := none, idleTimer := none }

/-- R107, R111: the valid image of a LOADING bank is taken, and the bank, the counter and the last-loaded bank are written. -/
def State.admitImage (b : BankId) (s : State) : State :=
  let g := s.tariffs.counter + 1
  let s1 := s.setBank b ((s.bank b).loadedWith g)
  State.saveTariffs { s1 with tariffs := { s1.tariffs with counter := g, lastLoaded := some b } }

/-- R111: LOAD-END: validation, then LOADED with the next generation and, if due, ACTIVE; or EMPTY. -/
def serveLoadEnd (_ : Unit) (s : State) : State × OfficeAnswer :=
  match s.loadingBank with
  | none => (s, .refused .state [])
  | some b =>
    match imageFault (s.bank b) s.allocator.officeCode with
    | some x => (s.setBank b .blank, .refused x.fault.reason x.bytes)
    | none =>
      let s1 := s.admitImage b
      let due := s.clock.valid && (s1.bank b).due s.clock.value
      (if due then s1.activate b else s1,
        .done (bankCode b :: leBytes 2 (s.tariffs.counter + 1).toNat ++ [boolByte due]))

/-- LOAD_END (R111, R74, R75, R107). -/
def execLoadEnd (tag : Byte) (payload : List Byte) (s : State) : Host.Outcome State Fault Refusal :=
  s.running (State.command 0x0D readNothing tag payload serveLoadEnd)

/-- R112: LOAD-ABANDON according to the state of the named bank. -/
def serveLoadAbandon (b : BankId) (s : State) : State × OfficeAnswer :=
  match (s.bank b).state with
  | .loading => (s.setBank b .blank, .done [])
  | .loaded => ((s.setBank b .blank).saveTariffs, .done [])
  | .empty => (s, .done [])
  | .active | .retiring => (s, .refused .state [])

/-- LOAD_ABANDON (R112). -/
def execLoadAbandon (tag : Byte) (payload : List Byte) (s : State) : Host.Outcome State Fault Refusal :=
  s.running (State.command 0x0E readBankName tag payload serveLoadAbandon)

/-- R115: ACTIVATE. -/
def serveActivate (b : BankId) (s : State) : State × OfficeAnswer :=
  if (s.bank b).state = .loaded then (s.activate b, .done []) else (s, .refused .state [])

/-- ACTIVATE (R115, R114). -/
def execActivate (tag : Byte) (payload : List Byte) (s : State) : Host.Outcome State Fault Refusal :=
  s.running (State.command 0x0F readBankName tag payload serveActivate)

/-! ### The tick and the timers -/

/-- R113: the bank that a tick activates: the due one; of two, the one with the later effective time, and of two with equal times the last-loaded one. -/
def State.dueBank (s : State) : Option BankId :=
  if s.clock.valid = false then none
  else
    match s.tariffs.bankA.due s.clock.value, s.tariffs.bankB.due s.clock.value with
    | true, false => some .A
    | false, true => some .B
    | false, false => none
    | true, true =>
      match s.tariffs.bankA.effective, s.tariffs.bankB.effective with
      | some a, some b => if b < a then some .A else if a < b then some .B else s.tariffs.lastLoaded
      | _, _ => none

/-- R170: the clock advances its value by one; after 4,294,967,295 it becomes 0. -/
def Clock.advanced (c : Clock) : Clock := { c with value := c.value + 1 }

/-- R113, R114, R118: a tick at the tariff store: the grace timers of RETIRING banks, then the activation that has come due. -/
def State.tickTariffs (s : State) : State :=
  let s1 := (s.tickGrace .A).tickGrace .B
  match s1.dueBank with
  | some b => s1.activate b
  | none => s1

/-- TICK (R113, R118, R170). The clock's cell keeps it running without supply and through a restart, when no tick reaches any block (R170, R176; log 8). -/
def execTick (s : State) : Host.Outcome State Fault Refusal :=
  State.running State.tickTariffs { s with clock := s.clock.advanced }

/-- GRACE_EXPIRY (R119): the grace of a RETIRING bank runs out (log 7). -/
def execGraceExpiry (b : BankId) (s : State) : Host.Outcome State Fault Refusal :=
  s.running fun s =>
    match (s.bank b).state, (s.bank b).graceTimer with
    | .retiring, .running _ => s.expireGrace b
    | _, _ => s

/-- LOAD_IDLE_TIMEOUT (R110): the idle timer of a LOADING bank expires. -/
def execLoadIdleTimeout (b : BankId) (s : State) : Host.Outcome State Fault Refusal :=
  s.running fun s => if (s.bank b).state = .loading ∧ (s.bank b).idleTimer.isSome then s.setBank b .blank else s

end Sys2Proof.Machine
end

