-- ==== Sys2Proof/Machine/Dispatch.lean ====
section
/-! DEFINITION. What each command does to the machine: one arm for each row of spec/opcode_table.json, in the table's order, each one call of its meaning. -/

namespace Sys2Proof.Machine

def exec (i : Instr) (s : State) : Host.Outcome State Fault Refusal :=
  match i with
  | .linkUp p => Sys2Proof.Machine.execLinkUp p s
  | .linkDown p => Sys2Proof.Machine.execLinkDown p s
  | .positionFrameReceived p bytes => Sys2Proof.Machine.execPositionFrameReceived p bytes s
  | .attach p tag payload => Sys2Proof.Machine.execAttach p tag payload s
  | .detach p tag payload => Sys2Proof.Machine.execDetach p tag payload s
  | .beginTransaction p tag payload => Sys2Proof.Machine.execBegin p tag payload s
  | .add p tag payload => Sys2Proof.Machine.execAdd p tag payload s
  | .amend p tag payload => Sys2Proof.Machine.execAmend p tag payload s
  | .drop p tag payload => Sys2Proof.Machine.execDrop p tag payload s
  | .weigh p tag payload => Sys2Proof.Machine.execWeigh p tag payload s
  | .zero p tag payload => Sys2Proof.Machine.execZero p tag payload s
  | .rate p tag payload => Sys2Proof.Machine.execRate p tag payload s
  | .detail p tag payload => Sys2Proof.Machine.execDetail p tag payload s
  | .accept p tag payload => Sys2Proof.Machine.execAccept p tag payload s
  | .void p tag payload => Sys2Proof.Machine.execVoid p tag payload s
  | .cancel p tag payload => Sys2Proof.Machine.execCancel p tag payload s
  | .collect p tag payload => Sys2Proof.Machine.execCollect p tag payload s
  | .finish p tag payload => Sys2Proof.Machine.execFinish p tag payload s
  | .query p tag payload => Sys2Proof.Machine.execQuery p tag payload s
  | .sampleFrame c bytes => Sys2Proof.Machine.execSampleFrame c bytes s
  | .settleTimerExpiry c => Sys2Proof.Machine.execSettleTimerExpiry c s
  | .weighTimerExpiry c => Sys2Proof.Machine.execWeighTimerExpiry c s
  | .evaluationStart => Sys2Proof.Machine.execEvaluationStart s
  | .checkStep => Sys2Proof.Machine.execCheckStep s
  | .termStep => Sys2Proof.Machine.execTermStep s
  | .deliveryStep => Sys2Proof.Machine.execDeliveryStep s
  | .chainStep => Sys2Proof.Machine.execChainStep s
  | .evaluationHalt => Sys2Proof.Machine.execEvaluationHalt s
  | .officeFrameReceived input => Sys2Proof.Machine.execOfficeFrameReceived input s
  | .status tag payload => Sys2Proof.Machine.execStatus tag payload s
  | .time tag payload => Sys2Proof.Machine.execTime tag payload s
  | .flags tag payload => Sys2Proof.Machine.execFlags tag payload s
  | .position tag payload => Sys2Proof.Machine.execPosition tag payload s
  | .scale tag payload => Sys2Proof.Machine.execScale tag payload s
  | .printer tag payload => Sys2Proof.Machine.execPrinter tag payload s
  | .redirect tag payload => Sys2Proof.Machine.execRedirect tag payload s
  | .account tag payload => Sys2Proof.Machine.execAccount tag payload s
  | .credit tag payload => Sys2Proof.Machine.execCredit tag payload s
  | .block tag payload => Sys2Proof.Machine.execBlock tag payload s
  | .loadBegin tag payload => Sys2Proof.Machine.execLoadBegin tag payload s
  | .loadPart tag payload => Sys2Proof.Machine.execLoadPart tag payload s
  | .loadEnd tag payload => Sys2Proof.Machine.execLoadEnd tag payload s
  | .loadAbandon tag payload => Sys2Proof.Machine.execLoadAbandon tag payload s
  | .activate tag payload => Sys2Proof.Machine.execActivate tag payload s
  | .journalRead tag payload => Sys2Proof.Machine.execJournalRead tag payload s
  | .journalRelease tag payload => Sys2Proof.Machine.execJournalRelease tag payload s
  | .restart tag payload => Sys2Proof.Machine.execRestart tag payload s
  | .restartRebuild => Sys2Proof.Machine.execRestartRebuild s
  | .powerOn kept => Sys2Proof.Machine.execPowerOn kept s
  | .supplyFailure => Sys2Proof.Machine.execSupplyFailure s
  | .supplySample microvolts => Sys2Proof.Machine.execSupplySample microvolts s
  | .tick => Sys2Proof.Machine.execTick s
  | .graceExpiry b => Sys2Proof.Machine.execGraceExpiry b s
  | .loadIdleTimeout b => Sys2Proof.Machine.execLoadIdleTimeout b s
  | .printerDone l noise sendNumber reason check => Sys2Proof.Machine.execPrinterDone l noise sendNumber reason check s
  | .printerFault l noise sendNumber reason check => Sys2Proof.Machine.execPrinterFault l noise sendNumber reason check s
  | .printerReady l noise sendNumber reason check => Sys2Proof.Machine.execPrinterReady l noise sendNumber reason check s
  | .printTimeout l => Sys2Proof.Machine.execPrintTimeout l s
  | .unknownRequestCode p code tag payload => Sys2Proof.Machine.execUnknownRequestCode p code tag payload s
  | .unknownCommandCode code tag payload => Sys2Proof.Machine.execUnknownCommandCode code tag payload s

end Sys2Proof.Machine
end

