-- ==== Sys2Proof/Safety.lean ====
section
/-! DEFINITION. The terms in which claims about the module are stated: a request or a command that waits at its port, the state once it has been taken and answered, the ends of a weigh and of a rating as the PCT takes them, and what the spec says holds at all times (the invariants). -/

namespace Sys2Proof.Machine

/-! ### Requests and commands that wait at their ports -/

/-- R6, R8 check 1: the module runs, the position is enabled, and the frame is the oldest its port holds. -/
abbrev State.requestWaits (s : State) (p : PositionId) (f : Frame) (rest : List Frame) : Prop :=
  s.power = .running ∧ (s.ctx p).config.enabled = true ∧ (tget s.ports p).held = f :: rest

/-- The same for a request of an IN-TRANSACTION position that names slot `k`, which holds the item `i`. -/
abbrev State.itemRequestWaits (s : State) (p : PositionId) (f : Frame) (rest : List Frame) (k : Slot) (t : Transaction)
    (i : Item) : Prop :=
  s.requestWaits p f rest ∧ (s.ctx p).state = .inTransaction ∧ (s.ctx p).transaction = some t ∧ tget t k = some i

/-- R168: the module runs and the frame is the oldest the office port holds. -/
abbrev State.commandWaits (s : State) (f : Frame) (rest : List Frame) : Prop :=
  s.power = .running ∧ s.officePort.held = f :: rest

/-- R6, R7: the oldest frame has left the position's port, and these frames are sent; nothing else changes. -/
def State.afterRequest (p : PositionId) (rest : List Frame) (sent : List Sent) (s : State) : State :=
  { s with ports := tset s.ports p { tget s.ports p with held := rest }, sent := sent }

/-- R168: the oldest frame has left the office port, and these frames are sent; nothing else changes. -/
def State.afterCommand (rest : List Frame) (sent : List Sent) (s : State) : State :=
  { s with officePort := { s.officePort with held := rest }, sent := sent }

/-- R7, R179: the response to a request, with its code (the request's plus 80H), its tag and its payload. -/
def responseTo (p : PositionId) (f : Frame) (payload : List Byte) : Sent :=
  .position p (Frame.wire positionSync ⟨responseCode f.code, f.tag, payload⟩)

/-- R168, R179: the answer to a command. -/
def answerTo (f : Frame) (payload : List Byte) : Sent :=
  .office (Frame.wire officeSync ⟨responseCode f.code, f.tag, payload⟩)

/-- R9, section 11.3: the payload of a REPORTED response: the request's code, the reason, the slot byte and two figures. -/
def reported (code : Byte) (r : Reason) (slotByte : Byte) (figureA figureB : Nat) : List Byte :=
  [0x01, code, r.code, slotByte, 0x00] ++ leBytes 8 figureA ++ leBytes 4 figureB

/-- R168, section 11.6: the payload of a REFUSED answer. -/
def refusedWith (r : OfficeReason) (figures : List Byte) : List Byte := [0x01, r.code] ++ figures

/-- R19: the ATTENTION frame of a record, when the queue it joins was empty. -/
def attentionFor (p : PositionId) (queue : List Completion) (r : Completion) : List Sent :=
  if queue = [] then [.position p (attentionWire p r)] else []

/-- Section 1.4: the command of the table that takes a request frame. -/
def Instr.ofRequest (p : PositionId) (f : Frame) : Instr :=
  match f.code.toNat with
  | 1 => .attach p f.tag f.payload
  | 2 => .detach p f.tag f.payload
  | 3 => .beginTransaction p f.tag f.payload
  | 4 => .add p f.tag f.payload
  | 5 => .amend p f.tag f.payload
  | 6 => .drop p f.tag f.payload
  | 7 => .weigh p f.tag f.payload
  | 8 => .zero p f.tag f.payload
  | 9 => .rate p f.tag f.payload
  | 10 => .detail p f.tag f.payload
  | 11 => .accept p f.tag f.payload
  | 12 => .void p f.tag f.payload
  | 13 => .cancel p f.tag f.payload
  | 14 => .collect p f.tag f.payload
  | 15 => .finish p f.tag f.payload
  | 16 => .query p f.tag f.payload
  | _ => .unknownRequestCode p f.code f.tag f.payload

/-- R169: the command of the table that takes a command frame. -/
def Instr.ofCommand (f : Frame) : Instr :=
  match f.code.toNat with
  | 1 => .status f.tag f.payload
  | 2 => .time f.tag f.payload
  | 3 => .account f.tag f.payload
  | 4 => .credit f.tag f.payload
  | 5 => .block f.tag f.payload
  | 6 => .flags f.tag f.payload
  | 7 => .position f.tag f.payload
  | 8 => .scale f.tag f.payload
  | 9 => .printer f.tag f.payload
  | 10 => .redirect f.tag f.payload
  | 11 => .loadBegin f.tag f.payload
  | 12 => .loadPart f.tag f.payload
  | 13 => .loadEnd f.tag f.payload
  | 14 => .loadAbandon f.tag f.payload
  | 15 => .activate f.tag f.payload
  | 16 => .journalRead f.tag f.payload
  | 17 => .journalRelease f.tag f.payload
  | 18 => .restart f.tag f.payload
  | _ => .unknownCommandCode f.code f.tag f.payload

/-! ### The form of requests and commands (R8, R169) -/

/-- The byte at an offset of a payload or an image, and 0 beyond its end. -/
def byteAt (bytes : List Byte) (k : Nat) : Nat := (bytes.getD k 0).toNat

/-- The number of `n` bytes from an offset on, least significant byte first (R62, chapter 11). -/
def numAt (bytes : List Byte) (k n : Nat) : Nat := leNat ((bytes.drop k).take n)

/-- R28, section 11.2: the form of an AMEND; a value field is looked at only where its action is "set". -/
def amendFits (x : List Byte) : Bool :=
  let sets (n : Nat) : Prop := byteAt x n = 1
  decide
    (x.length = 21 ∧ byteAt x 0 < 8 ∧ (∀ n : Fin 5, byteAt x (1 + n.val) ≤ 2) ∧ (sets 1 → byteAt x 6 < 8) ∧
      (sets 2 → ∀ n : Fin 3, byteAt x (7 + n.val) / 16 ≤ 9 ∧ byteAt x (7 + n.val) % 16 ≤ 9) ∧
      (sets 3 → numAt x 10 4 ≤ 9999999) ∧ (sets 4 → byteAt x 14 < 16) ∧
      (sets 5 → ∀ n : Fin 3, 1 ≤ numAt x (15 + 2 * n.val) 2 ∧ numAt x (15 + 2 * n.val) 2 ≤ 2000))

/-- R8 check 2, section 11.2: the request code is known, the payload's length suits it, and every field lies within its range. -/
def requestFits (code : Byte) (x : List Byte) : Bool :=
  match code.toNat with
  | 1 => decide (x.length = 2 ∧ byteAt x 0 < 4 ∧ byteAt x 1 < 16)
  | 2 | 3 | 4 | 8 | 14 | 16 => x.isEmpty
  | 5 => amendFits x
  | 6 | 7 | 10 | 11 | 12 => decide (x.length = 1 ∧ byteAt x 0 < 8)
  | 9 => decide (x.length = 2 ∧ byteAt x 0 < 8 ∧ byteAt x 1 < 2)
  | 13 => decide (x.length = 1 ∧ (byteAt x 0 < 8 ∨ byteAt x 0 = 0xFF))
  | 15 => decide (x.length = 5 ∧ byteAt x 0 ≤ 8 ∧ numAt x 1 4 ≤ 79999992)
  | _ => false

/-- R45, section 11.6: the form of a SCALE command. -/
def scaleFits (x : List Byte) : Bool :=
  decide
    (x.length = 15 ∧ byteAt x 0 < 8 ∧ byteAt x 1 < 2 ∧ (1 ≤ numAt x 2 2 ∧ numAt x 2 2 ≤ 50000) ∧
      byteAt x 4 ∈ [1, 2, 5, 10, 20] ∧ 1 ≤ numAt x 8 2 ∧ (1 ≤ numAt x 10 3 ∧ numAt x 10 3 ≤ 8388607) ∧
      (1 ≤ byteAt x 13 ∧ byteAt x 13 ≤ 5) ∧ 2 ≤ byteAt x 14 ∧ byteAt x 14 ≤ 30)

/-- R169, section 11.6: the command code is known, the payload's length suits it, and every field lies within its range. The yes or no bytes and the unused bits of POSITION are read by log 15, RESTART with KEEP by log 16. -/
def commandFits (code : Byte) (x : List Byte) : Bool :=
  match code.toNat with
  | 1 | 13 => x.isEmpty
  | 2 | 17 => decide (x.length = 4)
  | 3 =>
    decide
      (x.length = 7 ∧ byteAt x 0 < 4 ∧ (byteAt x 1 < 16 ∨ byteAt x 1 = 0xFF) ∧ (byteAt x 2 < 2 ∨ byteAt x 2 = 0xFF) ∧
        (numAt x 3 4 ≤ 99999999 ∨ numAt x 3 4 = 0xFFFFFFFF))
  | 4 => decide (x.length = 5 ∧ byteAt x 0 < 4 ∧ 1 ≤ numAt x 1 4 ∧ numAt x 1 4 ≤ 99999999)
  | 5 =>
    decide
      (x.length = 8 ∧ (1 ≤ numAt x 0 4 ∧ numAt x 0 4 ≤ 99999999) ∧ 1 ≤ numAt x 4 4 ∧ numAt x 4 4 ≤ 1000000)
  | 6 => decide (x.length = 8 ∧ ∀ b ∈ x, b.toNat ≤ 2)
  | 7 =>
    decide
      (x.length = 5 ∧ byteAt x 0 < 16 ∧ byteAt x 1 < 2 ∧ (byteAt x 2 < 8 ∨ byteAt x 2 = 0xFF) ∧
        (byteAt x 3 < 4 ∨ byteAt x 3 = 0xFF) ∧ byteAt x 4 < 16)
  | 8 => scaleFits x
  | 9 => decide (x.length = 2 ∧ byteAt x 0 < 4 ∧ byteAt x 1 < 2)
  | 10 => decide (x.length = 2 ∧ byteAt x 0 < 4 ∧ byteAt x 1 < 4)
  | 11 => decide (x.length = 14 ∧ 1 ≤ numAt x 8 2 ∧ numAt x 8 2 ≤ 8192)
  | 12 => decide (3 ≤ x.length ∧ x.length ≤ 242)
  | 14 | 15 => decide (x.length = 1 ∧ byteAt x 0 < 2)
  | 16 => decide (x.length = 1 ∧ 1 ≤ byteAt x 0 ∧ byteAt x 0 ≤ 16)
  | 18 => decide (x.length = 5 ∧ (byteAt x 0 = 0 ∨ byteAt x 0 = 1 ∧ numAt x 1 4 ≤ 99999))
  | _ => false

/-- Section 11.2: the length of the payload of a request that names an item slot, in its first byte. -/
def slotLength (code : Byte) : Option Nat :=
  match code.toNat with
  | 5 => some 21
  | 6 | 7 | 10 | 11 | 12 | 13 => some 1
  | 9 => some 2
  | _ => none

/-- The item slot that a request names, if it names one; CANCEL of ALL names none. -/
def slotNamed (f : Frame) : Option Slot :=
  if h : (slotLength f.code).isSome = true ∧ byteAt f.payload 0 < 8 then some ⟨byteAt f.payload 0, h.2⟩ else none

/-- R17: the budget total of a position: the records it holds, its weigh and its rating in flight, and its label jobs by the spool's count. -/
def State.budgetTotal (s : State) (p : PositionId) : Nat :=
  (s.ctx p).completions.length + ((s.ctx p).weigh.toList.length + (if (s.ctx p).rating = true then 1 else 0)) +
    tget s.labelCounts p

/-- Section 1.4: the states of a position in which a request is served. -/
def servedIn (code : Byte) (state : PositionState) : Bool :=
  match code.toNat with
  | 1 => decide (state = .linked)
  | 2 | 3 | 14 | 16 => decide (state ≠ .offline)
  | 8 => decide (state = .attached ∨ state = .inTransaction)
  | _ => decide (state = .inTransaction)

/-! ### Bytes on a port (R179) -/

/-- R179: what a port finds in its bytes: the frames received, in order, and the bytes of the frame still under reception. A sync byte that begins no frame, by its length or by its CRC, is passed over alone: the search goes on at the byte after it. -/
inductive FramesFound (sync : Byte) : List Byte → List Frame → List Byte → Prop
  | nothing : FramesFound sync [] [] []
  | noise (b : Byte) (bytes : List Byte) (frames : List Frame) (tail : List Byte) :
    b ≠ sync → FramesFound sync bytes frames tail → FramesFound sync (b :: bytes) frames tail
  | lengthAwaited (few : List Byte) : few.length < 2 → FramesFound sync (sync :: few) [] (sync :: few)
  | restAwaited (l0 l1 : Byte) (few : List Byte) :
    2 ≤ leNat [l0, l1] → leNat [l0, l1] ≤ 1024 → few.length < leNat [l0, l1] + 2 →
    FramesFound sync (sync :: l0 :: l1 :: few) [] (sync :: l0 :: l1 :: few)
  | badLength (l0 l1 : Byte) (more : List Byte) (frames : List Frame) (tail : List Byte) :
    leNat [l0, l1] < 2 ∨ 1024 < leNat [l0, l1] → FramesFound sync (l0 :: l1 :: more) frames tail →
    FramesFound sync (sync :: l0 :: l1 :: more) frames tail
  | badCheck (l0 l1 : Byte) (content check more : List Byte) (frames : List Frame) (tail : List Byte) :
    2 ≤ leNat [l0, l1] → leNat [l0, l1] ≤ 1024 → content.length = leNat [l0, l1] → check.length = 2 →
    check ≠ crc16Bytes (l0 :: l1 :: content) → FramesFound sync (l0 :: l1 :: (content ++ check ++ more)) frames tail →
    FramesFound sync (sync :: l0 :: l1 :: (content ++ check ++ more)) frames tail
  | received (f : Frame) (more : List Byte) (frames : List Frame) (tail : List Byte) :
    f.payload.length ≤ 1022 → FramesFound sync more frames tail →
    FramesFound sync (Frame.wire sync f ++ more) (f :: frames) tail

/-! ### Bytes on a printer line (R181) -/

/-- R181: an answer frame is discarded: its check byte does not match, its code is none of the three, or it is a FAULT with a reason other than MEDIA, JAM and HEAD. -/
def AnswerDiscarded (code sendNumber reason check : Byte) : Prop :=
  check ≠ code ^^^ sendNumber ^^^ reason ∨ ¬(1 ≤ code.toNat ∧ code.toNat ≤ 3) ∨
    code = 0x02 ∧ ¬(1 ≤ reason.toNat ∧ reason.toNat ≤ 3)

/-- R181: bytes of a printer line in which no answer is found, whatever follows: bytes none of which is a sync byte, or a discarded answer frame of which no later byte is a sync byte. -/
def NoAnswer (bytes : List Byte) : Prop :=
  (∀ b ∈ bytes, b ≠ 0x69) ∨
    ∃ code sendNumber reason check : Byte, bytes = [0x69, code, sendNumber, reason, check] ∧
      AnswerDiscarded code sendNumber reason check ∧ ∀ b ∈ [code, sendNumber, reason, check], b ≠ 0x69

/-- R181: what a printer line has received and what now comes before an answer frame are pieces that hold no answer. -/
def State.answersQuiet (l : PrinterId) (noise : List Byte) (s : State) : Prop :=
  ∃ pieces, tget s.printerLines l ++ noise = List.flatten pieces ∧ ∀ x ∈ pieces, NoAnswer x

/-! ### Results applied by the PCT -/

/-- R16, R19: the context of a position, as it then stands, with a record at the tail of its queue, and the ATTENTION frame if the queue was empty. -/
def State.withRecord (p : PositionId) (c : PositionContext) (r : Completion) (s : State) : State :=
  { s with
    positions := tset s.positions p { c with completions := c.completions ++ [r] }
    sent := s.sent ++ attentionFor p c.completions r }

/-- R35: an item after the end of its weigh with a status and, for OK, the weight captured. -/
def Item.weighedAs (status : Reason) (weight : Nat) (i : Item) : Item :=
  if status = .ok then { i with state := .weighed, previous := i.weight, weight := some weight }
  else if i.weight = none then { i with state := .draft }
  else { i with state := .weighed }

/-- R35, R56, R57: the end of the weigh of slot `k` at position `p`, whose transaction is `t` and whose item there is `i`. -/
def State.withWeighEnd (p : PositionId) (k : Slot) (t : Transaction) (i : Item) (status : Reason) (weight : Nat) (s : State) :
    State :=
  s.withRecord p
    { s.ctx p with transaction := some (tset t k (some (i.weighedAs status weight))), weigh := none }
    (.weighDone status k (i.weighedAs status weight).weight (i.weighedAs status weight).previous)

/-- R100: the slots after `last` that hold an item in WEIGHED, QUOTED or STALE state. -/
def fitAfter (t : Transaction) (last : Slot) : Nat :=
  ((List.finRange 8).filter fun k =>
    decide (last < k) && (tget t k).any fun i => decide (i.state = .weighed ∨ i.state = .quoted ∨ i.state = .stale)).length

/-- R100: the RATE-DONE of an operation at its position, whose transaction now is `t`, `last` being the last slot examined. -/
def State.withRateDone (op : Operation) (last : Slot) (t : Transaction) (status : Reason) (s : State) : State :=
  s.withRecord op.position
    { s.ctx op.position with transaction := some t, rating := false }
    (.rateDone status op.origin op.quoted (fitAfter t last) op.lastPostage)

/-- R41: a transaction after a label report: the item that carries the number takes the label state, unless its label is REMOVED or PRINTED. -/
def labelled (num : Nat) (st : LabelState) (t : Transaction) : Transaction :=
  t.map fun o => o.map fun i =>
    if i.itemNumber = some num ∧ i.label ≠ .removed ∧ i.label ≠ .printed then { i with label := st } else i

/-- R41: a label report for the item with a number at position `p`; without a transaction it changes nothing. -/
def State.withLabel (p : PositionId) (num : Nat) (st : LabelState) (s : State) : State :=
  { s with
    positions := tset s.positions p { s.ctx p with transaction := (s.ctx p).transaction.map (labelled num st) } }

/-! ### Bank references, the forced detach, and the sends of the label spool -/

/-- R116, R117: a bank from which `n` references are released: a RETIRING bank whose count comes to 0 becomes EMPTY. -/
def Bank.lessRefs (n : Nat) (bk : Bank) : Bank :=
  if n = 0 then bk
  else if bk.state = .retiring ∧ bk.refs ≤ n then .blank
  else { bk with refs := bk.refs - n }

/-- R116: the tariff store with one reference on a bank released. -/
def State.releasedOn (b : BankId) (s : State) : TariffStore := (s.setBank b ((s.bank b).lessRefs 1)).tariffs

/-- R27: the tariff store after an item's quote has been discarded: a QUOTED item's quote gives its reference back. -/
def State.tariffsWithout (i : Item) (s : State) : TariffStore :=
  match i.state, i.quote with
  | .quoted, some q => s.releasedOn q.bank
  | _, _ => s.tariffs

/-- R32: the QUOTED items of a transaction whose quotes name a bank. -/
def quotesOf (t : Transaction) (b : BankId) : Nat :=
  t.toList.countP fun o => o.any fun i => decide (i.state = .quoted) && i.quote.any fun q => decide (q.bank = b)

/-- R32: every quote of a transaction, if there is one, gives its reference back; the generation counter and the last-loaded bank stay. -/
def quotesReleased (t : Option Transaction) (s u : State) : Prop :=
  (∀ b, u.bank b = match t with | some t => (s.bank b).lessRefs (quotesOf t b) | none => s.bank b) ∧
    u.tariffs.counter = s.tariffs.counter ∧ u.tariffs.lastLoaded = s.tariffs.lastLoaded

/-- R14: what the forced detach of position `p` does outside the position's own context. -/
def ForcedDetached (p : PositionId) (s u : State) : Prop :=
  (∀ q, q ≠ p → u.ctx q = s.ctx q) ∧
  (∀ c, u.channel c =
    if ∃ k, (s.channel c).weigh = .waiting p k then { s.channel c with weigh := .idle, weighTimer := none } else s.channel c) ∧
  u.evaluator.queue = s.evaluator.queue.filter (fun op => decide (op.position ≠ p)) ∧
  u.evaluator.state =
    (match s.evaluator.state with
      | .idle => .idle
      | .chaining op => if op.position = p then .idle else .chaining op
      | .evaluating op ev => if op.position = p then .evaluating op { ev with halt := some .abandoned } else .evaluating op ev) ∧
  quotesReleased (s.ctx p).transaction s u

/-- R156: the head job `j` of printer `l` is sent, `rest` being the jobs behind it. -/
def State.withSend (l : PrinterId) (j : Job) (rest : List Job) (s : State) : State :=
  let sent := { j with attempts := min (j.attempts + 1) 255, condition := .printing }
  State.withLabel j.position j.itemNumber .printing
    { s with
      printers :=
        tset s.printers l
          { s.printer l with
            state := .printing, queue := sent :: rest, sendNumber := (s.printer l).sendNumber + 1, timer := some 20000 }
      nvs := { s.nvs with queues := tset s.nvs.queues l (({ sent with condition := .waiting } : Job) :: rest.map Job.stored) }
      sent := s.sent ++ [.printer l (labelWire ((s.printer l).sendNumber + 1) sent.attempts j.record)] }

/-- R156: a printer sends its head job, if it has one. -/
def State.withHeadSent (l : PrinterId) (s : State) : State :=
  match (s.printer l).queue with
  | j :: rest => s.withSend l j rest
  | [] => s

/-- R158 to R160, R164: the PRINTING head job `j` of printer `l` waits again, and the printer takes a state. -/
def State.withHeadReturned (l : PrinterId) (st : PrinterState) (j : Job) (rest : List Job) (s : State) : State :=
  State.withLabel j.position j.itemNumber .queued
    { s with
      printers :=
        tset s.printers l { s.printer l with state := st, queue := { j with condition := .waiting } :: rest, timer := none } }

/-! ### The tariff store written, grace expiry and activation -/

/-- R124: what the store keeps of a bank: a LOADED or ACTIVE bank with its content; every other bank is stored EMPTY. -/
def keptOf (bk : Bank) : Option StoredBank :=
  if bk.state = .loaded ∨ bk.state = .active then
    some
      { active := decide (bk.state = .active), image := bk.image, tariffId := bk.tariffId, effective := bk.effective,
        grace := bk.grace, generation := bk.generation }
  else none

/-- R124: the tariff store is written. -/
def State.withBanksStored (s : State) : State :=
  { s with
    nvs :=
      { s.nvs with
        bankA := keptOf s.tariffs.bankA, bankB := keptOf s.tariffs.bankB, counter := s.tariffs.counter,
        lastLoaded := s.tariffs.lastLoaded } }

/-- R38, R104, R119: the grace of RETIRING bank `b` has run out: every QUOTED item on the bank and its generation is STALE and has given its reference back, the evaluation on them that has no halt reason is to halt RE-RATE, and the bank is EMPTY, or waits with its timer expired for the evaluation that still holds it. -/
def State.withGraceExpired (b : BankId) (s : State) : State :=
  let hit (i : Item) : Bool :=
    decide (i.state = .quoted) && i.quote.any fun q => decide (q.bank = b ∧ some q.generation = (s.bank b).generation)
  let stale (i : Item) : Item :=
    if hit i then { i with state := .stale, quote := i.quote.map fun q => { q with stale := true } } else i
  let given : Nat :=
    (s.positions.toList.map fun c => match c.transaction with | some t => t.toList.countP fun o => o.any hit | none => 0).sum
  let evaluator : Evaluator :=
    match s.evaluator.state with
    | .evaluating op ev =>
      if ev.bank = b ∧ some ev.generation = (s.bank b).generation ∧ ev.halt = none then
        { s.evaluator with state := .evaluating op { ev with halt := some .reRate } }
      else s.evaluator
    | .idle => s.evaluator
    | .chaining _ => s.evaluator
  { s with
    positions := s.positions.map fun c => { c with transaction := c.transaction.map fun t => t.map fun o => o.map stale }
    tariffs :=
      (s.setBank b
        (if (s.bank b).refs ≤ given then .blank
        else { s.bank b with graceTimer := .expired, refs := (s.bank b).refs - given })).tariffs
    evaluator := evaluator }

/-- R114, R118, R124: LOADED bank `b` is activated: it is ACTIVE; the other bank, if ACTIVE, is RETIRING under the grace of `b` (expired at once when that is 0), or EMPTY when nothing refers to it; if LOADED with an effective time no later, EMPTY; otherwise as it was. The store is written. -/
def State.withActivation (b : BankId) (s : State) : State :=
  let old := s.bank b.other
  let seconds := 60 * (s.bank b).grace.getD 0
  let after (other : Bank) : State :=
    State.withBanksStored
      { s with tariffs := ((s.setBank b { s.bank b with state := .active }).setBank b.other other).tariffs }
  match old.state with
  | .active =>
    if old.refs = 0 then after .blank
    else
      let retired := after { old with state := .retiring, graceTimer := .running seconds }
      if seconds = 0 then retired.withGraceExpired b.other else retired
  | .loaded =>
    match old.effective, (s.bank b).effective with
    | some e', some e => after (if e'.toNat ≤ e.toNat then .blank else old)
    | _, _ => after old
  | .empty => after old
  | .loading => after old
  | .retiring => after old

/-! ### Tariff images by their bytes (section 11.7) -/

/-- Section 11.7: where schedule `n` begins. -/
def scheduleOffset (n : Nat) : Nat := 1032 + 48 * n

/-- R62, R70: where term `k` of schedule `n` begins: behind the terms of the schedules before it. -/
def termOffset (img : List Byte) (n k : Nat) : Nat :=
  1416 + 28 * (((List.range n).map fun m => byteAt img (scheduleOffset m + 3)).sum + k)

/-- Section 11.7: a coefficient, signed, of three bytes. -/
def coefficientAt (img : List Byte) (k : Nat) : Int :=
  if numAt img k 3 < 2 ^ 23 then numAt img k 3 else (numAt img k 3 : Int) - 2 ^ 24

/-- R85: the longest side. -/
def longestSide (x : Dimensions) : Nat := max x.length (max x.width x.height)

/-- R85: the longest side plus the girth, which is twice the sum of the other two sides. -/
def sideAndGirth (x : Dimensions) : Nat := longestSide x + 2 * (x.length + x.width + x.height - longestSide x)

/-- R65: the check value of an image, its own check field taken as zero. -/
def checkValue (img : List Byte) : Word32 :=
  let shift (c : Word32) : Word32 := if c.getLsbD 0 then (c >>> 1) ^^^ 0xEDB88320 else c >>> 1
  (img.take 12 ++ [0, 0, 0, 0] ++ img.drop 16).foldl (fun (c : Word32) (b : Byte) => Nat.repeat shift 8 (c ^^^ b.setWidth 32)) 0xFFFFFFFF ^^^ 0xFFFFFFFF

/-- R75: the parts of an image in the order in which each check examines them. -/
def partsInOrder (img : List Byte) : List ImagePart :=
  .header :: (List.range 1000).map .zoneMap ++
    (List.range 8).flatMap fun n => .schedule n :: (List.range (byteAt img (scheduleOffset n + 3))).map (.term n)

/-- R74, R75: whether a part of the image in a LOADING bank fails a check, `d` being what LOAD-BEGIN declared and `office` the office code held. A part that a check does not look at does not fail it. -/
def partFails (bk : Bank) (d : Declared) (office : Option Nat) (check : Nat) (part : ImagePart) : Bool :=
  let img := bk.image
  let schedule (n field size : Nat) : Nat := numAt img (scheduleOffset n + field) size
  let term (n k field size : Nat) : Nat := numAt img (termOffset img n k + field) size
  let running (n : Nat) : Nat := ((List.range n).map fun m => schedule m 3 1).sum
  let countsFit := ∀ n : Fin 8, schedule n.val 3 1 ≤ 24
  match check, part with
  | 1, .header => !decide (img.length = d.length ∧ numAt img 8 2 = d.length ∧ 1416 ≤ d.length)
  | 2, .header => !decide (checkValue img = BitVec.ofNat 32 (numAt img 12 4) ∧ BitVec.ofNat 32 (numAt img 12 4) = d.check)
  | 3, .header => !decide (office = some (numAt img 16 4))
  | 4, .header =>
    !decide (bk.tariffId = some (BitVec.ofNat 32 (numAt img 0 4)) ∧ bk.effective = some (BitVec.ofNat 32 (numAt img 4 4)) ∧
      byteAt img 10 ≤ 120)
  | 5, .schedule n =>
    decide (24 < schedule n 3 1 ∨
      countsFit ∧ img.length ≠ 1416 + 28 * running 8 ∧ (img.length - 1416) / 28 < running (n + 1))
  | 5, .header =>
    decide (countsFit ∧ img.length ≠ 1416 + 28 * running 8 ∧ ∀ n : Fin 8, running (n.val + 1) ≤ (img.length - 1416) / 28)
  | 6, .zoneMap digits => decide (15 < byteAt img (32 + digits) ∧ byteAt img (32 + digits) ≠ 0xFF)
  | 6, .schedule n => decide (1 < schedule n 0 1 ∨ 1 < schedule n 1 1 ∨ 2 < schedule n 2 1)
  | 6, .term n k =>
    !decide (term n k 0 1 ≤ 5 ∧
      (term n k 1 1 = 0 ∨ (0x10 ≤ term n k 1 1 ∧ term n k 1 1 ≤ 0x17) ∨ (0x20 ≤ term n k 1 1 ∧ term n k 1 1 ≤ 0x27)) ∧
      term n k 2 1 ≤ 0x0F)
  | 7, .schedule n =>
    decide (schedule n 0 1 = 1) &&
      !decide ((schedule n 1 1 = 1 → 1000 ≤ schedule n 4 2 ∧ schedule n 4 2 ≤ 20000) ∧
        (1 ≤ schedule n 8 2 ∧ schedule n 8 2 ≤ 10000) ∧ 1 ≤ schedule n 10 2 ∧
        (1 ≤ schedule n 12 2 ∧ schedule n 12 2 ≤ 2000) ∧ (1 ≤ schedule n 14 2 ∧ schedule n 14 2 ≤ 10000) ∧
        (1 ≤ schedule n 16 1 ∧ schedule n 16 1 ≤ 100) ∧ schedule n 17 4 ≤ 9999999 ∧ schedule n 21 4 ≤ 9999999 ∧
        schedule n 21 4 % schedule n 16 1 = 0)
  | 8, .term n k =>
    decide (2 ^ 31 - 1 < term n k 20 4) ||
      (decide (term n k 0 1 = 5) &&
        !decide (-10000 ≤ coefficientAt img (termOffset img n k + 3) ∧ coefficientAt img (termOffset img n k + 3) ≤ 10000))
  | 9, .term n k => decide (term n k 12 4 < term n k 8 4)
  | _, _ => false

/-- R74, R75: the first of the nine checks that fails, with the first part found failing it. -/
def firstFailure (bk : Bank) (d : Declared) (office : Option Nat) : Option (Nat × ImagePart) :=
  (List.range' 1 9).findSome? fun check =>
    ((partsInOrder bk.image).find? (partFails bk d office check)).map fun part => (check, part)

/-- R75, section 11.6: the locator of a refused LOAD-END; that its prefix is a number is the model's choice (log 27). -/
def locatorBytes (check : Nat) : ImagePart → List Byte
  | .header => [BitVec.ofNat 8 check, 0x00, 0xFF, 0xFF, 0xFF, 0xFF]
  | .zoneMap digits => [BitVec.ofNat 8 check, 0x01] ++ leBytes 2 digits ++ [0xFF, 0xFF]
  | .schedule n => [BitVec.ofNat 8 check, 0x02, 0xFF, 0xFF, BitVec.ofNat 8 n, 0xFF]
  | .term n k => [BitVec.ofNat 8 check, 0x03, 0xFF, 0xFF, BitVec.ofNat 8 n, BitVec.ofNat 8 k]

/-! ### The module rebuilt from its store (R177, section 10.7) -/

/-- R165: each READY printer whose queue holds a job sends its head job, L0 first (log 25). -/
def State.withHeadsSent (s : State) : State :=
  ([0, 1, 2, 3] : List PrinterId).foldl (fun s l => if (s.printer l).state = .ready then s.withHeadSent l else s) s

/-- R1, R44, R77, R123, R126, R139, R143, R153, R161, R165, R172: every block rebuilt from the store, before the sends of R165. The store, the clock, the supply monitor and the queue of commands are as they were. -/
def State.fromStore (s : State) : State :=
  let quiet : Port := { held := [], rx := [] }
  let bank : Option StoredBank → Bank
    | some x =>
      { state := if x.active then .active else .loaded, image := x.image, tariffId := x.tariffId, effective := x.effective,
        grace := x.grace, generation := x.generation, refs := 0, graceTimer := .stopped, declared := none, idleTimer := none }
    | none =>
      { state := .empty, image := [], tariffId := none, effective := none, grace := none, generation := none, refs := 0,
        graceTimer := .stopped, declared := none, idleTimer := none }
  { s with
    positions :=
      s.nvs.positions.map fun cfg =>
        { config := cfg, state := .offline, linePresent := false, account := none, key := none, transaction := none,
          completions := [], weigh := none, rating := false }
    ports := Vector.replicate 16 quiet
    officePort := quiet
    channels :=
      s.nvs.channels.map fun cfg =>
        { config := cfg, state := if cfg.enabled then .unstable else .off, window := [], filtered := none,
          workingZero := cfg.calibratedZero, reading := none, reference := none, spikes := 0, errors := 0, settleTimer := none,
          weigh := .idle, weighTimer := none }
    scaleLines := Vector.replicate 8 []
    tariffs := { bankA := bank s.nvs.bankA, bankB := bank s.nvs.bankB, counter := s.nvs.counter, lastLoaded := s.nvs.lastLoaded }
    evaluator := { queue := [], state := .idle }
    accounts := s.nvs.accounts
    allocator := s.nvs.allocator
    journal := s.nvs.journal
    printers :=
      Vector.ofFn fun l =>
        { enabled := tget s.nvs.printersEnabled l, state := if tget s.nvs.printersEnabled l then .ready else .off,
          queue := (tget s.nvs.queues l).map fun j => { j with condition := .waiting }, sendNumber := 0, timer := none }
    printerLines := Vector.replicate 4 []
    labelCounts :=
      Vector.ofFn fun p => (s.nvs.queues.toList.map fun queue => queue.countP fun j => decide (j.position = p)).sum
    flags := s.nvs.flags }

/-! ### Invariants -/

/-- R127, R128: the registers of an account are bound to each other and in range, and the LOW mark is worked out. -/
def Account.sound (a : Account) : Prop :=
  a.remaining + a.issued = a.loaded + a.refunded ∧ a.loaded ≤ 2 ^ 47 - 1 ∧ a.issued ≤ 2 ^ 47 - 1 ∧
    a.pieces ≤ 4294967295 ∧ a.low = decide (a.remaining < a.threshold)

/-- R42: the items of a transaction in a given state. -/
def itemsIn (st : ItemState) (t : Transaction) : Nat := t.toList.countP fun o => o.any fun i => decide (i.state = st)

/-- R42: the postage of the ACCEPTED items of a transaction. -/
def acceptedPostage (t : Transaction) : Nat :=
  (t.toList.map fun o => match o with | some i => if i.state = .accepted then (i.quote.map (·.postage)).getD 0 else 0 | none => 0).sum

/-- R42: the postage of the ACCEPTED items of open transactions attached to an account: what VOID may still refund. -/
def State.openSales (s : State) (a : AccountId) : Nat :=
  (s.positions.toList.map fun c =>
    match c.account, c.transaction with
    | some b, some t => if b = a then acceptedPostage t else 0
    | _, _ => 0).sum

/-- R127: every account is sound, and what has been refunded with what may still be refunded does not pass what has been issued. -/
def AccountsSound (s : State) : Prop :=
  ∀ a, (s.account a).sound ∧ (s.account a).refunded + s.openSales a ≤ (s.account a).issued

/-- R143, R145: at most 2,048 entries, whose sequence numbers run consecutively up to the one before the next. -/
def Journal.sound (j : Journal) : Prop :=
  j.entries.length ≤ 2048 ∧
    ∀ n e, j.entries[n]? = some e → e.seq = j.next - BitVec.ofNat 32 (j.entries.length - n)

/-- R143: the journal and its stored copy are sound. -/
def JournalSound (s : State) : Prop := s.journal.sound ∧ s.nvs.journal.sound

/-- R139, R140, R141: the blocks run in increasing order without overlap up to the highest serial granted, and the next serial lies in the head block. -/
def Allocator.sound (al : Allocator) : Prop :=
  al.highest ≤ 99999999 ∧ (∀ b ∈ al.blocks, 1 ≤ b.first ∧ b.first ≤ b.last ∧ b.last ≤ al.highest) ∧
    al.blocks.Pairwise (fun b c => b.last < c.first) ∧ al.blocks.length ≤ 4 ∧
    match al.blocks, al.next with
    | [], next => next = none
    | b :: _, some n => b.first ≤ n ∧ n ≤ b.last
    | _ :: _, none => False

/-- R139: the serial allocator and its stored copy are sound. -/
def AllocatorSound (s : State) : Prop := s.allocator.sound ∧ s.nvs.allocator.sound

/-- R177, R124, R133, R151, R165: the store holds what its owners hold. -/
def StoreMatches (s : State) : Prop :=
  s.nvs.accounts = s.accounts ∧ s.nvs.allocator = s.allocator ∧ s.nvs.journal = s.journal ∧ s.nvs.flags = s.flags ∧
    s.nvs.bankA = keptOf s.tariffs.bankA ∧ s.nvs.bankB = keptOf s.tariffs.bankB ∧ s.nvs.counter = s.tariffs.counter ∧
    s.nvs.lastLoaded = s.tariffs.lastLoaded ∧
    (∀ p, tget s.nvs.positions p = (s.ctx p).config) ∧ (∀ c, tget s.nvs.channels c = (s.channel c).config) ∧
    (∀ l, tget s.nvs.printersEnabled l = (s.printer l).enabled ∧ tget s.nvs.queues l = (s.printer l).queue.map Job.stored)

/-- R1, R23: the fields of a context are absent exactly in the states that R1 says, and a position is out of OFFLINE only while it is enabled and its line present. -/
def PositionContext.legal (c : PositionContext) : Prop :=
  (c.transaction.isSome = true ↔ c.state = .inTransaction) ∧
    (c.account.isSome = true ↔ c.state = .attached ∨ c.state = .inTransaction) ∧ (c.key.isSome = c.account.isSome) ∧
    (c.state = .offline ∨ c.state = .linked → c.completions = []) ∧
    (c.state ≠ .inTransaction → c.weigh = none ∧ c.rating = false) ∧
    (c.state ≠ .offline → c.config.enabled = true ∧ c.linePresent = true)

/-- R1, R23 at every position; R6, R168: no port holds more frames than it may. -/
def ContextsLegal (s : State) : Prop :=
  (∀ p, (s.ctx p).legal ∧ (tget s.ports p).held.length ≤ 4) ∧ s.officePort.held.length ≤ 2

/-- R153: the jobs of a position in the four printer queues. -/
def State.labelsOf (s : State) (p : PositionId) : Nat :=
  (s.printers.toList.map fun pr => pr.queue.countP fun j => decide (j.position = p)).sum

/-- R78: the entries and operations of a position at the rating evaluator, an abandoned evaluation not counted. -/
def State.ratingsOf (s : State) (p : PositionId) : Nat :=
  (s.evaluator.queue.countP fun op => decide (op.position = p)) +
    match s.evaluator.state with
    | .idle => 0
    | .chaining op => if op.position = p then 1 else 0
    | .evaluating op ev => if op.position = p ∧ ev.halt ≠ some .abandoned then 1 else 0

/-- R17, R61, R78, R161: the budget total of a position is at most 8 and its label jobs at most 4; the spool's count is the number of its jobs; a weigh held by a channel, by one channel alone, is its owner's weigh in flight; and a position has at most one place in the rating work, with its rating in flight marked. -/
def WorkCounted (s : State) : Prop :=
  (∀ p, s.budgetTotal p ≤ 8 ∧ s.labelsOf p ≤ 4 ∧ tget s.labelCounts p = s.labelsOf p ∧
    s.ratingsOf p ≤ if (s.ctx p).rating then 1 else 0) ∧
  ∀ c p k, (s.channel c).weigh = .waiting p k →
    (s.ctx p).weigh = some k ∧ ∀ d m, (s.channel d).weigh = .waiting p m → d = c

/-- R116: the QUOTED items of all positions whose quotes name a bank. -/
def State.quotesOn (s : State) (b : BankId) : Nat :=
  (s.positions.toList.map fun c =>
    match c.transaction with
    | some t => t.toList.countP fun o => o.any fun i => decide (i.claim = some b)
    | none => 0).sum

/-- R116: the evaluations in progress on a bank. -/
def State.evaluationsOn (s : State) (b : BankId) : Nat :=
  match s.evaluator.state with
  | .evaluating _ ev => if ev.bank = b then 1 else 0
  | .idle | .chaining _ => 0

/-- R106: the bank may be referred to, and carries the generation. -/
def State.holdsGeneration (s : State) (b : BankId) (g : Word16) : Prop :=
  ((s.bank b).state = .active ∨ (s.bank b).state = .retiring) ∧ (s.bank b).generation = some g

/-- R106, R116: a bank's reference count is the number of QUOTED items and evaluations on it; each of them names a bank that is ACTIVE or RETIRING, with its generation; the item of an evaluation that is not abandoned is RATING; a bank is RETIRING only while the other is ACTIVE, and at most one is ACTIVE. -/
def ReferencesCounted (s : State) : Prop :=
  (∀ b, (s.bank b).refs = s.quotesOn b + s.evaluationsOn b) ∧
  (∀ p k i, s.item p k = some i → i.state = .quoted → ∃ q, i.quote = some q ∧ s.holdsGeneration q.bank q.generation) ∧
  (∀ op ev, s.evaluator.state = .evaluating op ev →
    s.holdsGeneration ev.bank ev.generation ∧
      (ev.halt ≠ some .abandoned → ∃ i, s.item op.position op.slot = some i ∧ i.state = .rating)) ∧
  (∀ b, (s.bank b).state = .loaded ∨ (s.bank b).state = .active ∨ (s.bank b).state = .retiring →
    (s.bank b).generation.isSome = true) ∧
  (∀ b, (s.bank b).state = .retiring → (s.bank b.other).state = .active) ∧
  ¬((s.bank .A).state = .active ∧ (s.bank .B).state = .active)

/-- R44, R47, R49, R50, R53, R58: the fields of a channel are absent, its timers stopped and its counts bounded as the table of R44 says. -/
def Channel.sound (ch : Channel) : Prop :=
  ch.window.length ≤ 8 ∧ ch.spikes ≤ 2 ∧ ch.errors ≤ 8 ∧ (ch.state = .off ↔ ch.config.enabled = false) ∧
    (ch.filtered = if ch.window = [] then none else some (filterCounts ch.window)) ∧
    (ch.reading.isSome = !ch.window.isEmpty) ∧ (ch.reference.isSome = !ch.window.isEmpty) ∧
    (ch.state = .off ∨ ch.state = .fault → ch.window = []) ∧ (ch.state = .stable → ch.window ≠ []) ∧
    (ch.settleTimer.isSome = true ↔ ch.state = .unstable ∧ ch.window ≠ []) ∧
    (ch.weighTimer.isSome = true ↔ ch.weigh ≠ .idle) ∧ (ch.weigh ≠ .idle → ch.state = .unstable)

/-- R44: every channel is sound. -/
def ChannelsSound (s : State) : Prop := ∀ c, (s.channel c).sound

/-- R94: the accumulator of an evaluation lies within ±(2^47 − 1). -/
def AccumulatorBounded (s : State) : Prop :=
  ∀ op ev, s.evaluator.state = .evaluating op ev → -(2 ^ 47 - 1) ≤ ev.accumulator ∧ ev.accumulator ≤ 2 ^ 47 - 1

/-- R153, R154, R156, R160: a disabled printer is OFF and an enabled one is not; a READY printer has an empty queue; the print timer runs, and the head job is PRINTING, exactly while the printer is PRINTING; and every other job is WAITING. -/
def Printer.sound (pr : Printer) : Prop :=
  (pr.enabled = false ↔ pr.state = .off) ∧ (pr.state = .ready → pr.queue = []) ∧
    (pr.timer.isSome = true ↔ pr.state = .printing) ∧ (∀ j ∈ pr.queue.tail, j.condition = .waiting) ∧
    (pr.state = .printing ↔ ∃ j rest, pr.queue = j :: rest ∧ j.condition = .printing)

/-- R153: every printer's queue holds at most 16 jobs, and while the supply is present every printer is sound (without supply nothing is sent: R165 sends at the power-on). -/
def PrintersSound (s : State) : Prop :=
  ∀ l, (s.printer l).queue.length ≤ 16 ∧ (s.power ≠ .off → (s.printer l).sound)

end Sys2Proof.Machine
end

