-- ==== Sys2Proof/Certificates/Slice0/Obligations.lean ====
section
/-! DEFINITION. The statements about the Candrel 1608: what one command does when the module takes it (every command of the table has a statement that says so), and what holds at all times. A statement `exec c s = .next u` with `u` written out is also the command's frame: every field that `u` does not name is as it was. -/

open Sys2Proof Sys2Proof.Machine

/-! ### The queue of commands -/

/-- 95_what_each_step_holds.md: a step is one command, whole. The queue, and idling on an empty queue, are the model's choice (log 1). -/
def Obligations.QueueFrontRuns : Prop :=
  (∀ (c : Instr) (rest : List Instr) (s : State), step { s with pending := c :: rest } = exec c { s with pending := rest }) ∧
  ∀ s : State, s.pending = [] → step s = .next s

/-- Every command is answered with a next state, and touches no command that waits behind it. That a command whose event cannot occur in the state it meets changes nothing instead of stopping (log 2), and the queue of commands (log 1), are the model's choices. -/
def Obligations.EveryCommandCompletes : Prop :=
  ∀ (c : Instr) (s : State), ∃ u, exec c s = .next u ∧ u.pending = s.pending

/-! ### Ports and the checks of requests -/

/-- R6, R168, R179: whatever arrives on a port, noise and damaged frames with sync bytes in them among it, the frames found are held, in order, while there is room, and the bytes of a frame under reception are kept, so that a frame may come in several parts; of all bytes it is said what is found in them. With the line down a position port discards what it receives (R2), the first bytes of a frame that ends after LINK-UP among it, which is the model's choice (log 24); and a break in the office line discards the frame it cuts short (R168). The receive buffer `rx` is the model's reading of R179 (log 23), and the break an operand (log 26). -/
def Obligations.PortsFindFrames : Prop :=
  (∀ (sync : Byte) (bytes : List Byte), ∃ frames tail, FramesFound sync bytes frames tail) ∧
  (∀ (p : PositionId) (bytes tail : List Byte) (frames : List Frame) (s : State),
    s.power = .running → (s.ctx p).linePresent = true →
    FramesFound positionSync ((tget s.ports p).rx ++ bytes) frames tail →
    exec (.positionFrameReceived p bytes) s =
      .next { s with
        ports :=
          tset s.ports p
            { held := (tget s.ports p).held ++ frames.take (4 - (tget s.ports p).held.length), rx := tail }
        sent := [] }) ∧
  (∀ (p : PositionId) (bytes : List Byte) (s : State),
    s.power = .running → (s.ctx p).linePresent = false →
    exec (.positionFrameReceived p bytes) s = .next { s with sent := [] }) ∧
  ∀ (bytes tail : List Byte) (broken : Bool) (frames : List Frame) (s : State),
    s.power = .running → FramesFound officeSync (s.officePort.rx ++ bytes) frames tail →
    exec (.officeFrameReceived { bytes := bytes, broken := broken }) s =
      .next { s with
        officePort :=
          { held := s.officePort.held ++ frames.take (2 - s.officePort.held.length), rx := if broken = true then [] else tail }
        sent := [] }

/-- R8 check 1: a disabled position answers every frame it takes with UNAVAILABLE, whatever its code and payload. -/
def Obligations.DisabledPositionUnavailable : Prop :=
  ∀ (p : PositionId) (f : Frame) (rest : List Frame) (s : State),
    s.power = .running → (s.ctx p).config.enabled = false → (tget s.ports p).held = f :: rest →
    exec (Instr.ofRequest p f) s = .next (s.afterRequest p rest [responseTo p f [0x03]])

/-- R8 checks 3 and 4, R9: every well-formed request is REPORTED STATE in a state of its position in which it is not served, and, if it names an item slot, when that slot holds no item; it changes no state. -/
def Obligations.SlotRequestNeedsItem : Prop :=
  ∀ (p : PositionId) (f : Frame) (rest : List Frame) (s : State),
    requestFits f.code f.payload = true → s.requestWaits p f rest →
    let slotByte : Byte := match slotNamed f with | some k => BitVec.ofNat 8 k.val | none => 0xFF
    (servedIn f.code (s.ctx p).state = false →
      exec (Instr.ofRequest p f) s =
        .next (s.afterRequest p rest [responseTo p f (reported f.code .state slotByte 0 0)])) ∧
    ∀ k, servedIn f.code (s.ctx p).state = true → slotNamed f = some k → s.item p k = none →
      exec (Instr.ofRequest p f) s =
        .next (s.afterRequest p rest [responseTo p f (reported f.code .state slotByte 0 0)])

/-- R8 check 2, R169: a request or command of an unknown code, of a length that does not suit its code, or with a field out of its range is answered FORMAT and changes no state. The slot byte of the refusal record is FFH for a request without a slot or with an empty payload and the slot where one can be read; where bytes are there and no slot can be read it is a free value (log 11). Yes or no bytes and the unused bits of POSITION are read by log 15, RESTART with KEEP by log 16; the response code to a code of 80H or above is a free value (log 12). -/
def Obligations.UnknownCodesRefused : Prop :=
  (∀ (p : PositionId) (f : Frame) (rest : List Frame) (s : State),
    requestFits f.code f.payload = false → s.requestWaits p f rest →
    ∃ slotByte : Byte,
      exec (Instr.ofRequest p f) s =
        .next (s.afterRequest p rest [responseTo p f (reported f.code .format slotByte 0 0)]) ∧
      (slotLength f.code = none ∨ f.payload = [] → slotByte = 0xFF) ∧
      (slotLength f.code = some f.payload.length → byteAt f.payload 0 < 8 → slotByte.toNat = byteAt f.payload 0)) ∧
  ∀ (f : Frame) (rest : List Frame) (s : State),
    commandFits f.code f.payload = false → s.commandWaits f rest →
    exec (Instr.ofCommand f) s = .next (s.afterCommand rest [answerTo f (refusedWith .format [])])

/-! ### Lines, attaching and detaching -/

/-- R3. -/
def Obligations.LinkUpLinksEnabledPosition : Prop :=
  ∀ (p : PositionId) (s : State), s.power = .running →
    exec (.linkUp p) s =
      .next { s with
        positions :=
          tset s.positions p
            { s.ctx p with
              linePresent := true
              state := if (s.ctx p).config.enabled = true ∧ (s.ctx p).state = .offline then .linked else (s.ctx p).state }
        sent := [] }

/-- R4, R2, R14: LINK-DOWN clears an attached position by the forced detach, empties its port and makes it OFFLINE. -/
def Obligations.LinkDownDetaches : Prop :=
  ∀ (p : PositionId) (s : State), s.power = .running →
    ∃ u, exec (.linkDown p) s = .next u ∧ u.sent = [] ∧ u.ports = tset s.ports p { held := [], rx := [] } ∧
      (if (s.ctx p).state = .attached ∨ (s.ctx p).state = .inTransaction then
        u.ctx p =
          { config := (s.ctx p).config, state := .offline, linePresent := false, account := none, key := none,
            transaction := none, completions := [], weigh := none, rating := false } ∧
        ForcedDetached p s u ∧
        u = { s with
              positions := u.positions, ports := u.ports, channels := u.channels, evaluator := u.evaluator,
              tariffs := u.tariffs, sent := u.sent }
      else
        u = { s with
              positions := tset s.positions p { s.ctx p with state := .offline, linePresent := false }, ports := u.ports,
              sent := u.sent })

/-- R11: ATTACH, its checks in order and its effect. -/
def Obligations.AttachChecksAndEffect : Prop :=
  ∀ (p : PositionId) (tag : Byte) (a : AccountId) (k : Fin 16) (rest : List Frame) (s : State),
    s.requestWaits p ⟨0x01, tag, [BitVec.ofNat 8 a.val, BitVec.ofNat 8 k.val]⟩ rest →
    let f : Frame := ⟨0x01, tag, [BitVec.ofNat 8 a.val, BitVec.ofNat 8 k.val]⟩
    exec (.attach p tag [BitVec.ofNat 8 a.val, BitVec.ofNat 8 k.val]) s =
      .next
        (if (s.ctx p).state ≠ .linked then s.afterRequest p rest [responseTo p f (reported 0x01 .state 0xFF 0 0)]
        else if (s.ctx p).config.allowed.getLsbD a.val = false then
          s.afterRequest p rest [responseTo p f (reported 0x01 .protection 0xFF 0 0)]
        else if (s.account a).key ≠ k then s.afterRequest p rest [responseTo p f (reported 0x01 .protection 0xFF 0 0)]
        else if (s.account a).status ≠ .opened then
          s.afterRequest p rest [responseTo p f (reported 0x01 .accountBlocked 0xFF 0 0)]
        else
          { s.afterRequest p rest [responseTo p f [0x00, BitVec.ofNat 8 a.val, boolByte (s.account a).low]] with
            positions := tset s.positions p { s.ctx p with account := some a, key := some k, state := .attached } })

/-- R12, R14: DETACH counts the records it loses, clears the position by the forced detach and leaves it LINKED; in LINKED it changes nothing. -/
def Obligations.DetachClearsPosition : Prop :=
  ∀ (p : PositionId) (tag : Byte) (rest : List Frame) (s : State), s.requestWaits p ⟨0x02, tag, []⟩ rest →
    ((s.ctx p).state = .linked →
      exec (.detach p tag []) s = .next (s.afterRequest p rest [responseTo p ⟨0x02, tag, []⟩ [0x00, 0x00]])) ∧
    ((s.ctx p).state = .attached ∨ (s.ctx p).state = .inTransaction →
      ∃ u, exec (.detach p tag []) s = .next u ∧
        u.sent = [responseTo p ⟨0x02, tag, []⟩ [0x00, BitVec.ofNat 8 (s.ctx p).completions.length]] ∧
        u.ctx p =
          { config := (s.ctx p).config, state := .linked, linePresent := (s.ctx p).linePresent, account := none, key := none,
            transaction := none, completions := [], weigh := none, rating := false } ∧
        ForcedDetached p s u ∧
        u = { s.afterRequest p rest u.sent with
              positions := u.positions, channels := u.channels, evaluator := u.evaluator, tariffs := u.tariffs })

/-- R20: COLLECT answers the oldest record and removes it; on an empty queue it answers "none" and changes nothing. -/
def Obligations.CollectTakesOldestRecord : Prop :=
  ∀ (p : PositionId) (tag : Byte) (rest : List Frame) (s : State), s.requestWaits p ⟨0x0E, tag, []⟩ rest →
    (s.ctx p).state ≠ .offline →
    exec (.collect p tag []) s =
      .next
        (match (s.ctx p).completions with
        | r :: others =>
          { s.afterRequest p rest
              [responseTo p ⟨0x0E, tag, []⟩ ([0x00, 0x01, BitVec.ofNat 8 others.length] ++ r.bytes)] with
            positions := tset s.positions p { s.ctx p with completions := others } }
        | [] => s.afterRequest p rest [responseTo p ⟨0x0E, tag, []⟩ [0x00, 0x00, 0x00]])

/-- R21, R31, R175, R148: QUERY, DETAIL, STATUS and JOURNAL-READ answer what they show and change no state. The order of the parts of the JOURNAL-READ answer (log 14) and 01H for a yes where no layout lists values (log 28) are the model's choices; how STATUS shows a head job's condition is a free value (log 13). -/
def Obligations.ReadingChangesNothing : Prop :=
  (∀ (p : PositionId) (tag : Byte) (rest : List Frame) (s : State), s.requestWaits p ⟨0x10, tag, []⟩ rest →
    (s.ctx p).state ≠ .offline →
    exec (.query p tag []) s = .next (s.afterRequest p rest [responseTo p ⟨0x10, tag, []⟩ (0x00 :: s.queryBytes p)])) ∧
  (∀ (p : PositionId) (tag : Byte) (k : Slot) (rest : List Frame) (t : Transaction) (i : Item) (s : State),
    s.itemRequestWaits p ⟨0x0A, tag, [BitVec.ofNat 8 k.val]⟩ rest k t i →
    exec (.detail p tag [BitVec.ofNat 8 k.val]) s =
      .next (s.afterRequest p rest [responseTo p ⟨0x0A, tag, [BitVec.ofNat 8 k.val]⟩ (0x00 :: i.bytes)])) ∧
  (∀ (tag : Byte) (rest : List Frame) (s : State), s.commandWaits ⟨0x01, tag, []⟩ rest →
    exec (.status tag []) s = .next (s.afterCommand rest [answerTo ⟨0x01, tag, []⟩ (0x00 :: s.statusBytes)])) ∧
  ∀ (tag n : Byte) (rest : List Frame) (s : State), s.commandWaits ⟨0x10, tag, [n]⟩ rest → 1 ≤ n.toNat → n.toNat ≤ 16 →
    exec (.journalRead tag [n]) s =
      .next (s.afterCommand rest
        [answerTo ⟨0x10, tag, [n]⟩
          (0x00 :: ((s.journal.entries.take n.toNat).flatMap JournalEntry.bytes ++ leBytes 2 s.journal.entries.length ++
            [boolByte (decide (1920 ≤ s.journal.entries.length))] ++ leBytes 4 s.journal.next.toNat))])

/-- R22, R101, R102: CANCEL finds what is in flight at the slot it names, or at all of them, and answers so for the weigh and for the rating: a queued rating leaves the queue, returns its item to WEIGHED and hands over one RATE-DONE of status CANCELLED; an evaluation under way is marked to halt CANCELLED if it has no halt reason; a chain between two slots ends for ALL; a waiting weigh ends CANCELLED; a slot with nothing in flight is found by neither; a CANCEL that names a slot ends only what is in flight there, and leaves a weigh or a rating at another slot; and ALL ends a weigh and a rating that are both in flight in one step. That the response stands before the ATTENTION frame (log 18), and the weigh's record before the rating's (log 29), is the model's reading. -/
def Obligations.CancelEndsOperations : Prop :=
  (∀ (p : PositionId) (tag : Byte) (rest : List Frame) (s : State), s.requestWaits p ⟨0x0D, tag, [0xFF]⟩ rest →
    (s.ctx p).state = .inTransaction → (s.ctx p).weigh = none → (s.ctx p).rating = false →
    exec (.cancel p tag [0xFF]) s =
      .next (s.afterRequest p rest [responseTo p ⟨0x0D, tag, [0xFF]⟩ [0x00, 0x00, 0x00]])) ∧
  (∀ (p : PositionId) (tag : Byte) (k : Slot) (rest : List Frame) (t : Transaction) (i : Item) (s : State),
    s.itemRequestWaits p ⟨0x0D, tag, [BitVec.ofNat 8 k.val]⟩ rest k t i → (s.ctx p).weigh ≠ some k →
    i.state ≠ .rateQueued → i.state ≠ .rating →
    exec (.cancel p tag [BitVec.ofNat 8 k.val]) s =
      .next (s.afterRequest p rest [responseTo p ⟨0x0D, tag, [BitVec.ofNat 8 k.val]⟩ [0x00, 0x00, 0x00]])) ∧
  (∀ (p : PositionId) (tag target : Byte) (before behind : List Operation) (op : Operation) (rest : List Frame)
      (t : Transaction) (i : Item) (s : State),
    (target = 0xFF ∧ (s.ctx p).weigh = none) ∨ (target = BitVec.ofNat 8 op.slot.val ∧ (s.ctx p).weigh ≠ some op.slot) →
    s.itemRequestWaits p ⟨0x0D, tag, [target]⟩ rest op.slot t i → i.state = .rateQueued →
    s.evaluator.queue = before ++ op :: behind → op.position = p → (∀ o ∈ before, o.position ≠ p) →
    (s.ctx p).rating = true →
    exec (.cancel p tag [target]) s =
      .next (State.withRateDone op op.slot (tset t op.slot (some { i with state := .weighed, quote := none })) .cancelled
        { s.afterRequest p rest [responseTo p ⟨0x0D, tag, [target]⟩ [0x00, 0x00, 0x01]] with
          evaluator := { s.evaluator with queue := before ++ behind } })) ∧
  (∀ (p : PositionId) (tag target : Byte) (op : Operation) (ev : Evaluation) (rest : List Frame) (t : Transaction) (i : Item)
      (s : State),
    (target = 0xFF ∧ (s.ctx p).weigh = none) ∨ (target = BitVec.ofNat 8 op.slot.val ∧ (s.ctx p).weigh ≠ some op.slot) →
    s.itemRequestWaits p ⟨0x0D, tag, [target]⟩ rest op.slot t i → i.state = .rating →
    s.evaluator.state = .evaluating op ev → op.position = p → (∀ o ∈ s.evaluator.queue, o.position ≠ p) →
    (s.ctx p).rating = true →
    exec (.cancel p tag [target]) s =
      .next
        { s.afterRequest p rest [responseTo p ⟨0x0D, tag, [target]⟩ [0x00, 0x00, 0x01]] with
          evaluator :=
            { s.evaluator with
              state := .evaluating op { ev with halt := if ev.halt = none then some .cancelled else ev.halt } } }) ∧
  (∀ (p : PositionId) (tag : Byte) (op : Operation) (rest : List Frame) (t : Transaction) (s : State),
    s.requestWaits p ⟨0x0D, tag, [0xFF]⟩ rest → (s.ctx p).state = .inTransaction → (s.ctx p).transaction = some t →
    s.evaluator.state = .chaining op → op.position = p → (∀ o ∈ s.evaluator.queue, o.position ≠ p) →
    (s.ctx p).rating = true → (s.ctx p).weigh = none →
    exec (.cancel p tag [0xFF]) s =
      .next (State.withRateDone op op.slot t .cancelled
        { s.afterRequest p rest [responseTo p ⟨0x0D, tag, [0xFF]⟩ [0x00, 0x00, 0x01]] with
          evaluator := { s.evaluator with state := .idle } })) ∧
  (∀ (p : PositionId) (tag target : Byte) (k : Slot) (c : ChannelId) (rest : List Frame) (t : Transaction) (i : Item) (s : State),
    (target = 0xFF ∧ (s.ctx p).rating = false) ∨ target = BitVec.ofNat 8 k.val →
    s.itemRequestWaits p ⟨0x0D, tag, [target]⟩ rest k t i → i.state = .weighing → (s.ctx p).weigh = some k →
    (s.channel c).weigh = .waiting p k → (∀ d m, (s.channel d).weigh = .waiting p m → d = c) →
    exec (.cancel p tag [target]) s =
      .next (State.withWeighEnd p k t i .cancelled 0
        { s.afterRequest p rest [responseTo p ⟨0x0D, tag, [target]⟩ [0x00, 0x01, 0x00]] with
          channels := tset s.channels c { s.channel c with weigh := .idle, weighTimer := none } })) ∧
  ∀ (p : PositionId) (tag : Byte) (k : Slot) (c : ChannelId) (rest : List Frame) (t : Transaction) (i : Item) (s : State),
    s.itemRequestWaits p ⟨0x0D, tag, [0xFF]⟩ rest k t i → i.state = .weighing → (s.ctx p).weigh = some k →
    (s.channel c).weigh = .waiting p k → (∀ d m, (s.channel d).weigh = .waiting p m → d = c) → (s.ctx p).rating = true →
    let t' : Transaction := tset t k (some (i.weighedAs .cancelled 0))
    let weighEnded : State :=
      State.withWeighEnd p k t i .cancelled 0
        { s.afterRequest p rest [responseTo p ⟨0x0D, tag, [0xFF]⟩ [0x00, 0x01, 0x01]] with
          channels := tset s.channels c { s.channel c with weigh := .idle, weighTimer := none } }
    (∀ before behind op j, s.evaluator.queue = before ++ op :: behind → op.position = p → (∀ o ∈ before, o.position ≠ p) →
      tget t op.slot = some j → j.state = .rateQueued →
      exec (.cancel p tag [0xFF]) s =
        .next (State.withRateDone op op.slot (tset t' op.slot (some { j with state := .weighed, quote := none })) .cancelled
          { weighEnded with evaluator := { s.evaluator with queue := before ++ behind } })) ∧
    (∀ op, s.evaluator.state = .chaining op → op.position = p → (∀ o ∈ s.evaluator.queue, o.position ≠ p) →
      exec (.cancel p tag [0xFF]) s =
        .next (State.withRateDone op op.slot t' .cancelled { weighEnded with evaluator := { s.evaluator with state := .idle } })) ∧
    ∀ op ev, s.evaluator.state = .evaluating op ev → op.position = p → (∀ o ∈ s.evaluator.queue, o.position ≠ p) →
      exec (.cancel p tag [0xFF]) s =
        .next
          { weighEnded with
            evaluator :=
              { s.evaluator with
                state := .evaluating op { ev with halt := if ev.halt = none then some .cancelled else ev.halt } } }

/-! ### Transactions and items -/

/-- R24: BEGIN opens a transaction of eight EMPTY slots in ATTACHED, and is REPORTED STATE in LINKED and IN-TRANSACTION. -/
def Obligations.BeginOpensTransaction : Prop :=
  ∀ (p : PositionId) (tag : Byte) (rest : List Frame) (s : State), s.requestWaits p ⟨0x03, tag, []⟩ rest →
    (s.ctx p).state ≠ .offline →
    exec (.beginTransaction p tag []) s =
      .next
        (if (s.ctx p).state = .attached then
          { s.afterRequest p rest [responseTo p ⟨0x03, tag, []⟩ [0x00]] with
            positions :=
              tset s.positions p { s.ctx p with state := .inTransaction, transaction := some (Vector.replicate 8 none) } }
        else s.afterRequest p rest [responseTo p ⟨0x03, tag, []⟩ (reported 0x03 .state 0xFF 0 0)])

/-- R25, R26: ADD creates a DRAFT item in the lowest-numbered EMPTY slot, and is REPORTED TRANSACTION-FULL when there is none. -/
def Obligations.AddFillsLowestEmptySlot : Prop :=
  ∀ (p : PositionId) (tag : Byte) (rest : List Frame) (t : Transaction) (s : State), s.requestWaits p ⟨0x04, tag, []⟩ rest →
    (s.ctx p).state = .inTransaction → (s.ctx p).transaction = some t →
    (∀ k : Slot, tget t k = none → (∀ j, j < k → (tget t j).isSome = true) →
      exec (.add p tag []) s =
        .next
          { s.afterRequest p rest [responseTo p ⟨0x04, tag, []⟩ [0x00, BitVec.ofNat 8 k.val]] with
            positions :=
              tset s.positions p
                { s.ctx p with
                  transaction :=
                    some (tset t k (some
                      { state := .draft,
                        facts :=
                          { service := 0, destination := none, declared := none, extras := ⟨false, false, false, false⟩,
                            dimensions := none },
                        weight := none, previous := none, quote := none, itemNumber := none, label := .unlabelled })) } }) ∧
    ((∀ k, (tget t k).isSome = true) →
      exec (.add p tag []) s =
        .next (s.afterRequest p rest [responseTo p ⟨0x04, tag, []⟩ (reported 0x04 .transactionFull 0xFF 0 0)]))

/-- R28, R29: AMEND by the state of its item: refused in flight and after acceptance, made otherwise, each of the five facts left, set to its field or cleared by its action byte; a QUOTED or STALE item loses its quote (a QUOTED one gives its reference back, R27) and becomes WEIGHED, unless every action is "leave". That an AMEND that leaves everything is refused STATE in flight and after acceptance too is the model's reading (log 17). -/
def Obligations.AmendByItemState : Prop :=
  ∀ (p : PositionId) (tag : Byte) (payload : List Byte) (k : Slot) (rest : List Frame) (t : Transaction) (i : Item) (s : State),
    requestFits 0x05 payload = true → byteAt payload 0 = k.val → s.itemRequestWaits p ⟨0x05, tag, payload⟩ rest k t i →
    let f : Frame := ⟨0x05, tag, payload⟩
    let idle := ∀ n : Fin 5, byteAt payload (1 + n.val) = 0
    let made {α : Type} (n : Nat) (held set cleared : α) : α :=
      if byteAt payload (1 + n) = 0 then held else if byteAt payload (1 + n) = 1 then set else cleared
    let twoDigits (n : Nat) : Nat := 10 * (byteAt payload n / 16) + byteAt payload n % 16
    let extra (n : Nat) : Bool := decide (byteAt payload 14 / 2 ^ n % 2 = 1)
    let facts : Facts :=
      { service := made 0 i.facts.service (Fin.ofNat 8 (byteAt payload 6)) 0
        destination := made 1 i.facts.destination (some (10000 * twoDigits 7 + 100 * twoDigits 8 + twoDigits 9)) none
        declared := made 2 i.facts.declared (some (numAt payload 10 4)) none
        extras :=
          made 3 i.facts.extras { signature := extra 0, fragile := extra 1, insured := extra 2, proof := extra 3 }
            { signature := false, fragile := false, insured := false, proof := false }
        dimensions :=
          made 4 i.facts.dimensions
            (some { length := numAt payload 15 2, width := numAt payload 17 2, height := numAt payload 19 2 }) none }
    (i.state = .weighing ∨ i.state = .rateQueued ∨ i.state = .rating ∨ i.state = .accepted ∨ i.state = .voided →
      exec (.amend p tag payload) s =
        .next (s.afterRequest p rest [responseTo p f (reported 0x05 .state (BitVec.ofNat 8 k.val) 0 0)])) ∧
    (i.state = .draft ∨ i.state = .weighed ∨ i.state = .quoted ∨ i.state = .stale → idle →
      exec (.amend p tag payload) s = .next (s.afterRequest p rest [responseTo p f [0x00, i.state.code]])) ∧
    (i.state = .draft ∨ i.state = .weighed → ¬idle →
      exec (.amend p tag payload) s =
        .next
          { s.afterRequest p rest [responseTo p f [0x00, i.state.code]] with
            positions := tset s.positions p { s.ctx p with transaction := some (tset t k (some { i with facts := facts })) } }) ∧
    (i.state = .quoted ∨ i.state = .stale → ¬idle →
      exec (.amend p tag payload) s =
        .next
          { s.afterRequest p rest [responseTo p f [0x00, ItemState.weighed.code]] with
            tariffs := s.tariffsWithout i
            positions :=
              tset s.positions p
                { s.ctx p with
                  transaction := some (tset t k (some { i with facts := facts, state := .weighed, quote := none })) } })

/-- R30, R32: DROP discards a DRAFT, WEIGHED, QUOTED or STALE item, a QUOTED one giving its reference back, and keeps any other. -/
def Obligations.DropByItemState : Prop :=
  ∀ (p : PositionId) (tag : Byte) (k : Slot) (rest : List Frame) (t : Transaction) (i : Item) (s : State),
    s.itemRequestWaits p ⟨0x06, tag, [BitVec.ofNat 8 k.val]⟩ rest k t i →
    exec (.drop p tag [BitVec.ofNat 8 k.val]) s =
      .next
        (if i.state = .draft ∨ i.state = .weighed ∨ i.state = .quoted ∨ i.state = .stale then
          { s.afterRequest p rest [responseTo p ⟨0x06, tag, [BitVec.ofNat 8 k.val]⟩ [0x00, BitVec.ofNat 8 k.val]] with
            tariffs := s.tariffsWithout i
            positions := tset s.positions p { s.ctx p with transaction := some (tset t k none) } }
        else
          s.afterRequest p rest
            [responseTo p ⟨0x06, tag, [BitVec.ofNat 8 k.val]⟩ (reported 0x06 .state (BitVec.ofNat 8 k.val) 0 0)])

/-- R42, R43: FINISH is BUSY while a weigh or rating is in flight; figures that differ from the ACCEPTED items are REPORTED MISMATCH with the actual ones; figures that match close the transaction, and every quote gives its reference back. -/
def Obligations.FinishClosesTransaction : Prop :=
  ∀ (p : PositionId) (tag : Byte) (n total : Nat) (payload : List Byte) (rest : List Frame) (t : Transaction) (s : State),
    n ≤ 8 → total ≤ 79999992 → payload = BitVec.ofNat 8 n :: leBytes 4 total → s.requestWaits p ⟨0x0F, tag, payload⟩ rest →
    (s.ctx p).state = .inTransaction → (s.ctx p).transaction = some t →
    let f : Frame := ⟨0x0F, tag, payload⟩
    let count := itemsIn .accepted t
    let sum := acceptedPostage t
    ((s.ctx p).weigh.isSome = true ∨ (s.ctx p).rating = true →
      exec (.finish p tag payload) s = .next (s.afterRequest p rest [responseTo p f [0x02]])) ∧
    ((s.ctx p).weigh = none → (s.ctx p).rating = false → ¬(n = count ∧ total = sum) →
      exec (.finish p tag payload) s =
        .next (s.afterRequest p rest [responseTo p f (reported 0x0F .mismatch 0xFF sum count)])) ∧
    ((s.ctx p).weigh = none → (s.ctx p).rating = false → n = count → total = sum →
      ∃ u, exec (.finish p tag payload) s = .next u ∧ quotesReleased (some t) s u ∧
        u = { s.afterRequest p rest
                [responseTo p f
                  (0x00 :: BitVec.ofNat 8 count :: leBytes 4 sum ++ [BitVec.ofNat 8 (itemsIn .voided t)])] with
              positions := tset s.positions p { s.ctx p with state := .attached, transaction := none }
              tariffs := u.tariffs })

/-! ### Scale channels -/

/-- R47 to R52, R180: a good sample, whatever bits 1 to 7 of its status byte and whatever noise before it: discarded in OFF; otherwise the window restarts after FAULT, when empty, and at the third spike; a spike below the third is counted and discarded; any other sample joins the window, and the reading is judged against the reference. The receive buffer of the scale line is the model's reading of R180 (log 23). -/
def Obligations.GoodSampleTreated : Prop :=
  ∀ (c : ChannelId) (bytes noise : List Byte) (count : Int) (status : Byte) (s : State),
    s.power = .running → tget s.scaleLines c ++ bytes = noise ++ sampleWire count status → (∀ b ∈ noise, b ≠ 0xC3) →
    status.getLsbD 0 = false → -8388608 ≤ count → count ≤ 8388607 →
    let ch := s.channel c
    let after (x : Channel) : Host.Outcome State Fault Refusal :=
      .next { s with channels := tset s.channels c x, scaleLines := tset s.scaleLines c [], sent := [] }
    let nearest (a : Int) (b : Nat) : Int := a.sign * (((2 * a.natAbs + b) / (2 * b) : Nat) : Int)
    let mean (window : List Int) : Int := window.sum / (window.length : Int)
    let readingAt (filtered : Int) : Int :=
      nearest (nearest ((filtered - ch.workingZero) * ch.config.span) 65536) ch.config.division * ch.config.division
    let restarted : Channel :=
      { ch with
        window := [count], filtered := some count, reading := some (readingAt count), reference := some (readingAt count),
        state := .unstable, spikes := 0, errors := 0, settleTimer := some ch.config.settle }
    let window := if 8 < (ch.window ++ [count]).length then (ch.window ++ [count]).drop 1 else ch.window ++ [count]
    let reading := readingAt (mean window)
    let joined : Channel :=
      { ch with window := window, filtered := some (mean window), reading := some reading, spikes := 0, errors := 0 }
    (ch.state = .off → exec (.sampleFrame c bytes) s = after ch) ∧
    (ch.state = .fault ∨ ((ch.state = .unstable ∨ ch.state = .stable) ∧ ch.filtered = none) →
      exec (.sampleFrame c bytes) s = after restarted) ∧
    ∀ held ref, (ch.state = .unstable ∨ ch.state = .stable) → ch.filtered = some held → ch.reference = some ref →
      exec (.sampleFrame c bytes) s =
        if ch.config.spikeLimit < (count - held).natAbs then
          if ch.spikes < 2 then after { ch with errors := 0, spikes := ch.spikes + 1 } else after restarted
        else if ch.config.band * ch.config.division < (reading - ref).natAbs then
          after { joined with reference := some reading, state := .unstable, settleTimer := some ch.config.settle }
        else after joined

/-- R47, R57, R180: an error sample, which is a frame with the error flag set or a frame whose check byte does not match, raises the error count; the eighth in UNSTABLE or STABLE puts the channel into FAULT and ends a WAITING weigh with SCALE-FAULT; in FAULT and OFF it changes nothing. After a failed check the line looks for a sync byte from the byte after the sync, so that the bytes from a later sync byte on are kept. The receive buffer of the scale line is the model's reading of R180 (log 23). -/
def Obligations.ErrorSampleTreated : Prop :=
  ∀ (c : ChannelId) (bytes noise kept : List Byte) (s : State),
    s.power = .running → (∀ b ∈ noise, b ≠ 0xC3) →
    (∃ count status, tget s.scaleLines c ++ bytes = noise ++ sampleWire count status ∧ status.getLsbD 0 = true ∧ kept = []) ∨
      (∃ c0 c1 c2 status check : Byte,
        tget s.scaleLines c ++ bytes = noise ++ [0xC3, c0, c1, c2, status, check] ∧ check ≠ c0 ^^^ c1 ^^^ c2 ^^^ status ∧
          kept = [c0, c1, c2, status, check].dropWhile fun b => decide (b ≠ 0xC3)) →
    let ch := s.channel c
    let heard := { s with scaleLines := tset s.scaleLines c kept, sent := [] }
    let failed : Channel :=
      { ch with
        state := .fault, errors := 8, window := [], filtered := none, reading := none, reference := none, spikes := 0,
        settleTimer := none }
    (ch.state = .off ∨ ch.state = .fault → exec (.sampleFrame c bytes) s = .next heard) ∧
    ((ch.state = .unstable ∨ ch.state = .stable) → ch.errors < 7 →
      exec (.sampleFrame c bytes) s =
        .next { heard with channels := tset s.channels c { ch with errors := ch.errors + 1 } }) ∧
    ((ch.state = .unstable ∨ ch.state = .stable) → 7 ≤ ch.errors → ch.weigh = .idle →
      exec (.sampleFrame c bytes) s = .next { heard with channels := tset s.channels c failed }) ∧
    ∀ p k t i, (ch.state = .unstable ∨ ch.state = .stable) → 7 ≤ ch.errors → ch.weigh = .waiting p k →
      (s.ctx p).state = .inTransaction → (s.ctx p).transaction = some t → tget t k = some i → i.state = .weighing →
      exec (.sampleFrame c bytes) s =
        .next (State.withWeighEnd p k t i .scaleFault 0
          { heard with channels := tset s.channels c { failed with weigh := .idle, weighTimer := none } })

/-- R53, R56, R58, R35: the settle timer makes an UNSTABLE channel STABLE and captures a WAITING weigh by the checks of R56; the weigh timer ends a WAITING weigh with UNSTABLE. That an expiry is a command, and the timers do not count, is the model's choice (log 5). -/
def Obligations.TimersEndWeigh : Prop :=
  (∀ (c : ChannelId) (r : Int) (s : State),
    s.power = .running → (s.channel c).state = .unstable → (s.channel c).settleTimer.isSome = true →
    (s.channel c).reading = some r →
    let ch := s.channel c
    let status : Reason :=
      if (ch.config.capacity : Int) + 9 * ch.config.division < r then .overload
      else if r < -20 * (ch.config.division : Int) then .underload
      else if r < 20 * (ch.config.division : Int) then .belowMinimum
      else .ok
    (ch.weigh = .idle →
      exec (.settleTimerExpiry c) s =
        .next { s with channels := tset s.channels c { ch with state := .stable, settleTimer := none }, sent := [] }) ∧
    ∀ p k t i, ch.weigh = .waiting p k → (s.ctx p).state = .inTransaction → (s.ctx p).transaction = some t →
      tget t k = some i → i.state = .weighing →
      exec (.settleTimerExpiry c) s =
        .next (State.withWeighEnd p k t i status r.toNat
          { s with
            channels := tset s.channels c { ch with state := .stable, settleTimer := none, weigh := .idle, weighTimer := none }
            sent := [] })) ∧
  ∀ (c : ChannelId) (p : PositionId) (k : Slot) (t : Transaction) (i : Item) (s : State),
    s.power = .running → (s.channel c).weigh = .waiting p k → (s.channel c).weighTimer.isSome = true →
    (s.ctx p).state = .inTransaction → (s.ctx p).transaction = some t → tget t k = some i → i.state = .weighing →
    exec (.weighTimerExpiry c) s =
      .next (State.withWeighEnd p k t i .unstable 0
        { s with channels := tset s.channels c { s.channel c with weigh := .idle, weighTimer := none }, sent := [] })

/-- R54, R55, R34, R56: the refusals of WEIGH in order; a WEIGH that passes its checks waits on an UNSTABLE channel, and on a STABLE one is captured at once, its answer carrying what the item then holds and its WEIGH-DONE queued behind it. That the response stands before the ATTENTION frame is the model's reading (log 18). -/
def Obligations.WeighWaitsOrCaptures : Prop :=
  (∀ (p : PositionId) (tag : Byte) (k : Slot) (rest : List Frame) (t : Transaction) (i : Item) (s : State),
    s.itemRequestWaits p ⟨0x07, tag, [BitVec.ofNat 8 k.val]⟩ rest k t i →
    let report (r : Reason) : Option (List Byte) := some (reported 0x07 r (BitVec.ofNat 8 k.val) 0 0)
    let refusal : Option (List Byte) :=
      match (s.ctx p).config.scale with
      | none => report .noScale
      | some c =>
        if ¬(i.state = .draft ∨ i.state = .weighed ∨ i.state = .quoted ∨ i.state = .stale) then report .state
        else if (s.channel c).state = .off then some [0x03]
        else if (s.channel c).weigh ≠ .idle ∨ (s.ctx p).weigh ≠ none then some [0x02]
        else if 8 ≤ s.budgetTotal p then some [0x02]
        else if (s.channel c).state = .fault then report .scaleFault
        else none
    ∀ answer, refusal = some answer →
      exec (.weigh p tag [BitVec.ofNat 8 k.val]) s =
        .next (s.afterRequest p rest [responseTo p ⟨0x07, tag, [BitVec.ofNat 8 k.val]⟩ answer])) ∧
  ∀ (p : PositionId) (tag : Byte) (k : Slot) (c : ChannelId) (rest : List Frame) (t : Transaction) (i : Item) (s : State),
    s.itemRequestWaits p ⟨0x07, tag, [BitVec.ofNat 8 k.val]⟩ rest k t i →
    i.state = .draft ∨ i.state = .weighed ∨ i.state = .quoted ∨ i.state = .stale →
    (s.ctx p).config.scale = some c → (s.channel c).weigh = .idle → (s.ctx p).weigh = none → s.budgetTotal p < 8 →
    let f : Frame := ⟨0x07, tag, [BitVec.ofNat 8 k.val]⟩
    let started : Item := { i with state := .weighing, quote := none }
    ((s.channel c).state = .unstable →
      exec (.weigh p tag [BitVec.ofNat 8 k.val]) s =
        .next
          { s.afterRequest p rest [responseTo p f [0x00, 0x01]] with
            tariffs := s.tariffsWithout i
            positions := tset s.positions p { s.ctx p with transaction := some (tset t k (some started)), weigh := some k }
            channels := tset s.channels c { s.channel c with weigh := .waiting p k, weighTimer := some 10000 } }) ∧
    ∀ r, (s.channel c).state = .stable → (s.channel c).reading = some r →
      let cfg := (s.channel c).config
      let status : Reason :=
        if (cfg.capacity : Int) + 9 * cfg.division < r then .overload
        else if r < -20 * (cfg.division : Int) then .underload
        else if r < 20 * (cfg.division : Int) then .belowMinimum
        else .ok
      let ended := started.weighedAs status r.toNat
      exec (.weigh p tag [BitVec.ofNat 8 k.val]) s =
        .next (State.withWeighEnd p k t started status r.toNat
          { s.afterRequest p rest
              [responseTo p f ([0x00, 0x00, status.code] ++ optBytes 4 ended.weight ++ optBytes 4 ended.previous)] with
            tariffs := s.tariffsWithout i })

/-- R59, R51: the refusals of ZERO in order; a ZERO on a STABLE, IDLE channel whose filtered counts lie within the zero range sets the working zero to them, the reference to 0 and the reading to 0; beyond the range it is REPORTED ZERO-RANGE and changes nothing. -/
def Obligations.ZeroWithinRange : Prop :=
  (∀ (p : PositionId) (tag : Byte) (rest : List Frame) (s : State),
    s.requestWaits p ⟨0x08, tag, []⟩ rest → (s.ctx p).state = .attached ∨ (s.ctx p).state = .inTransaction →
    let report (r : Reason) : Option (List Byte) := some (reported 0x08 r 0xFF 0 0)
    let refusal : Option (List Byte) :=
      match (s.ctx p).config.scale with
      | none => report .noScale
      | some c =>
        if (s.channel c).state = .off then some [0x03]
        else if (s.channel c).weigh ≠ .idle then some [0x02]
        else if (s.channel c).state ≠ .stable then report .unstable
        else none
    ∀ answer, refusal = some answer →
      exec (.zero p tag []) s = .next (s.afterRequest p rest [responseTo p ⟨0x08, tag, []⟩ answer])) ∧
  ∀ (p : PositionId) (tag : Byte) (c : ChannelId) (counts : Int) (rest : List Frame) (s : State),
    s.requestWaits p ⟨0x08, tag, []⟩ rest → (s.ctx p).state = .attached ∨ (s.ctx p).state = .inTransaction →
    (s.ctx p).config.scale = some c → (s.channel c).state = .stable → (s.channel c).weigh = .idle →
    (s.channel c).filtered = some counts →
    let cfg := (s.channel c).config
    exec (.zero p tag []) s =
      .next
        (if (counts - cfg.calibratedZero).natAbs ≤ cfg.capacity * 65536 / cfg.span * 2 / 100 then
          { s.afterRequest p rest [responseTo p ⟨0x08, tag, []⟩ (0x00 :: leInt 4 (counts - cfg.calibratedZero))] with
            channels := tset s.channels c { s.channel c with workingZero := counts, reference := some 0, reading := some 0 } }
        else s.afterRequest p rest [responseTo p ⟨0x08, tag, []⟩ (reported 0x08 .zeroRange 0xFF 0 0)])

/-! ### Rating -/

/-- R80, R81, R36: the refusals of RATE in order; a RATE that passes its checks makes the item RATE-QUEUED, marks the rating in flight, joins the tail of the queue and answers the number of operations ahead. -/
def Obligations.RateJoinsQueue : Prop :=
  ∀ (p : PositionId) (tag : Byte) (k : Slot) (scope : Scope) (payload : List Byte) (rest : List Frame) (t : Transaction) (i : Item)
      (s : State),
    payload = [BitVec.ofNat 8 k.val, match scope with | .one => 0x00 | .rest => 0x01] →
    s.itemRequestWaits p ⟨0x09, tag, payload⟩ rest k t i →
    let report (r : Reason) : Option (List Byte) := some (reported 0x09 r (BitVec.ofNat 8 k.val) 0 0)
    let refusal : Option (List Byte) :=
      if ¬(i.state = .weighed ∨ i.state = .quoted ∨ i.state = .stale) then report .state
      else if i.facts.destination = none then report .missingDestination
      else if (s.bank .A).state ≠ .active ∧ (s.bank .B).state ≠ .active then report .noTariff
      else if (s.ctx p).rating = true then some [0x02]
      else if 8 ≤ s.budgetTotal p then some [0x02]
      else none
    let ahead := s.evaluator.queue.length + if s.evaluator.state = .idle then 0 else 1
    exec (.rate p tag payload) s =
      .next
        (match refusal with
        | some answer => s.afterRequest p rest [responseTo p ⟨0x09, tag, payload⟩ answer]
        | none =>
          { s.afterRequest p rest [responseTo p ⟨0x09, tag, payload⟩ [0x00, BitVec.ofNat 8 ahead]] with
            tariffs := s.tariffsWithout i
            positions :=
              tset s.positions p
                { s.ctx p with
                  transaction := some (tset t k (some { i with state := .rateQueued, quote := none })), rating := true }
            evaluator :=
              { s.evaluator with
                queue :=
                  s.evaluator.queue ++
                    [{ position := p, slot := k, origin := k, scope := scope, quoted := 0, lastPostage := none }] } })

/-- R79, R82, R87: the IDLE evaluator takes the head entry; with a bank ACTIVE it takes a reference there and begins with the item's facts, the flags and an accumulator of 0; with none the rating ends NO-TARIFF. That it is a command of its own is the table's (log 6). -/
def Obligations.EvaluationStarts : Prop :=
  ∀ (op : Operation) (behind : List Operation) (t : Transaction) (i : Item) (s : State),
    s.power = .running → s.evaluator = { queue := op :: behind, state := .idle } →
    (s.ctx op.position).state = .inTransaction → (s.ctx op.position).transaction = some t → tget t op.slot = some i →
    i.state = .rateQueued →
    (∀ b g, (s.bank b).state = .active → (s.bank b.other).state ≠ .active → (s.bank b).generation = some g →
      exec .evaluationStart s =
        .next
          { s with
            tariffs := (s.setBank b { s.bank b with refs := (s.bank b).refs + 1 }).tariffs
            positions :=
              tset s.positions op.position
                { s.ctx op.position with transaction := some (tset t op.slot (some { i with state := .rating })) }
            evaluator :=
              { queue := behind
                state :=
                  .evaluating op
                    { bank := b, generation := g, flags := s.flags, facts := i.facts, weight := i.weight.getD 0, step := .check,
                      accumulator := 0, marks := ⟨false, false⟩, trace := [], halt := none } }
            sent := [] }) ∧
    ((∀ b, (s.bank b).state ≠ .active) →
      exec .evaluationStart s =
        .next (State.withRateDone op op.slot (tset t op.slot (some { i with state := .weighed, quote := none })) .noTariff
          { s with evaluator := { queue := behind, state := .idle }, sent := [] }))

/-- R84 to R89, R68: the check step refuses by the first limit the parcel fails, in the order of R84 and R85: the reference is released, the item returns to WEIGHED, and the operation ends with the reason; otherwise it keeps the zone, the chargeable weight with its kind and the number of steps, and the first term or the delivery follows. An offered or volumetric byte that is not 01H counts as no and a zone byte above 0FH as CLOSED, which for the bytes that R74 refuses is the model's choice (log 19). -/
def Obligations.CheckStepPassesOrRefuses : Prop :=
  ∀ (op : Operation) (ev : Evaluation) (s : State),
    s.power = .running → s.evaluator.state = .evaluating op ev → ev.halt = none → ev.step = .check →
    let img := (s.bank ev.bank).image
    let field (k size : Nat) : Nat := numAt img (scheduleOffset ev.facts.service.val + k) size
    let zoneOfPrefix (digits : Nat) : Nat := byteAt img (32 + digits)
    let refusal : Option Reason :=
      if field 0 1 ≠ 1 then some .serviceNotOffered
      else if ev.facts.destination = none then some .missingDestination
      else if (ev.facts.destination.any fun d => decide (15 < zoneOfPrefix (d / 1000))) = true then some .destinationClosed
      else if field 10 2 < ev.weight then some .overWeight
      else if (ev.facts.dimensions.any fun x => decide (field 12 2 < longestSide x)) = true then some .overSize
      else if (ev.facts.dimensions.any fun x => decide (field 14 2 < sideAndGirth x)) = true then some .overSize
      else if (ev.facts.declared.any fun v => decide (field 17 4 < v)) = true then some .valueOverLimit
      else if field 1 1 = 1 ∧ ev.facts.dimensions = none then some .missingDimensions
      else none
    let volume : Nat :=
      match ev.facts.dimensions with
      | some x => (x.length * x.width * x.height + field 4 2 - 1) / field 4 2
      | none => 0
    let byVolume := field 1 1 = 1 ∧ ev.weight < volume
    let chargeable : Nat := if byVolume then volume else ev.weight
    let steps : Nat := if chargeable ≤ field 6 2 then 0 else (chargeable - field 6 2 + field 8 2 - 1) / field 8 2
    (∀ (d : Nat) (zone : Fin 16), refusal = none → ev.facts.destination = some d → zone.val = zoneOfPrefix (d / 1000) →
      let w : Working :=
        { zone := zone, chargeable := chargeable, kind := if byVolume then .volumetric else .actual, steps := steps }
      exec .checkStep s =
        .next
          { s with
            evaluator :=
              { s.evaluator with
                state := .evaluating op { ev with step := if 0 < field 3 1 then .term 0 w else .delivery w } }
            sent := [] }) ∧
    ∀ r t i, refusal = some r → (s.ctx op.position).state = .inTransaction →
      (s.ctx op.position).transaction = some t → tget t op.slot = some i → i.state = .rating →
      exec .checkStep s =
        .next (State.withRateDone op op.slot (tset t op.slot (some { i with state := .weighed, quote := none })) r
          { s with tariffs := s.releasedOn ev.bank, evaluator := { s.evaluator with state := .idle }, sent := [] })

/-- R90 to R95, R71 to R73: a term step adds the capped contribution of a term whose four conditions hold, within the accumulator's bounds with the SAT mark, and one trace entry; a term that does not apply changes neither; and the next term or the delivery follows. That a term with a basis, flag condition or extras byte that R74 refuses does not apply is the model's choice (log 19). -/
def Obligations.TermStepAddsContribution : Prop :=
  ∀ (op : Operation) (ev : Evaluation) (k : Nat) (w : Working) (s : State),
    s.power = .running → s.evaluator.state = .evaluating op ev → ev.halt = none → ev.step = .term k w →
    let img := (s.bank ev.bank).image
    let at_ := termOffset img ev.facts.service.val k
    let field (offset size : Nat) : Nat := numAt img (at_ + offset) size
    let basis := field 0 1
    let required (bit : Nat) : Bool := (field 2 1).testBit bit
    let coefficient := coefficientAt img (at_ + 3)
    let inZone := (field 6 2).testBit w.zone.val = true
    let hasExtras :=
      field 2 1 ≤ 0x0F ∧ (required 0 = true → ev.facts.extras.signature = true) ∧
        (required 1 = true → ev.facts.extras.fragile = true) ∧ (required 2 = true → ev.facts.extras.insured = true) ∧
        (required 3 = true → ev.facts.extras.proof = true)
    let flagHolds :=
      field 1 1 = 0 ∨ (∃ f : Fin 8, field 1 1 = 0x10 + f.val ∧ ev.flags.getLsbD f.val = true) ∨
        ∃ f : Fin 8, field 1 1 = 0x20 + f.val ∧ ev.flags.getLsbD f.val = false
    let inBand := field 8 4 ≤ w.chargeable ∧ w.chargeable ≤ field 12 4
    let quantity : Nat :=
      if basis = 0 then 1
      else if basis = 1 then w.steps
      else if basis = 2 then w.chargeable - field 16 4
      else if basis = 3 then (match ev.facts.declared with | some v => (v + 99) / 100 | none => 0)
      else match ev.facts.dimensions with | some x => sideAndGirth x - field 16 4 | none => 0
    let raw : Int := if basis = 5 then (ev.accumulator * coefficient).tdiv 10000 else coefficient * quantity
    let cap := field 20 4
    let contribution : Int := if 0 < cap ∧ cap < raw.natAbs then raw.sign * cap else raw
    let sum := ev.accumulator + contribution
    let next : EvalStep :=
      if k + 1 < byteAt img (scheduleOffset ev.facts.service.val + 3) then .term (k + 1) w else .delivery w
    let after (x : Evaluation) : Host.Outcome State Fault Refusal :=
      .next { s with evaluator := { s.evaluator with state := .evaluating op x }, sent := [] }
    exec .termStep s =
      if basis ≤ 5 ∧ inZone ∧ hasExtras ∧ flagHolds ∧ inBand then
        after
          { ev with
            step := next
            accumulator := max (-(2 ^ 47 - 1)) (min (2 ^ 47 - 1) sum)
            marks := { ev.marks with sat := ev.marks.sat || decide (2 ^ 47 - 1 < sum) || decide (sum < -(2 ^ 47 - 1)) }
            trace := ev.trace ++ [⟨k, contribution⟩] }
      else after { ev with step := next }

/-- R96 to R98, R37: the delivery step converts the accumulator by the schedule's granule and rounding mode, holds it at the ceiling, and stores the quote in the RATING item, which becomes QUOTED and keeps the evaluation's reference; the operation ends OK, or in scope REST below slot 7 goes on to a chain step. Under a rounding byte that R74 refuses the number of granules is a free value (log 19). -/
def Obligations.DeliveryStoresQuote : Prop :=
  ∀ (op : Operation) (ev : Evaluation) (w : Working) (t : Transaction) (i : Item) (s : State),
    s.power = .running → s.evaluator.state = .evaluating op ev → ev.halt = none → ev.step = .delivery w →
    (s.ctx op.position).state = .inTransaction → (s.ctx op.position).transaction = some t → tget t op.slot = some i →
    i.state = .rating →
    let img := (s.bank ev.bank).image
    let field (k size : Nat) : Nat := numAt img (scheduleOffset ev.facts.service.val + k) size
    let granule := field 16 1
    let g := granule * 100
    let price := ev.accumulator.toNat
    let rounded : Nat :=
      if ev.accumulator ≤ 0 then 0
      else if field 2 1 = 0 then (price + g - 1) / g * granule
      else if field 2 1 = 1 then (price + g / 2) / g * granule
      else if field 2 1 = 2 then price / g * granule
      else Config.unknownRounding ev.accumulator granule * granule
    let ceiling := field 21 4
    let quote : Quote :=
      { postage := min rounded ceiling, tariffId := BitVec.ofNat 32 (numAt img 0 4), bank := ev.bank,
        generation := ev.generation, chargeable := w.chargeable, kind := w.kind, zone := w.zone,
        marks := { sat := ev.marks.sat || decide (ceiling < rounded), zeroClamp := decide (ev.accumulator < 0) },
        trace := ev.trace, stale := false }
    let t' : Transaction := tset t op.slot (some { i with state := .quoted, quote := some quote })
    let op' : Operation := { op with quoted := op.quoted + 1, lastPostage := some quote.postage }
    exec .deliveryStep s =
      .next
        (if op.scope = .rest ∧ op.slot.val < 7 then
          { s with
            positions := tset s.positions op.position { s.ctx op.position with transaction := some t' }
            evaluator := { s.evaluator with state := .chaining op' }, sent := [] }
        else State.withRateDone op' op.slot t' .ok { s with evaluator := { s.evaluator with state := .idle }, sent := [] })

/-- R99, R100: the chain step places a continuation behind every waiting entry when the next slot holds a WEIGHED, QUOTED or STALE item, and otherwise ends the chain with an OK RATE-DONE. -/
def Obligations.ChainStepContinuesOrEnds : Prop :=
  ∀ (op : Operation) (k : Slot) (t : Transaction) (s : State),
    s.power = .running → s.evaluator.state = .chaining op → op.slot.val < 7 → k.val = op.slot.val + 1 →
    (s.ctx op.position).state = .inTransaction → (s.ctx op.position).transaction = some t →
    (∀ i, tget t k = some i → i.state = .weighed ∨ i.state = .quoted ∨ i.state = .stale →
      exec .chainStep s =
        .next
          { s with
            tariffs := s.tariffsWithout i
            positions :=
              tset s.positions op.position
                { s.ctx op.position with transaction := some (tset t k (some { i with state := .rateQueued, quote := none })) }
            evaluator := { queue := s.evaluator.queue ++ [{ op with slot := k }], state := .idle }
            sent := [] }) ∧
    ((∀ i, tget t k = some i → ¬(i.state = .weighed ∨ i.state = .quoted ∨ i.state = .stale)) →
      exec .chainStep s =
        .next (State.withRateDone op k t .ok { s with evaluator := { s.evaluator with state := .idle }, sent := [] }))

/-- R102, R103, R104, R87: an evaluation with a halt reason halts and gives its reference back: CANCELLED and RE-RATE return the item to WEIGHED and hand over one RATE-DONE, ABANDONED hands over nothing. -/
def Obligations.EvaluationHalts : Prop :=
  ∀ (op : Operation) (ev : Evaluation) (s : State),
    s.power = .running → s.evaluator.state = .evaluating op ev →
    (ev.halt = some .abandoned →
      exec .evaluationHalt s =
        .next
          { s with tariffs := s.releasedOn ev.bank, evaluator := { s.evaluator with state := .idle }, sent := [] }) ∧
    ∀ t i, ev.halt = some .cancelled ∨ ev.halt = some .reRate → (s.ctx op.position).state = .inTransaction →
      (s.ctx op.position).transaction = some t → tget t op.slot = some i → i.state = .rating →
      exec .evaluationHalt s =
        .next (State.withRateDone op op.slot (tset t op.slot (some { i with state := .weighed, quote := none }))
          (if ev.halt = some .cancelled then .cancelled else .reRate)
          { s with tariffs := s.releasedOn ev.bank, evaluator := { s.evaluator with state := .idle }, sent := [] })

/-! ### Acceptance and void -/

/-- R134, R135, R39, R141, R155, R156: the refusals of ACCEPT in order; an ACCEPT that passes every check debits the account, takes the next serial, appends one journal entry, makes the item ACCEPTED with its number, gives its quote's reference back, and queues one label job; the store takes all of it, and a READY printer sends its head job at once, which makes its label PRINTING. That the response stands before the label frame is the model's reading (log 18). -/
def Obligations.AcceptMakesItsEffects : Prop :=
  (∀ (p : PositionId) (tag : Byte) (k : Slot) (rest : List Frame) (t : Transaction) (i : Item) (q : Quote) (a : AccountId)
      (key : Fin 16) (s : State),
    s.itemRequestWaits p ⟨0x0B, tag, [BitVec.ofNat 8 k.val]⟩ rest k t i → (i.state = .quoted → i.quote = some q) →
    (s.ctx p).account = some a → (s.ctx p).key = some key →
    let x := s.account a
    let report (r : Reason) (figure : Nat) : Option (List Byte) := some (reported 0x0B r (BitVec.ofNat 8 k.val) figure 0)
    let refusal : Option (List Byte) :=
      if s.supply = .hold then some [0x03]
      else if s.clock.valid = false then report .clockUnset 0
      else if i.state = .stale then report .reRate 0
      else if i.state ≠ .quoted then report .state 0
      else if x.status ≠ .opened then report .accountBlocked 0
      else if x.key ≠ key then report .protection 0
      else if x.remaining < q.postage ∨ 2 ^ 47 - 1 < x.issued + q.postage then report .noCredit x.remaining
      else if s.allocator.officeCode = none ∨ s.allocator.next = none then report .noNumbers 0
      else if 2048 ≤ s.journal.entries.length then report .journalFull 0
      else if 8 ≤ s.budgetTotal p ∨ 4 ≤ tget s.labelCounts p ∨
          ((s.ctx p).config.printer.any fun l => decide (16 ≤ (s.printer l).queue.length)) = true then some [0x02]
      else if (s.ctx p).config.printer = none then report .noPrinter 0
      else none
    ∀ answer, refusal = some answer →
      exec (.accept p tag [BitVec.ofNat 8 k.val]) s =
        .next (s.afterRequest p rest [responseTo p ⟨0x0B, tag, [BitVec.ofNat 8 k.val]⟩ answer])) ∧
  ∀ (p : PositionId) (tag : Byte) (k : Slot) (rest : List Frame) (t : Transaction) (i : Item) (q : Quote) (a : AccountId)
      (l : PrinterId) (office serial : Nat) (head : SerialBlock) (blocks : List SerialBlock) (s : State),
    s.itemRequestWaits p ⟨0x0B, tag, [BitVec.ofNat 8 k.val]⟩ rest k t i → s.supply = .normal → s.clock.valid = true →
    i.state = .quoted → i.quote = some q → (s.ctx p).account = some a → (s.ctx p).key = some (s.account a).key →
    (s.account a).status = .opened → q.postage ≤ (s.account a).remaining →
    (s.account a).issued + q.postage ≤ 2 ^ 47 - 1 → s.allocator.officeCode = some office → s.allocator.next = some serial →
    s.allocator.blocks = head :: blocks → s.journal.entries.length < 2048 → s.budgetTotal p < 8 → tget s.labelCounts p < 4 →
    (s.ctx p).config.printer = some l → (s.printer l).queue.length < 16 →
    let num := itemNumber office serial
    let x := s.account a
    let x' : Account :=
      { x with
        issued := x.issued + q.postage, remaining := x.remaining - q.postage, pieces := min (x.pieces + 1) 4294967295,
        low := decide (x.remaining - q.postage < x.threshold) }
    let allocator : Allocator :=
      if serial = head.last then
        { s.allocator with blocks := blocks, next := match blocks with | b :: _ => some b.first | [] => none }
      else { s.allocator with next := some (serial + 1) }
    let sale : SaleRecord :=
      { position := p, itemNumber := num, postage := q.postage, service := i.facts.service, zone := q.zone,
        chargeable := q.chargeable, kind := q.kind, tariffId := q.tariffId, marks := q.marks }
    let journal : Journal :=
      { entries := s.journal.entries ++ [{ seq := s.journal.next, time := s.clock.value, account := a, event := .accept sale }]
        next := s.journal.next + 1 }
    let label : LabelRecord :=
      { itemNumber := num, service := i.facts.service, postage := q.postage, time := s.clock.value, officeCode := office,
        position := p, chargeable := q.chargeable, kind := q.kind, zone := q.zone, destination := i.facts.destination,
        tariffId := q.tariffId }
    let job : Job := { itemNumber := num, position := p, slot := k, record := label, attempts := 0, condition := .waiting }
    let queue := (s.printer l).queue ++ [job]
    let accepted : State :=
      { s.afterRequest p rest
          [responseTo p ⟨0x0B, tag, [BitVec.ofNat 8 k.val]⟩
            (0x00 :: (bcdBytes 7 num ++ leBytes 4 q.postage ++ [boolByte x'.low]))] with
        accounts := tset s.accounts a x', allocator := allocator, journal := journal, tariffs := s.releasedOn q.bank
        positions :=
          tset s.positions p
            { s.ctx p with
              transaction := some (tset t k (some { i with state := .accepted, itemNumber := some num, label := .queued })) }
        printers := tset s.printers l { s.printer l with queue := queue }
        labelCounts := tset s.labelCounts p (tget s.labelCounts p + 1)
        nvs :=
          { s.nvs with
            accounts := tset s.nvs.accounts a x', allocator := allocator, journal := journal,
            queues := tset s.nvs.queues l (queue.map fun j => { j with condition := .waiting }) } }
    exec (.accept p tag [BitVec.ofNat 8 k.val]) s =
      .next (if (s.printer l).state = .ready then accepted.withHeadSent l else accepted)

/-- R142: an item number is the office code, the serial in eight digits and a check digit, the weighted sum of the thirteen digits giving it; and no two pairs of office code and serial give one number. -/
def Obligations.ItemNumbersFormed : Prop :=
  (∀ office serial : Nat, office ≤ 99999 → serial ≤ 99999999 →
    let n := office * 100000000 + serial
    let digit (k : Nat) : Nat := n / 10 ^ k % 10
    let s :=
      2 * digit 12 + 7 * digit 11 + 6 * digit 10 + 5 * digit 9 + 4 * digit 8 + 3 * digit 7 + 2 * digit 6 + 7 * digit 5 +
        6 * digit 4 + 5 * digit 3 + 4 * digit 2 + 3 * digit 1 + 2 * digit 0
    itemNumber office serial = 10 * n + if s % 11 ≤ 1 then 0 else 11 - s % 11) ∧
  ∀ office serial office' serial' : Nat, serial ≤ 99999999 → serial' ≤ 99999999 →
    itemNumber office serial = itemNumber office' serial' → office = office' ∧ serial = serial'

/-- R137, R138, R40, R162: the refusals of VOID in order; a VOID that passes every check refunds the account, appends one journal entry and makes the item VOIDED; a WAITING job of the item leaves its queue and its label state becomes REMOVED, and a job that is PRINTING or gone is left as it is. -/
def Obligations.VoidMakesItsEffects : Prop :=
  (∀ (p : PositionId) (tag : Byte) (k : Slot) (rest : List Frame) (t : Transaction) (i : Item) (a : AccountId) (key : Fin 16)
      (s : State),
    s.itemRequestWaits p ⟨0x0C, tag, [BitVec.ofNat 8 k.val]⟩ rest k t i →
    (i.state = .accepted → i.quote.isSome = true ∧ i.itemNumber.isSome = true) → (s.ctx p).account = some a →
    (s.ctx p).key = some key →
    let report (r : Reason) : Option (List Byte) := some (reported 0x0C r (BitVec.ofNat 8 k.val) 0 0)
    let refusal : Option (List Byte) :=
      if s.supply = .hold then some [0x03]
      else if i.state ≠ .accepted then report .state
      else if (s.account a).status ≠ .opened then report .accountBlocked
      else if (s.account a).key ≠ key then report .protection
      else if 2048 ≤ s.journal.entries.length then report .journalFull
      else none
    ∀ answer, refusal = some answer →
      exec (.void p tag [BitVec.ofNat 8 k.val]) s =
        .next (s.afterRequest p rest [responseTo p ⟨0x0C, tag, [BitVec.ofNat 8 k.val]⟩ answer])) ∧
  ∀ (p : PositionId) (tag : Byte) (k : Slot) (rest : List Frame) (t : Transaction) (i : Item) (q : Quote) (a : AccountId)
      (num : Nat) (s : State),
    s.itemRequestWaits p ⟨0x0C, tag, [BitVec.ofNat 8 k.val]⟩ rest k t i → s.supply = .normal → i.state = .accepted →
    i.quote = some q → i.itemNumber = some num → (s.ctx p).account = some a → (s.ctx p).key = some (s.account a).key →
    (s.account a).status = .opened → s.journal.entries.length < 2048 →
    let x := s.account a
    let x' : Account :=
      { x with
        refunded := x.refunded + q.postage, remaining := x.remaining + q.postage,
        low := decide (x.remaining + q.postage < x.threshold) }
    let sale : SaleRecord :=
      { position := p, itemNumber := num, postage := q.postage, service := i.facts.service, zone := q.zone,
        chargeable := q.chargeable, kind := q.kind, tariffId := q.tariffId, marks := q.marks }
    let journal : Journal :=
      { entries := s.journal.entries ++ [{ seq := s.journal.next, time := s.clock.value, account := a, event := .void sale }]
        next := s.journal.next + 1 }
    let answer (label : LabelState) : List Sent :=
      [responseTo p ⟨0x0C, tag, [BitVec.ofNat 8 k.val]⟩
        (0x00 :: (bcdBytes 7 num ++ leBytes 4 q.postage ++ [label.code, boolByte x'.low]))]
    ((∀ m, ∀ j ∈ (s.printer m).queue, j.itemNumber = num → j.condition = .printing) →
      exec (.void p tag [BitVec.ofNat 8 k.val]) s =
        .next
          { s.afterRequest p rest (answer i.label) with
            accounts := tset s.accounts a x', journal := journal
            positions := tset s.positions p { s.ctx p with transaction := some (tset t k (some { i with state := .voided })) }
            nvs := { s.nvs with accounts := tset s.nvs.accounts a x', journal := journal } }) ∧
    ∀ l before j behind, (s.printer l).queue = before ++ j :: behind → j.itemNumber = num → j.condition = .waiting →
      (∀ o ∈ before, o.itemNumber ≠ num) → (∀ m, m ≠ l → ∀ o ∈ (s.printer m).queue, o.itemNumber ≠ num) →
      (s.printer l).state ≠ .ready →
      exec (.void p tag [BitVec.ofNat 8 k.val]) s =
        .next
          { s.afterRequest p rest (answer .removed) with
            accounts := tset s.accounts a x', journal := journal
            positions :=
              tset s.positions p { s.ctx p with transaction := some (tset t k (some { i with state := .voided, label := .removed })) }
            printers := tset s.printers l { s.printer l with queue := before ++ behind }
            labelCounts := tset s.labelCounts j.position (tget s.labelCounts j.position - 1)
            nvs :=
              { s.nvs with
                accounts := tset s.nvs.accounts a x', journal := journal
                queues := tset s.nvs.queues l ((before ++ behind).map Job.stored) } }

/-! ### The office link block -/

/-- R171, R172: TIME sets the clock and its valid flag and answers what it held; FLAGS sets, clears or keeps each flag, writes them unless it keeps all eight, and answers them. That the valid byte of the answer is 01H for yes is the model's choice (log 28). -/
def Obligations.TimeAndFlagsSet : Prop :=
  (∀ (tag b0 b1 b2 b3 : Byte) (rest : List Frame) (s : State), s.commandWaits ⟨0x02, tag, [b0, b1, b2, b3]⟩ rest →
    exec (.time tag [b0, b1, b2, b3]) s =
      .next
        { s.afterCommand rest
            [answerTo ⟨0x02, tag, [b0, b1, b2, b3]⟩ (0x00 :: (leBytes 4 s.clock.value.toNat ++ [boolByte s.clock.valid]))] with
          clock := { value := b3 ++ b2 ++ b1 ++ b0, valid := true } }) ∧
  ∀ (tag : Byte) (actions : Vector Byte 8) (rest : List Frame) (s : State),
    (∀ f, (tget actions f).toNat ≤ 2) → s.commandWaits ⟨0x06, tag, actions.toList⟩ rest →
    ∃ u, exec (.flags tag actions.toList) s = .next u ∧
      (∀ f : Fin 8, u.flags.getLsbD f.val =
        if tget actions f = 0x00 then false else if tget actions f = 0x01 then true else s.flags.getLsbD f.val) ∧
      u =
        { s.afterCommand rest [answerTo ⟨0x06, tag, actions.toList⟩ [0x00, u.flags]] with
          flags := u.flags
          nvs := if ∀ f, tget actions f = 0x02 then s.nvs else { s.nvs with flags := u.flags } }

/-- R173, R5, R46: POSITION is refused FULL where its channel already counts two other positions, by their configuration or by a weigh still held there; it stores its settings; a disabling performs the forced detach and sets OFFLINE, an enabling sets LINKED if the line is present, and otherwise the state stays. -/
def Obligations.PositionStoresSettings : Prop :=
  ∀ (tag : Byte) (p : PositionId) (cfg : PositionConfig) (payload : List Byte) (rest : List Frame) (s : State),
    readPosition payload = some (p, cfg) → s.commandWaits ⟨0x07, tag, payload⟩ rest →
    let f : Frame := ⟨0x07, tag, payload⟩
    let counts (c : ChannelId) (q : PositionId) : Prop :=
      q ≠ p ∧ ((s.ctx q).config.scale = some c ∨ ∃ k, (s.channel c).weigh = .waiting q k)
    let full := ∃ c q r, cfg.scale = some c ∧ q ≠ r ∧ counts c q ∧ counts c r
    let nvs := { s.nvs with positions := tset s.nvs.positions p cfg }
    let state : PositionState :=
      if cfg.enabled = (s.ctx p).config.enabled then (s.ctx p).state
      else if cfg.enabled = true ∧ (s.ctx p).linePresent = true then .linked
      else .offline
    (full → exec (.position tag payload) s = .next (s.afterCommand rest [answerTo f (refusedWith .full [])])) ∧
    (¬full →
      ¬((s.ctx p).config.enabled = true ∧ cfg.enabled = false ∧ ((s.ctx p).state = .attached ∨ (s.ctx p).state = .inTransaction)) →
      exec (.position tag payload) s =
        .next
          { s.afterCommand rest [answerTo f [0x00, state.code]] with
            positions := tset s.positions p { s.ctx p with config := cfg, state := state }, nvs := nvs }) ∧
    (¬full → (s.ctx p).config.enabled = true → cfg.enabled = false →
      (s.ctx p).state = .attached ∨ (s.ctx p).state = .inTransaction →
      ∃ u, exec (.position tag payload) s = .next u ∧
        u.ctx p =
          { config := cfg, state := .offline, linePresent := (s.ctx p).linePresent, account := none, key := none,
            transaction := none, completions := [], weigh := none, rating := false } ∧
        ForcedDetached p s u ∧
        u =
          { s.afterCommand rest [answerTo f [0x00, PositionState.offline.code]] with
            positions := u.positions, channels := u.channels, evaluator := u.evaluator, tariffs := u.tariffs, nvs := nvs })

/-- R174, R45, R57: SCALE stores its configuration and resets the channel under it; a WAITING weigh ends with SCALE-OFF. That the response stands before the ATTENTION frame is the model's reading (log 18). -/
def Obligations.ScaleResetsChannel : Prop :=
  ∀ (tag : Byte) (c : ChannelId) (cfg : ScaleConfig) (payload : List Byte) (rest : List Frame) (s : State),
    readScale payload = some (c, cfg) → s.commandWaits ⟨0x08, tag, payload⟩ rest →
    let state : ChannelState := if cfg.enabled = true then .unstable else .off
    let reset : Channel :=
      { config := cfg, state := state, window := [], filtered := none, workingZero := cfg.calibratedZero, reading := none,
        reference := none, spikes := 0, errors := 0, settleTimer := none, weigh := .idle, weighTimer := none }
    let after : State :=
      { s.afterCommand rest [answerTo ⟨0x08, tag, payload⟩ [0x00, state.code]] with
        channels := tset s.channels c reset, nvs := { s.nvs with channels := tset s.nvs.channels c cfg } }
    ((s.channel c).weigh = .idle → (s.channel c).weighTimer = none → exec (.scale tag payload) s = .next after) ∧
    ∀ p k t i, (s.channel c).weigh = .waiting p k → (s.ctx p).state = .inTransaction → (s.ctx p).transaction = some t →
      tget t k = some i → i.state = .weighing →
      exec (.scale tag payload) s = .next (State.withWeighEnd p k t i .scaleOff 0 after)

/-- R164, R156: PRINTER writes the setting; disabling makes the printer OFF, its PRINTING head job waiting again; enabling an OFF printer makes it READY and sends its head job; an enabled printer stays as it is. That the enabled byte is 01H for yes is the model's reading (log 15), and that the response stands before the label frame as well (log 18). -/
def Obligations.PrinterEnablesAndDisables : Prop :=
  ∀ (tag : Byte) (l : PrinterId) (enabled : Bool) (payload : List Byte) (rest : List Frame) (s : State),
    payload = [BitVec.ofNat 8 l.val, boolByte enabled] → s.commandWaits ⟨0x09, tag, payload⟩ rest →
    let pr := s.printer l
    let written (sent : List Byte) (pr' : Printer) : State :=
      { s.afterCommand rest [answerTo ⟨0x09, tag, payload⟩ (0x00 :: sent)] with
        printers := tset s.printers l pr', nvs := { s.nvs with printersEnabled := tset s.nvs.printersEnabled l enabled } }
    (enabled = true → pr.state ≠ .off → exec (.printer tag payload) s = .next (written [pr.state.code] { pr with enabled := true })) ∧
    (enabled = true → pr.state = .off →
      exec (.printer tag payload) s =
        .next (State.withHeadSent l
          (written [if pr.queue = [] then PrinterState.ready.code else PrinterState.printing.code]
            { pr with enabled := true, state := .ready }))) ∧
    (enabled = false → pr.state ≠ .printing →
      exec (.printer tag payload) s = .next (written [PrinterState.off.code] { pr with enabled := false, state := .off })) ∧
    ∀ j others, enabled = false → pr.state = .printing → pr.queue = j :: others →
      exec (.printer tag payload) s =
        .next (State.withHeadReturned l .off j others (written [PrinterState.off.code] { pr with enabled := false }))

/-- R163, R41, R161: REDIRECT: its checks in order; the WAITING jobs of the source join the target's tail in order, both queues are written, each moved job's item is reported QUEUED, which leaves a label that reads QUEUED as it is, and a READY target sends the first. That the response stands before the label frame is the model's reading (log 18). -/
def Obligations.RedirectMovesWaitingJobs : Prop :=
  ∀ (tag : Byte) (source target : PrinterId) (rest : List Frame) (s : State),
    s.commandWaits ⟨0x0A, tag, [BitVec.ofNat 8 source.val, BitVec.ofNat 8 target.val]⟩ rest →
    let payload : List Byte := [BitVec.ofNat 8 source.val, BitVec.ofNat 8 target.val]
    let f : Frame := ⟨0x0A, tag, payload⟩
    let moved := (s.printer source).queue.filter fun j => decide (j.condition = .waiting)
    let kept := (s.printer source).queue.filter fun j => !decide (j.condition = .waiting)
    let queue := (s.printer target).queue ++ moved
    let stored (jobs : List Job) : List Job := jobs.map fun j => { j with condition := .waiting }
    (source = target ∨ (s.printer target).state = .off →
      exec (.redirect tag payload) s = .next (s.afterCommand rest [answerTo f (refusedWith .state [])])) ∧
    (source ≠ target → (s.printer target).state ≠ .off → 16 - (s.printer target).queue.length < moved.length →
      exec (.redirect tag payload) s = .next (s.afterCommand rest [answerTo f (refusedWith .room [])])) ∧
    (source ≠ target → (s.printer target).state ≠ .off → moved.length ≤ 16 - (s.printer target).queue.length →
      let redirected : State :=
        { s.afterCommand rest [answerTo f [0x00, BitVec.ofNat 8 moved.length, BitVec.ofNat 8 queue.length]] with
          printers :=
            tset (tset s.printers source { s.printer source with queue := kept }) target { s.printer target with queue := queue }
          nvs := { s.nvs with queues := tset (tset s.nvs.queues source (stored kept)) target (stored queue) } }
      let reportedQueued := moved.foldl (fun u j => u.withLabel j.position j.itemNumber .queued) redirected
      exec (.redirect tag payload) s =
          .next (if (s.printer target).state = .ready then reportedQueued.withHeadSent target else reportedQueued) ∧
        ∀ p, (∀ k i, s.item p k = some i → ∀ j ∈ moved, j.position = p → i.itemNumber = some j.itemNumber → i.label = .queued) →
          reportedQueued.ctx p = s.ctx p)

/-! ### Accounts, serials and the journal -/

/-- R129, R128: ACCOUNT gives each field a value or keeps it, works the LOW mark out afresh, writes the account and answers it; with KEEP for all three it only reads. -/
def Obligations.AccountSetsFields : Prop :=
  ∀ (tag : Byte) (x : AccountChange) (payload : List Byte) (rest : List Frame) (s : State),
    readAccount payload = some x → s.commandWaits ⟨0x03, tag, payload⟩ rest →
    let a := s.account x.account
    let threshold := x.threshold.getD a.threshold
    let a' : Account :=
      { a with
        key := x.key.getD a.key, status := x.status.getD a.status, threshold := threshold,
        low := decide (a.remaining < threshold) }
    exec (.account tag payload) s =
      .next
        (if x.key = none ∧ x.status = none ∧ x.threshold = none then
          s.afterCommand rest [answerTo ⟨0x03, tag, payload⟩ (0x00 :: a.bytes)]
        else
          { s.afterCommand rest [answerTo ⟨0x03, tag, payload⟩ (0x00 :: a'.bytes)] with
            accounts := tset s.accounts x.account a', nvs := { s.nvs with accounts := tset s.nvs.accounts x.account a' } })

/-- R130, R132: CREDIT: its checks in order; it raises CREDIT-LOADED and REMAINING, works LOW out afresh and appends one CREDIT entry, whose number it answers. -/
def Obligations.CreditChecksAndEffect : Prop :=
  ∀ (tag : Byte) (a : AccountId) (amount : Nat) (payload : List Byte) (rest : List Frame) (s : State),
    1 ≤ amount → amount ≤ 99999999 → payload = BitVec.ofNat 8 a.val :: leBytes 4 amount →
    s.commandWaits ⟨0x04, tag, payload⟩ rest →
    let f : Frame := ⟨0x04, tag, payload⟩
    let x := s.account a
    let low := decide (x.remaining + amount < x.threshold)
    let x' : Account := { x with loaded := x.loaded + amount, remaining := x.remaining + amount, low := low }
    let journal : Journal :=
      { entries := s.journal.entries ++ [{ seq := s.journal.next, time := s.clock.value, account := a, event := .credit amount }]
        next := s.journal.next + 1 }
    exec (.credit tag payload) s =
      .next
        (if s.supply ≠ .normal then s.afterCommand rest [answerTo f (refusedWith .hold [])]
        else if s.clock.valid = false then s.afterCommand rest [answerTo f (refusedWith .state [])]
        else if 2 ^ 47 - 1 < x.loaded + amount then s.afterCommand rest [answerTo f (refusedWith .overflow [])]
        else if 2048 ≤ s.journal.entries.length then s.afterCommand rest [answerTo f (refusedWith .journalFull [])]
        else
          { s.afterCommand rest
              [answerTo f (0x00 :: (leBytes 6 x'.loaded ++ leBytes 6 x'.remaining ++ [boolByte low] ++
                leBytes 4 s.journal.next.toNat))] with
            accounts := tset s.accounts a x', journal := journal
            nvs := { s.nvs with accounts := tset s.nvs.accounts a x', journal := journal } })

/-- R140: BLOCK: malformed figures are refused FORMAT; its checks in order; the block joins the tail, becomes the highest granted, and gives the next serial when the queue was empty. -/
def Obligations.BlockChecksAndEffect : Prop :=
  ∀ (tag : Byte) (first count : Nat) (rest : List Frame) (s : State), first < 2 ^ 32 → count < 2 ^ 32 →
    s.commandWaits ⟨0x05, tag, leBytes 4 first ++ leBytes 4 count⟩ rest →
    let f : Frame := ⟨0x05, tag, leBytes 4 first ++ leBytes 4 count⟩
    let last := first + count - 1
    let al := s.allocator
    let al' : Allocator :=
      { al with
        blocks := al.blocks ++ [⟨first, last⟩], next := if al.blocks = [] then some first else al.next, highest := last }
    exec (.block tag (leBytes 4 first ++ leBytes 4 count)) s =
      .next
        (if first = 0 ∨ 99999999 < first ∨ count = 0 ∨ 1000000 < count then
          s.afterCommand rest [answerTo f (refusedWith .format [])]
        else if first ≤ al.highest then s.afterCommand rest [answerTo f (refusedWith .order [])]
        else if 99999999 < last then s.afterCommand rest [answerTo f (refusedWith .range [])]
        else if 4 ≤ al.blocks.length then s.afterCommand rest [answerTo f (refusedWith .full [])]
        else
          { s.afterCommand rest [answerTo f (0x00 :: leBytes 4 al'.serialsLeft)] with
            allocator := al', nvs := { s.nvs with allocator := al' } })

/-- R149, R145: JOURNAL-RELEASE removes the oldest entries up to the one named, every entry when the number lies after the newest, and none when it lies before the oldest; the next sequence number is kept. The order of the parts of the answer (log 14) and 01H for NEAR-FULL (log 28) are the model's choices. -/
def Obligations.JournalReleaseByDistance : Prop :=
  ∀ (tag b0 b1 b2 b3 : Byte) (rest : List Frame) (s : State), s.commandWaits ⟨0x11, tag, [b0, b1, b2, b3]⟩ rest →
    let j := s.journal
    let distance := match j.entries with | oldest :: _ => ((b3 ++ b2 ++ b1 ++ b0 : Word32) - oldest.seq).toNat | [] => 0
    let removed :=
      if distance < j.entries.length then distance + 1 else if distance < 2 ^ 31 then j.entries.length else 0
    let j' : Journal := { j with entries := j.entries.drop removed }
    exec (.journalRelease tag [b0, b1, b2, b3]) s =
      .next
        { s.afterCommand rest
            [answerTo ⟨0x11, tag, [b0, b1, b2, b3]⟩
              (0x00 :: (leBytes 2 removed ++ leBytes 2 j'.entries.length ++ optBytes 4 (j'.entries.head?.map (·.seq.toNat)) ++
                [boolByte (decide (1920 ≤ j'.entries.length))] ++ leBytes 4 j.next.toNat))] with
          journal := j', nvs := if removed = 0 then s.nvs else { s.nvs with journal := j' } }

/-! ### Tariff loading and changeover -/

/-- R108 to R110, R112: LOAD-BEGIN takes the EMPTY bank, A before B, or is refused NO-BANK; LOAD-PART appends at the bytes received or is refused; LOAD-ABANDON and the idle timer empty the bank. That the idle timer's expiry is a command is the model's choice (log 5). -/
def Obligations.LoadCommandsBuildImage : Prop :=
  (∀ (tag : Byte) (d : LoadDeclaration) (payload : List Byte) (rest : List Frame) (s : State),
    readLoadBegin payload = some d → s.commandWaits ⟨0x0B, tag, payload⟩ rest →
    let f : Frame := ⟨0x0B, tag, payload⟩
    let fresh : Bank :=
      { state := .loading, image := [], tariffId := some d.tariffId, effective := some d.effective, grace := none,
        generation := none, refs := 0, graceTimer := .stopped, declared := some ⟨d.length, d.check⟩, idleTimer := some 60000 }
    exec (.loadBegin tag payload) s =
      .next
        (if (s.bank .A).state = .loading ∨ (s.bank .B).state = .loading ∨
            ((s.bank .A).state ≠ .empty ∧ (s.bank .B).state ≠ .empty) then
          s.afterCommand rest [answerTo f (refusedWith .noBank [])]
        else if (s.bank .A).state = .empty then
          { s.afterCommand rest [answerTo f [0x00, 0x00]] with tariffs := (s.setBank .A fresh).tariffs }
        else { s.afterCommand rest [answerTo f [0x00, 0x01]] with tariffs := (s.setBank .B fresh).tariffs })) ∧
  (∀ (tag o0 o1 : Byte) (part : List Byte) (rest : List Frame) (s : State), 1 ≤ part.length → part.length ≤ 240 →
    s.commandWaits ⟨0x0C, tag, o0 :: o1 :: part⟩ rest →
    let f : Frame := ⟨0x0C, tag, o0 :: o1 :: part⟩
    let offset := o0.toNat + 256 * o1.toNat
    ((∀ b, (s.bank b).state ≠ .loading) →
      exec (.loadPart tag (o0 :: o1 :: part)) s = .next (s.afterCommand rest [answerTo f (refusedWith .state [])])) ∧
    ∀ b d, (s.bank b).state = .loading → (s.bank b.other).state ≠ .loading → (s.bank b).declared = some d →
      let received := (s.bank b).image.length
      exec (.loadPart tag (o0 :: o1 :: part)) s =
        .next
          (if offset ≠ received then s.afterCommand rest [answerTo f (refusedWith .sequence (leBytes 2 received))]
          else if d.length < offset + part.length then
            s.afterCommand rest [answerTo f (refusedWith .length (leBytes 2 received))]
          else
            { s.afterCommand rest [answerTo f (0x00 :: leBytes 2 (received + part.length))] with
              tariffs :=
                (s.setBank b { s.bank b with image := (s.bank b).image ++ part, idleTimer := some 60000 }).tariffs })) ∧
  (∀ (tag : Byte) (b : BankId) (rest : List Frame) (s : State), s.commandWaits ⟨0x0E, tag, [bankCode b]⟩ rest →
    let f : Frame := ⟨0x0E, tag, [bankCode b]⟩
    let emptied := { s.afterCommand rest [answerTo f [0x00]] with tariffs := (s.setBank b .blank).tariffs }
    exec (.loadAbandon tag [bankCode b]) s =
      .next
        (match (s.bank b).state with
        | .loading => emptied
        | .loaded => emptied.withBanksStored
        | .empty => s.afterCommand rest [answerTo f [0x00]]
        | .active => s.afterCommand rest [answerTo f (refusedWith .state [])]
        | .retiring => s.afterCommand rest [answerTo f (refusedWith .state [])])) ∧
  ∀ (b : BankId) (s : State), s.power = .running → (s.bank b).state = .loading → (s.bank b).idleTimer.isSome = true →
    exec (.loadIdleTimeout b) s = .next { s with tariffs := (s.setBank b .blank).tariffs, sent := [] }

/-- R111, R107, R74, R75: LOAD-END without a LOADING bank is refused STATE; an image that fails is refused with the reason of the first check that fails and the locator of the first part found failing it, and its bank becomes EMPTY; an image that passes the nine checks gives its bank the header's fields and the next generation, and is activated at once when due. That the locator's prefix is a number, low byte first, is the model's choice (log 27). -/
def Obligations.LoadEndValidates : Prop :=
  ∀ (tag : Byte) (rest : List Frame) (s : State), s.commandWaits ⟨0x0D, tag, []⟩ rest →
    let f : Frame := ⟨0x0D, tag, []⟩
    ((∀ b, (s.bank b).state ≠ .loading) →
      exec (.loadEnd tag []) s = .next (s.afterCommand rest [answerTo f (refusedWith .state [])])) ∧
    ∀ b d, (s.bank b).state = .loading → (s.bank b.other).state ≠ .loading → (s.bank b).declared = some d →
      let bk := s.bank b
      let g := s.tariffs.counter + 1
      let effective : Word32 := BitVec.ofNat 32 (numAt bk.image 4 4)
      let loaded : Bank :=
        { bk with
          state := .loaded, tariffId := some (BitVec.ofNat 32 (numAt bk.image 0 4)), effective := some effective,
          grace := some (byteAt bk.image 10), generation := some g, declared := none, idleTimer := none }
      let due := s.clock.valid = true ∧ effective.toNat ≤ s.clock.value.toNat
      let after : State :=
        State.withBanksStored
          { s.afterCommand rest [answerTo f (0x00 :: bankCode b :: leBytes 2 g.toNat ++ [boolByte (decide due)])] with
            tariffs := { (s.setBank b loaded).tariffs with counter := g, lastLoaded := some b } }
      exec (.loadEnd tag []) s =
        .next
          (match firstFailure bk d s.allocator.officeCode with
          | some (check, part) =>
            let reason : OfficeReason := if check = 2 then .check else if check = 3 then .office else .structureFault
            { s.afterCommand rest [answerTo f (refusedWith reason (locatorBytes check part))] with
              tariffs := (s.setBank b .blank).tariffs }
          | none => if due then after.withActivation b else after)

/-- R115, R114: ACTIVATE of a LOADED bank makes it ACTIVE and treats the other by its state (with the grace of the image coming into force, expired in the same event when it is 0); any other bank is refused STATE. A bank superseded while RETIRING or LOADING, which no run reaches in the first case, stays as it is (log 20). -/
def Obligations.ActivateSupersedes : Prop :=
  ∀ (tag : Byte) (b : BankId) (rest : List Frame) (s : State), s.commandWaits ⟨0x0F, tag, [bankCode b]⟩ rest →
    let f : Frame := ⟨0x0F, tag, [bankCode b]⟩
    ((s.bank b).state ≠ .loaded →
      exec (.activate tag [bankCode b]) s = .next (s.afterCommand rest [answerTo f (refusedWith .state [])])) ∧
    ∀ g e, (s.bank b).state = .loaded → (s.bank b).grace = some g → (s.bank b).effective = some e →
      let old := s.bank b.other
      let after (other : Bank) : State :=
        State.withBanksStored
          { s.afterCommand rest [answerTo f [0x00]] with
            tariffs := ((s.setBank b { s.bank b with state := .active }).setBank b.other other).tariffs }
      (old.state = .active → 0 < old.refs →
        exec (.activate tag [bankCode b]) s =
          .next
            (if g = 0 then (after { old with state := .retiring, graceTimer := .running 0 }).withGraceExpired b.other
            else after { old with state := .retiring, graceTimer := .running (60 * g) })) ∧
      (old.state = .active → old.refs = 0 → exec (.activate tag [bankCode b]) s = .next (after .blank)) ∧
      (∀ e', old.state = .loaded → old.effective = some e' →
        exec (.activate tag [bankCode b]) s = .next (after (if e'.toNat ≤ e.toNat then .blank else old))) ∧
      (old.state = .empty ∨ old.state = .loading ∨ old.state = .retiring →
        exec (.activate tag [bankCode b]) s = .next (after old))

/-- R170, R176, R113, R118, R119, R38, R104: a tick advances the clock, and without supply and while restarting does nothing else; while the module runs it counts the grace of each RETIRING bank down, and leaves one that is stopped or expired, and with the clock valid activates the bank that has come due, of two the one with the later effective time and of two equal ones the last-loaded; the grace that a tick brings to 0 expires in its event; and a grace expiry makes the bank's quotes STALE, gives their references back and marks the evaluation on it RE-RATE. That GRACE_EXPIRY acts whatever seconds are left is the model's choice (log 7), as is what it does where no run reaches, a grace that runs with no second left or a RETIRING bank beside a LOADED or RETIRING one (log 20); that a tick is taken while restarting is its reading (log 8). -/
def Obligations.TickAndGraceExpiry : Prop :=
  (∀ s : State, s.power ≠ .running →
    exec .tick s = .next { s with clock := { s.clock with value := s.clock.value + 1 }, sent := [] }) ∧
  (∀ s : State, s.power = .running →
    let now : Word32 := s.clock.value + 1
    let due (b : BankId) : Prop :=
      s.clock.valid = true ∧ (s.bank b).state = .loaded ∧ ∃ e, (s.bank b).effective = some e ∧ e.toNat ≤ now.toNat
    let counted (b : BankId) (x : State) : State :=
      if (s.bank b).state = .retiring then
        match (s.bank b).graceTimer with
        | .running n =>
          if n ≤ 1 then x.withGraceExpired b
          else { x with tariffs := (x.setBank b { s.bank b with graceTimer := .running (n - 1) }).tariffs }
        | .stopped => x
        | .expired => x
      else x
    let ticked : State := counted .B (counted .A { s with clock := { s.clock with value := now }, sent := [] })
    ((∀ b, ¬due b) → exec .tick s = .next ticked) ∧
    (∀ b, due b → ¬due b.other → exec .tick s = .next (ticked.withActivation b)) ∧
    ∀ a b l, due .A → due .B → (s.bank .A).effective = some a → (s.bank .B).effective = some b →
      s.tariffs.lastLoaded = some l →
      exec .tick s =
        .next (ticked.withActivation (if b.toNat < a.toNat then .A else if a.toNat < b.toNat then .B else l))) ∧
  ∀ (b : BankId) (n : Nat) (g : Word16) (s : State), s.power = .running → (s.bank b).state = .retiring →
    (s.bank b).graceTimer = .running n → (s.bank b).generation = some g →
    let hit (i : Item) : Prop := i.state = .quoted ∧ ∃ q, i.quote = some q ∧ q.bank = b ∧ q.generation = g
    ∃ u, u = State.withGraceExpired b { s with sent := [] } ∧ exec (.graceExpiry b) s = .next u ∧
      (∀ p k i, s.item p k = some i → hit i →
        u.item p k = some { i with state := .stale, quote := i.quote.map fun q => { q with stale := true } }) ∧
      (∀ p k i, s.item p k = some i → ¬hit i → u.item p k = some i) ∧
      (∀ p k, s.item p k = none → u.item p k = none) ∧
      (∀ p, ({ u.ctx p with transaction := none } : PositionContext) = { s.ctx p with transaction := none }) ∧
      u.bank b.other = s.bank b.other ∧ u.tariffs.counter = s.tariffs.counter ∧
      u.tariffs.lastLoaded = s.tariffs.lastLoaded ∧
      u = { s with positions := u.positions, tariffs := u.tariffs, evaluator := u.evaluator, sent := [] }

/-! ### Printers -/

/-- R157, R181: a DONE with the printer's send number ends the print: the head job leaves the queue, the count falls, the label is PRINTED, the LABEL-DONE is queued for an attached position, and the next head is sent; any other DONE is ignored, and a DONE frame whose check byte does not match is discarded, the line looking for a sync byte from the byte after its sync. Noise and discarded frames may come before the answer. The receive buffer of the printer line is the model's reading of R181 (log 23). -/
def Obligations.PrinterDoneEndsJob : Prop :=
  ∀ (l : PrinterId) (noise : List Byte) (n reason : Byte) (s : State), s.power = .running → s.answersQuiet l noise →
    let pr := s.printer l
    (∀ check, check ≠ 0x01 ^^^ n ^^^ reason →
      exec (.printerDone l noise n reason check) s =
        .next { s with
          printerLines := tset s.printerLines l ([0x01, n, reason, check].dropWhile fun b => decide (b ≠ 0x69)), sent := [] }) ∧
    (¬(pr.state = .printing ∧ pr.sendNumber = n) →
      exec (.printerDone l noise n reason (0x01 ^^^ n ^^^ reason)) s =
        .next { s with printerLines := tset s.printerLines l [], sent := [] }) ∧
    ∀ j others, pr.state = .printing → pr.sendNumber = n → pr.queue = j :: others →
      let taken : State :=
        State.withLabel j.position j.itemNumber .printed
          { s with
            printers := tset s.printers l { pr with state := .ready, queue := others, timer := none }
            labelCounts := tset s.labelCounts j.position (tget s.labelCounts j.position - 1)
            nvs := { s.nvs with queues := tset s.nvs.queues l (others.map Job.stored) }
            printerLines := tset s.printerLines l [], sent := [] }
      exec (.printerDone l noise n reason (0x01 ^^^ n ^^^ reason)) s =
        .next (State.withHeadSent l
          (if (s.ctx j.position).state = .attached ∨ (s.ctx j.position).state = .inTransaction then
            taken.withRecord j.position (taken.ctx j.position) (.labelDone j.slot j.itemNumber l)
          else taken))

/-- R158, R159, R160, R181: a FAULT, a READY and the print timeout, by the printer's state; a FAULT or READY frame whose check byte does not match, or a FAULT with a reason other than MEDIA, JAM and HEAD, is discarded, the line looking for a sync byte from the byte after its sync. Noise and discarded frames may come before the answer. The receive buffer of the printer line is the model's reading of R181 (log 23); that the timeout is a command is its choice (log 5). -/
def Obligations.PrinterFaultReadyTimeout : Prop :=
  (∀ (l : PrinterId) (noise : List Byte) (code n reason check : Byte) (s : State), s.power = .running →
    s.answersQuiet l noise → AnswerDiscarded code n reason check →
    let discarded : Host.Outcome State Fault Refusal :=
      .next { s with
        printerLines := tset s.printerLines l ([code, n, reason, check].dropWhile fun b => decide (b ≠ 0x69)), sent := [] }
    (code = 0x02 → exec (.printerFault l noise n reason check) s = discarded) ∧
      (code = 0x03 → exec (.printerReady l noise n reason check) s = discarded)) ∧
  (∀ (l : PrinterId) (noise : List Byte) (n code : Byte) (reason : FaultReason) (s : State), s.power = .running →
    s.answersQuiet l noise →
    (code = 0x01 ∧ reason = .media) ∨ (code = 0x02 ∧ reason = .jam) ∨ (code = 0x03 ∧ reason = .head) →
    let pr := s.printer l
    let heard := { s with printerLines := tset s.printerLines l [], sent := [] }
    (pr.state = .ready ∨ (∃ r, pr.state = .faulted r) →
      exec (.printerFault l noise n code (0x02 ^^^ n ^^^ code)) s =
        .next { heard with printers := tset s.printers l { pr with state := .faulted reason } }) ∧
    (pr.state = .off ∨ (pr.state = .printing ∧ pr.sendNumber ≠ n) →
      exec (.printerFault l noise n code (0x02 ^^^ n ^^^ code)) s = .next heard) ∧
    ∀ j others, pr.state = .printing → pr.sendNumber = n → pr.queue = j :: others →
      exec (.printerFault l noise n code (0x02 ^^^ n ^^^ code)) s =
        .next (State.withHeadReturned l (.faulted reason) j others heard)) ∧
  (∀ (l : PrinterId) (noise : List Byte) (n reason : Byte) (s : State), s.power = .running → s.answersQuiet l noise →
    let pr := s.printer l
    let heard := { s with printerLines := tset s.printerLines l [], sent := [] }
    (pr.state = .ready ∨ pr.state = .off →
      exec (.printerReady l noise n reason (0x03 ^^^ n ^^^ reason)) s = .next heard) ∧
    ((∃ r, pr.state = .faulted r) →
      exec (.printerReady l noise n reason (0x03 ^^^ n ^^^ reason)) s =
        .next (State.withHeadSent l { heard with printers := tset s.printers l { pr with state := .ready } })) ∧
    ∀ j others, pr.state = .printing → pr.queue = j :: others →
      exec (.printerReady l noise n reason (0x03 ^^^ n ^^^ reason)) s =
        .next (State.withHeadSent l (State.withHeadReturned l .ready j others heard))) ∧
  ∀ (l : PrinterId) (j : Job) (others : List Job) (s : State), s.power = .running → (s.printer l).state = .printing →
    (s.printer l).timer.isSome = true → (s.printer l).queue = j :: others →
    exec (.printTimeout l) s = .next (State.withHeadReturned l (.faulted .timeout) j others { s with sent := [] })

/-! ### Restart and supply -/

/-- R176, R177, R165, R123, R161, R44: RESTART is answered DONE with KEEP, with the code held, or with the first code, which it stores, and refused STATE with another. From the DONE on the ports hold nothing, and until the rebuilding, and without supply, no command changes anything: no frame is taken or held, no sample, printer answer or timer reaches a block; but for the supply's own commands and the clock of TICK (O46, O50). The rebuilding makes every block from what is stored, the banks, the channels, the printer queues with their print attempts and the label counts among them, keeps the store, the clock and the supply monitor, and then sends the head jobs. That RESTART with KEEP reads five bytes all the same is the model's reading (log 16), as is what waits, and that a line is not noted, while restarting (log 8); the order of the sends among the printers (log 25), and that RESTART_REBUILD without a restart changes nothing (log 2), are its choice. -/
def Obligations.RestartRebuildsFromStore : Prop :=
  (∀ (tag : Byte) (code : Option Nat) (payload : List Byte) (rest : List Frame) (s : State),
    readRestart payload = some code → s.commandWaits ⟨0x12, tag, payload⟩ rest →
    let f : Frame := ⟨0x12, tag, payload⟩
    let quiet : Port := { held := [], rx := [] }
    let restarting : State :=
      { s with power := .restarting, ports := Vector.replicate 16 quiet, officePort := quiet, sent := [answerTo f [0x00]] }
    (code = none ∨ code = s.allocator.officeCode → exec (.restart tag payload) s = .next restarting) ∧
    (∀ x, code = some x → s.allocator.officeCode = none →
      let al : Allocator := { s.allocator with officeCode := some x }
      exec (.restart tag payload) s = .next { restarting with allocator := al, nvs := { s.nvs with allocator := al } }) ∧
    (∀ x y, code = some x → s.allocator.officeCode = some y → x ≠ y →
      exec (.restart tag payload) s = .next (s.afterCommand rest [answerTo f (refusedWith .state [])]))) ∧
  (∀ s : State, s.power = .restarting →
    exec .restartRebuild s = .next (State.withHeadsSent { s.fromStore with power := .running, sent := [] })) ∧
  (∀ s : State, s.power ≠ .restarting → exec .restartRebuild s = .next { s with sent := [] }) ∧
  ∀ (c : Instr) (s : State), s.power ≠ .running → (∀ kept, c ≠ .powerOn kept) → c ≠ .supplyFailure →
    (∀ microvolts, c ≠ .supplySample microvolts) → c ≠ .restartRebuild → c ≠ .tick → exec c s = .next { s with sent := [] }

/-- R170, R131, R133, R177, R165: a power-on makes every block from what is stored, with the supply monitor NORMAL and the clock by its cell's report, and then sends the head jobs; a supply failure leaves what is stored and the clock, and nothing else of what the blocks held; a supply sample below 4.60 V enters HOLD and one above 4.75 V leaves it, and without supply none is taken. That a power-on needs no failure before it (log 9), that the store is whole at every failure (log 22), that a sample is taken while restarting too (log 8), the unit of the samples (log 21) and the order of the sends among the printers (log 25) are the model's. -/
def Obligations.PowerAndSupply : Prop :=
  (∀ (kept : Bool) (s : State),
    exec (.powerOn kept) s =
      .next (State.withHeadsSent
        { s.fromStore with
          power := .running, supply := .normal, clock := if kept = true then s.clock else { value := 0, valid := false }
          sent := [] })) ∧
  (∀ s : State, exec .supplyFailure s = .next { s.fromStore with power := .off, sent := [] }) ∧
  (∀ (microvolts : Nat) (s : State), s.power = .off → exec (.supplySample microvolts) s = .next { s with sent := [] }) ∧
  ∀ (microvolts : Nat) (s : State), s.power ≠ .off →
    exec (.supplySample microvolts) s =
      .next
        { s with
          supply :=
            if s.supply = .normal ∧ microvolts < 4600000 then .hold
            else if s.supply = .hold ∧ 4750000 < microvolts then .normal
            else s.supply
          sent := [] }

/-! ### Invariants -/

/-- R127, R128: every step keeps the identity and the bounds of the registers, the LOW mark, and REFUNDED with what may still be refunded at most ISSUED. -/
def Obligations.AccountsStaySound : Prop :=
  ∀ s u : State, ContextsLegal s → StoreMatches s → AccountsSound s → step s = .next u → AccountsSound u

/-- R143, R145, R139, R141: every step keeps the journal's numbers consecutive and its entries at most 2,048, and the allocator's blocks in order with the next serial in the head block. -/
def Obligations.JournalAndSerialsStaySound : Prop :=
  ∀ s u : State, JournalSound s → AllocatorSound s → step s = .next u → JournalSound u ∧ AllocatorSound u

/-- R177, R124, R133, R151, R165: after every step the store holds what its owners hold. -/
def Obligations.StoreStaysCurrent : Prop :=
  ∀ s u : State, StoreMatches s → step s = .next u → StoreMatches u

/-- R1, R23, R6, R168: every step keeps the contexts' fields absent where R1 says, and the ports within their room. -/
def Obligations.ContextsStayLegal : Prop :=
  ∀ s u : State, ContextsLegal s → step s = .next u → ContextsLegal u

/-- R17, R18, R61, R78, R161: every step keeps every budget total at most 8 and label count at most 4, the spool's counts true, one channel to a weigh and one place in the rating work to a position. -/
def Obligations.BudgetsStayBounded : Prop :=
  ∀ s u : State, ContextsLegal s → StoreMatches s → WorkCounted s → step s = .next u → WorkCounted u

/-- R116, R106: every step keeps each bank's reference count equal to the QUOTED items and evaluations on it. -/
def Obligations.ReferencesStayCounted : Prop :=
  ∀ s u : State, ContextsLegal s → StoreMatches s → WorkCounted s → ReferencesCounted s → step s = .next u →
    ReferencesCounted u

/-- R44, R47 to R53, R58: every step keeps every channel as the table of R44 says. -/
def Obligations.ChannelsStaySound : Prop :=
  ∀ s u : State, ChannelsSound s → step s = .next u → ChannelsSound u

/-- R94: every step keeps the accumulator of an evaluation within ±(2^47 − 1). -/
def Obligations.AccumulatorStaysBounded : Prop :=
  ∀ s u : State, AccumulatorBounded s → step s = .next u → AccumulatorBounded u

/-- R153, R154, R156, R160: every step keeps every printer's state, timer and queue in step with each other. -/
def Obligations.PrintersStaySound : Prop :=
  ∀ s u : State, StoreMatches s → PrintersSound s → step s = .next u → PrintersSound u

/-- R177, R1, R44, R105, R126, R139, R143, R153, R170: right after reset every invariant holds, every position, channel and printer is disabled, every account BLOCKED, the banks and the journal empty, and no command waits. That reset is a new module's first power-on is the model's choice (log 10). -/
def Obligations.ResetMeetsInvariants : Prop :=
  AccountsSound State.reset ∧ JournalSound State.reset ∧ AllocatorSound State.reset ∧ StoreMatches State.reset ∧
    ContextsLegal State.reset ∧ WorkCounted State.reset ∧ ReferencesCounted State.reset ∧ ChannelsSound State.reset ∧
    AccumulatorBounded State.reset ∧ PrintersSound State.reset ∧ State.reset.pending = [] ∧
    (∀ p, (State.reset.ctx p).config.enabled = false ∧ (State.reset.ctx p).state = .offline) ∧
    (∀ c, (State.reset.channel c).state = .off) ∧ (∀ l, (State.reset.printer l).state = .off) ∧
    (∀ a, (State.reset.account a).status = .blocked ∧ (State.reset.account a).remaining = 0) ∧
    (∀ b, (State.reset.bank b).state = .empty) ∧ State.reset.journal.entries = [] ∧ State.reset.journal.next = 1 ∧
    State.reset.allocator.officeCode = none ∧ State.reset.supply = .normal
end

