-- ==== Sys2Proof/Laws/Lines.lean ====
section
/-! SUPPORT. What the ports and lines find in their bytes (R179, R180, R181): on a port, what `FramesFound` says; on a line, bytes before the first sync byte are dropped, a discarded answer frame is passed over, and bytes too few for a frame are kept from their first sync byte on. -/

namespace Sys2Proof.Machine

/-! ### Ports -/

/-- The two length bytes of a frame, and the number they spell. -/
theorem leBytes_two (v : Nat) (h : v < 65536) : ∃ l0 l1 : Byte, leBytes 2 v = [l0, l1] ∧ l0.toNat + 256 * l1.toNat = v := by
  refine ⟨_, _, rfl, ?_⟩
  simp only [BitVec.toNat_ofNat]
  omega

/-- R179: a whole frame is received, and the search goes on behind it. -/
theorem scanFrames_frame (sync : Byte) (f : Frame) (more : List Byte) (h : f.payload.length ≤ 1022) (n : Nat)
    (hn : (f.wire sync ++ more).length ≤ n) :
    ∃ m, more.length ≤ m ∧
      scanFrames sync n (f.wire sync ++ more) = (f :: (scanFrames sync m more).1, (scanFrames sync m more).2) := by
  obtain ⟨code, tag, payload⟩ := f
  simp only at h
  cases n with
  | zero => simp [Frame.wire] at hn
  | succ n =>
    refine ⟨n, by simp [Frame.wire] at hn; omega, ?_⟩
    obtain ⟨l0, l1, hl, hv⟩ := leBytes_two (2 + payload.length) (by omega)
    have hb : (Frame.mk code tag payload).body = l0 :: l1 :: code :: tag :: payload := by simp only [Frame.body, hl]; rfl
    unfold Frame.wire
    rw [hb]
    have hc : (crc16Bytes (l0 :: l1 :: code :: tag :: payload)).length = 2 := rfl
    generalize hk : crc16Bytes (l0 :: l1 :: code :: tag :: payload) = check at hc
    simp only [List.cons_append, scanFrames, ne_eq, not_true_eq_false, if_false, hv]
    rw [if_neg (by omega), if_neg (by simp [hc]; omega)]
    have h1 : (code :: tag :: (payload ++ check ++ more)).take (2 + payload.length) = code :: tag :: payload := by
      rw [Nat.add_comm]; simp
    have h2 : ((code :: tag :: (payload ++ check ++ more)).drop (2 + payload.length)).take 2 = check := by
      rw [Nat.add_comm]; simp [hc]
    have h3 : (code :: tag :: (payload ++ check ++ more)).drop (2 + payload.length + 2) = more := by
      rw [show 2 + payload.length + 2 = payload.length + 2 + 2 from by omega]; simp [hc]
    rw [h1, h2, h3, hk, if_pos rfl]

/-- R179: what is found in the bytes is what the port's scan answers. -/
theorem FramesFound.scan {sync : Byte} {bytes tail : List Byte} {frames : List Frame} (h : FramesFound sync bytes frames tail) :
    ∀ n, bytes.length ≤ n → scanFrames sync n bytes = (frames, tail) := by
  induction h with
  | nothing => intro n _; cases n <;> rfl
  | noise b bytes frames tail hb _ ih =>
    intro n hn
    cases n with
    | zero => simp at hn
    | succ n => exact (if_pos hb).trans (ih n (by simpa using hn))
  | lengthAwaited few hf =>
    intro n hn
    cases n with
    | zero => simp at hn
    | succ n =>
      match few, hf with
      | [], _ | [_], _ => simp [scanFrames]
  | restAwaited l0 l1 few h1 h2 h3 =>
    intro n hn
    cases n with
    | zero => simp at hn
    | succ n =>
      simp only [scanFrames, ne_eq, not_true_eq_false, if_false]
      exact (if_neg (not_or.mpr ⟨Nat.not_lt.mpr h1, Nat.not_lt.mpr h2⟩)).trans (if_pos h3)
  | badLength l0 l1 more frames tail hl _ ih =>
    intro n hn
    cases n with
    | zero => simp at hn
    | succ n =>
      simp only [scanFrames, ne_eq, not_true_eq_false, if_false]
      exact (if_pos hl).trans (ih n (by simpa using hn))
  | badCheck l0 l1 content check more frames tail h1 h2 h3 h4 h5 _ ih =>
    intro n hn
    cases n with
    | zero => simp at hn
    | succ n =>
      change 2 ≤ l0.toNat + 256 * l1.toNat at h1
      change l0.toNat + 256 * l1.toNat ≤ 1024 at h2
      change content.length = l0.toNat + 256 * l1.toNat at h3
      simp only [scanFrames, ne_eq, not_true_eq_false, if_false]
      rw [if_neg (by omega), if_neg (by simp; omega)]
      have e1 : (content ++ check ++ more).take (l0.toNat + 256 * l1.toNat) = content := by rw [← h3]; simp
      have e2 : ((content ++ check ++ more).drop (l0.toNat + 256 * l1.toNat)).take 2 = check := by rw [← h3]; simp [h4]
      rw [e1, e2, if_neg fun x => h5 x.symm]
      exact ih n (by simpa using hn)
  | received f more frames tail hf _ ih =>
    intro n hn
    obtain ⟨m, hm, e⟩ := scanFrames_frame sync f more hf n hn
    rw [e, ih m hm]

/-- R6, R168: what a port holds after bytes have arrived, by what is found in them. -/
theorem Port.receive_found {sync : Byte} {bytes tail : List Byte} {frames : List Frame} {port : Port} (room : Nat)
    (h : FramesFound sync (port.rx ++ bytes) frames tail) :
    port.receive sync room bytes = { held := port.held ++ frames.take (room - port.held.length), rx := tail } := by
  simp only [Port.receive, h.scan _ (Nat.le_refl _)]

/-! ### Scale lines -/

/-- R180: a byte that is not the sync byte is dropped. -/
theorem scanSamples_skip (n : Nat) (b : Byte) (rest : List Byte) (h : b ≠ 0xC3) : scanSamples (n + 1) (b :: rest) = scanSamples n rest := by
  simp only [scanSamples, h, ne_eq, not_false_eq_true, if_true]

/-- R180: bytes none of which is a sync byte are dropped. -/
theorem scanSamples_noise (noise rest : List Byte) (n : Nat) (h : ∀ b ∈ noise, b ≠ 0xC3) :
    scanSamples (noise.length + n) (noise ++ rest) = scanSamples n rest := by
  induction noise with
  | nil => simp
  | cons b bs ih =>
    rw [List.length_cons, Nat.add_right_comm, List.cons_append, scanSamples_skip _ _ _ (h b List.mem_cons_self),
      ih fun x hx => h x (List.mem_cons_of_mem _ hx)]

/-- R180: fewer bytes than a frame has hold no sample, and are kept from their first sync byte on. -/
theorem scanSamples_short (n : Nat) (bytes : List Byte) (hn : bytes.length ≤ n) (hb : bytes.length ≤ 5) :
    scanSamples n bytes = ([], bytes.dropWhile fun b => decide (b ≠ 0xC3)) := by
  induction bytes generalizing n with
  | nil => cases n <;> rfl
  | cons b bs ih =>
    obtain ⟨n, rfl⟩ := Nat.exists_eq_succ_of_ne_zero (Nat.ne_of_gt (Nat.lt_of_lt_of_le (Nat.succ_pos _) hn))
    simp only [List.length_cons] at hn hb
    by_cases hs : b = 0xC3
    · subst hs
      match bs, hb with
      | [], _ | [_], _ | [_, _], _ | [_, _, _], _ | [_, _, _, _], _ => rfl
    · rw [scanSamples_skip _ _ _ hs, ih n (by omega) (by omega), List.dropWhile_cons_of_pos (by simpa using hs)]

/-! ### Printer lines -/

/-- R181: a byte that is not the sync byte is dropped. -/
theorem scanAnswers_skip (n : Nat) (b : Byte) (rest : List Byte) (h : b ≠ 0x69) : scanAnswers (n + 1) (b :: rest) = scanAnswers n rest := by
  simp only [scanAnswers, h, ne_eq, not_false_eq_true, if_true]

/-- R181: bytes none of which is a sync byte are dropped. -/
theorem scanAnswers_noise (noise rest : List Byte) (n : Nat) (h : ∀ b ∈ noise, b ≠ 0x69) :
    scanAnswers (noise.length + n) (noise ++ rest) = scanAnswers n rest := by
  induction noise with
  | nil => simp
  | cons b bs ih =>
    rw [List.length_cons, Nat.add_right_comm, List.cons_append, scanAnswers_skip _ _ _ (h b List.mem_cons_self),
      ih fun x hx => h x (List.mem_cons_of_mem _ hx)]

/-- R181: fewer bytes than a frame has hold no answer, and are kept from their first sync byte on. -/
theorem scanAnswers_short (n : Nat) (bytes : List Byte) (hn : bytes.length ≤ n) (hb : bytes.length ≤ 4) :
    scanAnswers n bytes = ([], bytes.dropWhile fun b => decide (b ≠ 0x69)) := by
  induction bytes generalizing n with
  | nil => cases n <;> rfl
  | cons b bs ih =>
    obtain ⟨n, rfl⟩ := Nat.exists_eq_succ_of_ne_zero (Nat.ne_of_gt (Nat.lt_of_lt_of_le (Nat.succ_pos _) hn))
    simp only [List.length_cons] at hn hb
    by_cases hs : b = 0x69
    · subst hs
      match bs, hb with
      | [], _ | [_], _ | [_, _], _ | [_, _, _], _ => rfl
    · rw [scanAnswers_skip _ _ _ hs, ih n (by omega) (by omega), List.dropWhile_cons_of_pos (by simpa using hs)]

/-- R181: no answer is read from an unknown code, or from a FAULT with another reason. -/
theorem readAnswer_none (code sendNumber reason : Byte)
    (h : ¬(1 ≤ code.toNat ∧ code.toNat ≤ 3) ∨ code = 0x02 ∧ ¬(1 ≤ reason.toNat ∧ reason.toNat ≤ 3)) :
    readAnswer code sendNumber reason = none := by
  unfold readAnswer
  rcases h with h | ⟨rfl, h⟩
  · rw [if_neg (by rintro rfl; exact h (by decide)), if_neg (by rintro rfl; exact h (by decide)),
      if_neg (by rintro rfl; exact h (by decide))]
  · rw [if_neg (by decide), if_pos rfl, if_neg (by rintro rfl; exact h (by decide)),
      if_neg (by rintro rfl; exact h (by decide)), if_neg (by rintro rfl; exact h (by decide))]

/-- R181: after a discarded frame the line looks for a sync byte from the byte after its sync. -/
theorem scanAnswers_discarded (code sendNumber reason check : Byte) (rest : List Byte) (n : Nat)
    (h : AnswerDiscarded code sendNumber reason check) :
    scanAnswers (n + 1) (0x69 :: code :: sendNumber :: reason :: check :: rest) =
      scanAnswers n (code :: sendNumber :: reason :: check :: rest) := by
  have hx : xorBytes [code, sendNumber, reason] = code ^^^ sendNumber ^^^ reason := by simp [xorBytes]
  simp only [scanAnswers, ne_eq, not_true_eq_false, if_false, hx]
  rcases h with h | h
  · rw [if_neg h]
  · rw [readAnswer_none _ _ _ h, ite_self]

/-- R181: bytes that hold no answer are dropped, whatever follows them. -/
theorem NoAnswer.scan {bytes : List Byte} (h : NoAnswer bytes) (rest : List Byte) (n : Nat) :
    scanAnswers (bytes.length + n) (bytes ++ rest) = scanAnswers n rest := by
  rcases h with h | ⟨code, sendNumber, reason, check, rfl, hd, hb⟩
  · exact scanAnswers_noise bytes rest n h
  · rw [show [0x69, code, sendNumber, reason, check].length + n = [code, sendNumber, reason, check].length + n + 1 from by
      simp only [List.length_cons, List.length_nil]; omega]
    exact (scanAnswers_discarded _ _ _ _ _ _ hd).trans (scanAnswers_noise _ rest n hb)

/-- R181: the same for pieces one after the other. -/
theorem scanAnswers_quiet (pieces : List (List Byte)) (rest : List Byte) (n : Nat) (h : ∀ x ∈ pieces, NoAnswer x) :
    scanAnswers (pieces.flatten.length + n) (pieces.flatten ++ rest) = scanAnswers n rest := by
  induction pieces with
  | nil => simp
  | cons x xs ih =>
    rw [List.flatten_cons, List.length_append, List.append_assoc, Nat.add_assoc, (h x List.mem_cons_self).scan,
      ih fun y hy => h y (List.mem_cons_of_mem _ hy)]

/-- R181: what a printer does with an answer frame behind bytes that hold no answer: the spool takes what the frame alone gives, and the line keeps what the frame alone leaves. -/
theorem State.receiveAnswers_quiet (l : PrinterId) (noise frame : List Byte) (s : State) (h : s.answersQuiet l noise) :
    s.receiveAnswers l (noise ++ frame) =
      (scanAnswers frame.length frame).1.foldl (State.takePrinterAnswer l)
        { s with printerLines := tset s.printerLines l (scanAnswers frame.length frame).2 } := by
  obtain ⟨pieces, hp, hq⟩ := h
  simp only [State.receiveAnswers, ← List.append_assoc, hp, List.length_append, scanAnswers_quiet pieces _ _ hq]

/-- R180: what a channel does with a sample frame behind noise. -/
theorem State.receiveSamples_noise (c : ChannelId) (bytes noise frame : List Byte) (s : State)
    (h : tget s.scaleLines c ++ bytes = noise ++ frame) (hn : ∀ b ∈ noise, b ≠ 0xC3) :
    s.receiveSamples c bytes =
      (scanSamples frame.length frame).1.foldl (State.takeArrival c)
        { s with scaleLines := tset s.scaleLines c (scanSamples frame.length frame).2 } := by
  simp only [State.receiveSamples, h, List.length_append, scanSamples_noise noise _ _ hn]

end Sys2Proof.Machine
end

