-- ==== Sys2Proof/Laws/Tables.lean ====
section
/-! SUPPORT. Reading and writing a table (R1, R44, R126, R153 keep their records in tables): a read after a write gives the value written, a write leaves every other entry alone, and a table is known by its entries. -/

namespace Sys2Proof

@[simp] theorem tget_tset_self {α : Type} {n : Nat} (v : Vector α n) (i : Fin n) (x : α) : tget (tset v i x) i = x := by
  simp [tget, tset]

theorem tget_tset_ne {α : Type} {n : Nat} (v : Vector α n) (i j : Fin n) (x : α) (h : j ≠ i) :
    tget (tset v i x) j = tget v j := by
  have h' : i.val ≠ j.val := fun e => h (Fin.ext e.symm)
  simp [tget, tset, h']

theorem tget_tset {α : Type} {n : Nat} (v : Vector α n) (i j : Fin n) (x : α) :
    tget (tset v i x) j = if j = i then x else tget v j := by
  split
  · next h => rw [h, tget_tset_self]
  · next h => exact tget_tset_ne v i j x h

@[simp] theorem tget_tbuild {α : Type} {n : Nat} (f : Fin n → α) (i : Fin n) : tget (tbuild n f) i = f i := by
  simp [tget, tbuild]

@[simp] theorem tget_replicate {α : Type} {n : Nat} (x : α) (i : Fin n) : tget (Vector.replicate n x) i = x := by
  simp [tget]

theorem table_ext {α : Type} {n : Nat} {v w : Vector α n} (h : ∀ i, tget v i = tget w i) : v = w := by
  ext i hi
  exact h ⟨i, hi⟩

@[simp] theorem tset_tset {α : Type} {n : Nat} (v : Vector α n) (i : Fin n) (x y : α) : tset (tset v i x) i y = tset v i y := by
  apply table_ext
  intro j
  simp only [tget_tset]
  split <;> rfl

@[simp] theorem tset_tget {α : Type} {n : Nat} (v : Vector α n) (i : Fin n) : tset v i (tget v i) = v := by
  apply table_ext
  intro j
  rw [tget_tset]
  split
  · next h => rw [h]
  · rfl

end Sys2Proof
end

