-- ==== Sys2Proof/Laws/State.lean ====
section
/-! SUPPORT. For each update of State, one lemma per field: what the field is after it. All but those of setBank hold by computation. -/

namespace Sys2Proof.Machine

@[simp] theorem State.setCtx_power (p : PositionId) (c : PositionContext) (s : State) : (s.setCtx p c).power = s.power := rfl
@[simp] theorem State.setCtx_positions (p : PositionId) (c : PositionContext) (s : State) : (s.setCtx p c).positions = tset s.positions p c := rfl
@[simp] theorem State.setCtx_ports (p : PositionId) (c : PositionContext) (s : State) : (s.setCtx p c).ports = s.ports := rfl
@[simp] theorem State.setCtx_officePort (p : PositionId) (c : PositionContext) (s : State) : (s.setCtx p c).officePort = s.officePort := rfl
@[simp] theorem State.setCtx_channels (p : PositionId) (c : PositionContext) (s : State) : (s.setCtx p c).channels = s.channels := rfl
@[simp] theorem State.setCtx_scaleLines (p : PositionId) (c : PositionContext) (s : State) : (s.setCtx p c).scaleLines = s.scaleLines := rfl
@[simp] theorem State.setCtx_tariffs (p : PositionId) (c : PositionContext) (s : State) : (s.setCtx p c).tariffs = s.tariffs := rfl
@[simp] theorem State.setCtx_evaluator (p : PositionId) (c : PositionContext) (s : State) : (s.setCtx p c).evaluator = s.evaluator := rfl
@[simp] theorem State.setCtx_accounts (p : PositionId) (c : PositionContext) (s : State) : (s.setCtx p c).accounts = s.accounts := rfl
@[simp] theorem State.setCtx_supply (p : PositionId) (c : PositionContext) (s : State) : (s.setCtx p c).supply = s.supply := rfl
@[simp] theorem State.setCtx_allocator (p : PositionId) (c : PositionContext) (s : State) : (s.setCtx p c).allocator = s.allocator := rfl
@[simp] theorem State.setCtx_journal (p : PositionId) (c : PositionContext) (s : State) : (s.setCtx p c).journal = s.journal := rfl
@[simp] theorem State.setCtx_printers (p : PositionId) (c : PositionContext) (s : State) : (s.setCtx p c).printers = s.printers := rfl
@[simp] theorem State.setCtx_printerLines (p : PositionId) (c : PositionContext) (s : State) : (s.setCtx p c).printerLines = s.printerLines := rfl
@[simp] theorem State.setCtx_labelCounts (p : PositionId) (c : PositionContext) (s : State) : (s.setCtx p c).labelCounts = s.labelCounts := rfl
@[simp] theorem State.setCtx_clock (p : PositionId) (c : PositionContext) (s : State) : (s.setCtx p c).clock = s.clock := rfl
@[simp] theorem State.setCtx_flags (p : PositionId) (c : PositionContext) (s : State) : (s.setCtx p c).flags = s.flags := rfl
@[simp] theorem State.setCtx_nvs (p : PositionId) (c : PositionContext) (s : State) : (s.setCtx p c).nvs = s.nvs := rfl
@[simp] theorem State.setCtx_sent (p : PositionId) (c : PositionContext) (s : State) : (s.setCtx p c).sent = s.sent := rfl
@[simp] theorem State.setCtx_pending (p : PositionId) (c : PositionContext) (s : State) : (s.setCtx p c).pending = s.pending := rfl

@[simp] theorem State.setChannel_power (c : ChannelId) (ch : Channel) (s : State) : (s.setChannel c ch).power = s.power := rfl
@[simp] theorem State.setChannel_positions (c : ChannelId) (ch : Channel) (s : State) : (s.setChannel c ch).positions = s.positions := rfl
@[simp] theorem State.setChannel_ports (c : ChannelId) (ch : Channel) (s : State) : (s.setChannel c ch).ports = s.ports := rfl
@[simp] theorem State.setChannel_officePort (c : ChannelId) (ch : Channel) (s : State) : (s.setChannel c ch).officePort = s.officePort := rfl
@[simp] theorem State.setChannel_channels (c : ChannelId) (ch : Channel) (s : State) : (s.setChannel c ch).channels = tset s.channels c ch := rfl
@[simp] theorem State.setChannel_scaleLines (c : ChannelId) (ch : Channel) (s : State) : (s.setChannel c ch).scaleLines = s.scaleLines := rfl
@[simp] theorem State.setChannel_tariffs (c : ChannelId) (ch : Channel) (s : State) : (s.setChannel c ch).tariffs = s.tariffs := rfl
@[simp] theorem State.setChannel_evaluator (c : ChannelId) (ch : Channel) (s : State) : (s.setChannel c ch).evaluator = s.evaluator := rfl
@[simp] theorem State.setChannel_accounts (c : ChannelId) (ch : Channel) (s : State) : (s.setChannel c ch).accounts = s.accounts := rfl
@[simp] theorem State.setChannel_supply (c : ChannelId) (ch : Channel) (s : State) : (s.setChannel c ch).supply = s.supply := rfl
@[simp] theorem State.setChannel_allocator (c : ChannelId) (ch : Channel) (s : State) : (s.setChannel c ch).allocator = s.allocator := rfl
@[simp] theorem State.setChannel_journal (c : ChannelId) (ch : Channel) (s : State) : (s.setChannel c ch).journal = s.journal := rfl
@[simp] theorem State.setChannel_printers (c : ChannelId) (ch : Channel) (s : State) : (s.setChannel c ch).printers = s.printers := rfl
@[simp] theorem State.setChannel_printerLines (c : ChannelId) (ch : Channel) (s : State) : (s.setChannel c ch).printerLines = s.printerLines := rfl
@[simp] theorem State.setChannel_labelCounts (c : ChannelId) (ch : Channel) (s : State) : (s.setChannel c ch).labelCounts = s.labelCounts := rfl
@[simp] theorem State.setChannel_clock (c : ChannelId) (ch : Channel) (s : State) : (s.setChannel c ch).clock = s.clock := rfl
@[simp] theorem State.setChannel_flags (c : ChannelId) (ch : Channel) (s : State) : (s.setChannel c ch).flags = s.flags := rfl
@[simp] theorem State.setChannel_nvs (c : ChannelId) (ch : Channel) (s : State) : (s.setChannel c ch).nvs = s.nvs := rfl
@[simp] theorem State.setChannel_sent (c : ChannelId) (ch : Channel) (s : State) : (s.setChannel c ch).sent = s.sent := rfl
@[simp] theorem State.setChannel_pending (c : ChannelId) (ch : Channel) (s : State) : (s.setChannel c ch).pending = s.pending := rfl

@[simp] theorem State.setAccount_power (a : AccountId) (x : Account) (s : State) : (s.setAccount a x).power = s.power := rfl
@[simp] theorem State.setAccount_positions (a : AccountId) (x : Account) (s : State) : (s.setAccount a x).positions = s.positions := rfl
@[simp] theorem State.setAccount_ports (a : AccountId) (x : Account) (s : State) : (s.setAccount a x).ports = s.ports := rfl
@[simp] theorem State.setAccount_officePort (a : AccountId) (x : Account) (s : State) : (s.setAccount a x).officePort = s.officePort := rfl
@[simp] theorem State.setAccount_channels (a : AccountId) (x : Account) (s : State) : (s.setAccount a x).channels = s.channels := rfl
@[simp] theorem State.setAccount_scaleLines (a : AccountId) (x : Account) (s : State) : (s.setAccount a x).scaleLines = s.scaleLines := rfl
@[simp] theorem State.setAccount_tariffs (a : AccountId) (x : Account) (s : State) : (s.setAccount a x).tariffs = s.tariffs := rfl
@[simp] theorem State.setAccount_evaluator (a : AccountId) (x : Account) (s : State) : (s.setAccount a x).evaluator = s.evaluator := rfl
@[simp] theorem State.setAccount_accounts (a : AccountId) (x : Account) (s : State) : (s.setAccount a x).accounts = tset s.accounts a x := rfl
@[simp] theorem State.setAccount_supply (a : AccountId) (x : Account) (s : State) : (s.setAccount a x).supply = s.supply := rfl
@[simp] theorem State.setAccount_allocator (a : AccountId) (x : Account) (s : State) : (s.setAccount a x).allocator = s.allocator := rfl
@[simp] theorem State.setAccount_journal (a : AccountId) (x : Account) (s : State) : (s.setAccount a x).journal = s.journal := rfl
@[simp] theorem State.setAccount_printers (a : AccountId) (x : Account) (s : State) : (s.setAccount a x).printers = s.printers := rfl
@[simp] theorem State.setAccount_printerLines (a : AccountId) (x : Account) (s : State) : (s.setAccount a x).printerLines = s.printerLines := rfl
@[simp] theorem State.setAccount_labelCounts (a : AccountId) (x : Account) (s : State) : (s.setAccount a x).labelCounts = s.labelCounts := rfl
@[simp] theorem State.setAccount_clock (a : AccountId) (x : Account) (s : State) : (s.setAccount a x).clock = s.clock := rfl
@[simp] theorem State.setAccount_flags (a : AccountId) (x : Account) (s : State) : (s.setAccount a x).flags = s.flags := rfl
@[simp] theorem State.setAccount_nvs (a : AccountId) (x : Account) (s : State) : (s.setAccount a x).nvs = s.nvs := rfl
@[simp] theorem State.setAccount_sent (a : AccountId) (x : Account) (s : State) : (s.setAccount a x).sent = s.sent := rfl
@[simp] theorem State.setAccount_pending (a : AccountId) (x : Account) (s : State) : (s.setAccount a x).pending = s.pending := rfl

@[simp] theorem State.setPrinter_power (l : PrinterId) (pr : Printer) (s : State) : (s.setPrinter l pr).power = s.power := rfl
@[simp] theorem State.setPrinter_positions (l : PrinterId) (pr : Printer) (s : State) : (s.setPrinter l pr).positions = s.positions := rfl
@[simp] theorem State.setPrinter_ports (l : PrinterId) (pr : Printer) (s : State) : (s.setPrinter l pr).ports = s.ports := rfl
@[simp] theorem State.setPrinter_officePort (l : PrinterId) (pr : Printer) (s : State) : (s.setPrinter l pr).officePort = s.officePort := rfl
@[simp] theorem State.setPrinter_channels (l : PrinterId) (pr : Printer) (s : State) : (s.setPrinter l pr).channels = s.channels := rfl
@[simp] theorem State.setPrinter_scaleLines (l : PrinterId) (pr : Printer) (s : State) : (s.setPrinter l pr).scaleLines = s.scaleLines := rfl
@[simp] theorem State.setPrinter_tariffs (l : PrinterId) (pr : Printer) (s : State) : (s.setPrinter l pr).tariffs = s.tariffs := rfl
@[simp] theorem State.setPrinter_evaluator (l : PrinterId) (pr : Printer) (s : State) : (s.setPrinter l pr).evaluator = s.evaluator := rfl
@[simp] theorem State.setPrinter_accounts (l : PrinterId) (pr : Printer) (s : State) : (s.setPrinter l pr).accounts = s.accounts := rfl
@[simp] theorem State.setPrinter_supply (l : PrinterId) (pr : Printer) (s : State) : (s.setPrinter l pr).supply = s.supply := rfl
@[simp] theorem State.setPrinter_allocator (l : PrinterId) (pr : Printer) (s : State) : (s.setPrinter l pr).allocator = s.allocator := rfl
@[simp] theorem State.setPrinter_journal (l : PrinterId) (pr : Printer) (s : State) : (s.setPrinter l pr).journal = s.journal := rfl
@[simp] theorem State.setPrinter_printers (l : PrinterId) (pr : Printer) (s : State) : (s.setPrinter l pr).printers = tset s.printers l pr := rfl
@[simp] theorem State.setPrinter_printerLines (l : PrinterId) (pr : Printer) (s : State) : (s.setPrinter l pr).printerLines = s.printerLines := rfl
@[simp] theorem State.setPrinter_labelCounts (l : PrinterId) (pr : Printer) (s : State) : (s.setPrinter l pr).labelCounts = s.labelCounts := rfl
@[simp] theorem State.setPrinter_clock (l : PrinterId) (pr : Printer) (s : State) : (s.setPrinter l pr).clock = s.clock := rfl
@[simp] theorem State.setPrinter_flags (l : PrinterId) (pr : Printer) (s : State) : (s.setPrinter l pr).flags = s.flags := rfl
@[simp] theorem State.setPrinter_nvs (l : PrinterId) (pr : Printer) (s : State) : (s.setPrinter l pr).nvs = s.nvs := rfl
@[simp] theorem State.setPrinter_sent (l : PrinterId) (pr : Printer) (s : State) : (s.setPrinter l pr).sent = s.sent := rfl
@[simp] theorem State.setPrinter_pending (l : PrinterId) (pr : Printer) (s : State) : (s.setPrinter l pr).pending = s.pending := rfl

@[simp] theorem State.setEvaluatorState_power (e : EvaluatorState) (s : State) : (s.setEvaluatorState e).power = s.power := rfl
@[simp] theorem State.setEvaluatorState_positions (e : EvaluatorState) (s : State) : (s.setEvaluatorState e).positions = s.positions := rfl
@[simp] theorem State.setEvaluatorState_ports (e : EvaluatorState) (s : State) : (s.setEvaluatorState e).ports = s.ports := rfl
@[simp] theorem State.setEvaluatorState_officePort (e : EvaluatorState) (s : State) : (s.setEvaluatorState e).officePort = s.officePort := rfl
@[simp] theorem State.setEvaluatorState_channels (e : EvaluatorState) (s : State) : (s.setEvaluatorState e).channels = s.channels := rfl
@[simp] theorem State.setEvaluatorState_scaleLines (e : EvaluatorState) (s : State) : (s.setEvaluatorState e).scaleLines = s.scaleLines := rfl
@[simp] theorem State.setEvaluatorState_tariffs (e : EvaluatorState) (s : State) : (s.setEvaluatorState e).tariffs = s.tariffs := rfl
@[simp] theorem State.setEvaluatorState_evaluator (e : EvaluatorState) (s : State) : (s.setEvaluatorState e).evaluator = { s.evaluator with state := e } := rfl
@[simp] theorem State.setEvaluatorState_accounts (e : EvaluatorState) (s : State) : (s.setEvaluatorState e).accounts = s.accounts := rfl
@[simp] theorem State.setEvaluatorState_supply (e : EvaluatorState) (s : State) : (s.setEvaluatorState e).supply = s.supply := rfl
@[simp] theorem State.setEvaluatorState_allocator (e : EvaluatorState) (s : State) : (s.setEvaluatorState e).allocator = s.allocator := rfl
@[simp] theorem State.setEvaluatorState_journal (e : EvaluatorState) (s : State) : (s.setEvaluatorState e).journal = s.journal := rfl
@[simp] theorem State.setEvaluatorState_printers (e : EvaluatorState) (s : State) : (s.setEvaluatorState e).printers = s.printers := rfl
@[simp] theorem State.setEvaluatorState_printerLines (e : EvaluatorState) (s : State) : (s.setEvaluatorState e).printerLines = s.printerLines := rfl
@[simp] theorem State.setEvaluatorState_labelCounts (e : EvaluatorState) (s : State) : (s.setEvaluatorState e).labelCounts = s.labelCounts := rfl
@[simp] theorem State.setEvaluatorState_clock (e : EvaluatorState) (s : State) : (s.setEvaluatorState e).clock = s.clock := rfl
@[simp] theorem State.setEvaluatorState_flags (e : EvaluatorState) (s : State) : (s.setEvaluatorState e).flags = s.flags := rfl
@[simp] theorem State.setEvaluatorState_nvs (e : EvaluatorState) (s : State) : (s.setEvaluatorState e).nvs = s.nvs := rfl
@[simp] theorem State.setEvaluatorState_sent (e : EvaluatorState) (s : State) : (s.setEvaluatorState e).sent = s.sent := rfl
@[simp] theorem State.setEvaluatorState_pending (e : EvaluatorState) (s : State) : (s.setEvaluatorState e).pending = s.pending := rfl

@[simp] theorem State.emit_power (x : Sent) (s : State) : (s.emit x).power = s.power := rfl
@[simp] theorem State.emit_positions (x : Sent) (s : State) : (s.emit x).positions = s.positions := rfl
@[simp] theorem State.emit_ports (x : Sent) (s : State) : (s.emit x).ports = s.ports := rfl
@[simp] theorem State.emit_officePort (x : Sent) (s : State) : (s.emit x).officePort = s.officePort := rfl
@[simp] theorem State.emit_channels (x : Sent) (s : State) : (s.emit x).channels = s.channels := rfl
@[simp] theorem State.emit_scaleLines (x : Sent) (s : State) : (s.emit x).scaleLines = s.scaleLines := rfl
@[simp] theorem State.emit_tariffs (x : Sent) (s : State) : (s.emit x).tariffs = s.tariffs := rfl
@[simp] theorem State.emit_evaluator (x : Sent) (s : State) : (s.emit x).evaluator = s.evaluator := rfl
@[simp] theorem State.emit_accounts (x : Sent) (s : State) : (s.emit x).accounts = s.accounts := rfl
@[simp] theorem State.emit_supply (x : Sent) (s : State) : (s.emit x).supply = s.supply := rfl
@[simp] theorem State.emit_allocator (x : Sent) (s : State) : (s.emit x).allocator = s.allocator := rfl
@[simp] theorem State.emit_journal (x : Sent) (s : State) : (s.emit x).journal = s.journal := rfl
@[simp] theorem State.emit_printers (x : Sent) (s : State) : (s.emit x).printers = s.printers := rfl
@[simp] theorem State.emit_printerLines (x : Sent) (s : State) : (s.emit x).printerLines = s.printerLines := rfl
@[simp] theorem State.emit_labelCounts (x : Sent) (s : State) : (s.emit x).labelCounts = s.labelCounts := rfl
@[simp] theorem State.emit_clock (x : Sent) (s : State) : (s.emit x).clock = s.clock := rfl
@[simp] theorem State.emit_flags (x : Sent) (s : State) : (s.emit x).flags = s.flags := rfl
@[simp] theorem State.emit_nvs (x : Sent) (s : State) : (s.emit x).nvs = s.nvs := rfl
@[simp] theorem State.emit_sent (x : Sent) (s : State) : (s.emit x).sent = s.sent ++ [x] := rfl
@[simp] theorem State.emit_pending (x : Sent) (s : State) : (s.emit x).pending = s.pending := rfl

@[simp] theorem State.countLabels_power (p : PositionId) (n : Nat) (s : State) : (s.countLabels p n).power = s.power := rfl
@[simp] theorem State.countLabels_positions (p : PositionId) (n : Nat) (s : State) : (s.countLabels p n).positions = s.positions := rfl
@[simp] theorem State.countLabels_ports (p : PositionId) (n : Nat) (s : State) : (s.countLabels p n).ports = s.ports := rfl
@[simp] theorem State.countLabels_officePort (p : PositionId) (n : Nat) (s : State) : (s.countLabels p n).officePort = s.officePort := rfl
@[simp] theorem State.countLabels_channels (p : PositionId) (n : Nat) (s : State) : (s.countLabels p n).channels = s.channels := rfl
@[simp] theorem State.countLabels_scaleLines (p : PositionId) (n : Nat) (s : State) : (s.countLabels p n).scaleLines = s.scaleLines := rfl
@[simp] theorem State.countLabels_tariffs (p : PositionId) (n : Nat) (s : State) : (s.countLabels p n).tariffs = s.tariffs := rfl
@[simp] theorem State.countLabels_evaluator (p : PositionId) (n : Nat) (s : State) : (s.countLabels p n).evaluator = s.evaluator := rfl
@[simp] theorem State.countLabels_accounts (p : PositionId) (n : Nat) (s : State) : (s.countLabels p n).accounts = s.accounts := rfl
@[simp] theorem State.countLabels_supply (p : PositionId) (n : Nat) (s : State) : (s.countLabels p n).supply = s.supply := rfl
@[simp] theorem State.countLabels_allocator (p : PositionId) (n : Nat) (s : State) : (s.countLabels p n).allocator = s.allocator := rfl
@[simp] theorem State.countLabels_journal (p : PositionId) (n : Nat) (s : State) : (s.countLabels p n).journal = s.journal := rfl
@[simp] theorem State.countLabels_printers (p : PositionId) (n : Nat) (s : State) : (s.countLabels p n).printers = s.printers := rfl
@[simp] theorem State.countLabels_printerLines (p : PositionId) (n : Nat) (s : State) : (s.countLabels p n).printerLines = s.printerLines := rfl
@[simp] theorem State.countLabels_labelCounts (p : PositionId) (n : Nat) (s : State) : (s.countLabels p n).labelCounts = tset s.labelCounts p n := rfl
@[simp] theorem State.countLabels_clock (p : PositionId) (n : Nat) (s : State) : (s.countLabels p n).clock = s.clock := rfl
@[simp] theorem State.countLabels_flags (p : PositionId) (n : Nat) (s : State) : (s.countLabels p n).flags = s.flags := rfl
@[simp] theorem State.countLabels_nvs (p : PositionId) (n : Nat) (s : State) : (s.countLabels p n).nvs = s.nvs := rfl
@[simp] theorem State.countLabels_sent (p : PositionId) (n : Nat) (s : State) : (s.countLabels p n).sent = s.sent := rfl
@[simp] theorem State.countLabels_pending (p : PositionId) (n : Nat) (s : State) : (s.countLabels p n).pending = s.pending := rfl

@[simp] theorem State.savePosition_power (p : PositionId) (s : State) : (s.savePosition p).power = s.power := rfl
@[simp] theorem State.savePosition_positions (p : PositionId) (s : State) : (s.savePosition p).positions = s.positions := rfl
@[simp] theorem State.savePosition_ports (p : PositionId) (s : State) : (s.savePosition p).ports = s.ports := rfl
@[simp] theorem State.savePosition_officePort (p : PositionId) (s : State) : (s.savePosition p).officePort = s.officePort := rfl
@[simp] theorem State.savePosition_channels (p : PositionId) (s : State) : (s.savePosition p).channels = s.channels := rfl
@[simp] theorem State.savePosition_scaleLines (p : PositionId) (s : State) : (s.savePosition p).scaleLines = s.scaleLines := rfl
@[simp] theorem State.savePosition_tariffs (p : PositionId) (s : State) : (s.savePosition p).tariffs = s.tariffs := rfl
@[simp] theorem State.savePosition_evaluator (p : PositionId) (s : State) : (s.savePosition p).evaluator = s.evaluator := rfl
@[simp] theorem State.savePosition_accounts (p : PositionId) (s : State) : (s.savePosition p).accounts = s.accounts := rfl
@[simp] theorem State.savePosition_supply (p : PositionId) (s : State) : (s.savePosition p).supply = s.supply := rfl
@[simp] theorem State.savePosition_allocator (p : PositionId) (s : State) : (s.savePosition p).allocator = s.allocator := rfl
@[simp] theorem State.savePosition_journal (p : PositionId) (s : State) : (s.savePosition p).journal = s.journal := rfl
@[simp] theorem State.savePosition_printers (p : PositionId) (s : State) : (s.savePosition p).printers = s.printers := rfl
@[simp] theorem State.savePosition_printerLines (p : PositionId) (s : State) : (s.savePosition p).printerLines = s.printerLines := rfl
@[simp] theorem State.savePosition_labelCounts (p : PositionId) (s : State) : (s.savePosition p).labelCounts = s.labelCounts := rfl
@[simp] theorem State.savePosition_clock (p : PositionId) (s : State) : (s.savePosition p).clock = s.clock := rfl
@[simp] theorem State.savePosition_flags (p : PositionId) (s : State) : (s.savePosition p).flags = s.flags := rfl
@[simp] theorem State.savePosition_nvs (p : PositionId) (s : State) : (s.savePosition p).nvs = { s.nvs with positions := tset s.nvs.positions p (s.ctx p).config } := rfl
@[simp] theorem State.savePosition_sent (p : PositionId) (s : State) : (s.savePosition p).sent = s.sent := rfl
@[simp] theorem State.savePosition_pending (p : PositionId) (s : State) : (s.savePosition p).pending = s.pending := rfl

@[simp] theorem State.saveChannel_power (c : ChannelId) (s : State) : (s.saveChannel c).power = s.power := rfl
@[simp] theorem State.saveChannel_positions (c : ChannelId) (s : State) : (s.saveChannel c).positions = s.positions := rfl
@[simp] theorem State.saveChannel_ports (c : ChannelId) (s : State) : (s.saveChannel c).ports = s.ports := rfl
@[simp] theorem State.saveChannel_officePort (c : ChannelId) (s : State) : (s.saveChannel c).officePort = s.officePort := rfl
@[simp] theorem State.saveChannel_channels (c : ChannelId) (s : State) : (s.saveChannel c).channels = s.channels := rfl
@[simp] theorem State.saveChannel_scaleLines (c : ChannelId) (s : State) : (s.saveChannel c).scaleLines = s.scaleLines := rfl
@[simp] theorem State.saveChannel_tariffs (c : ChannelId) (s : State) : (s.saveChannel c).tariffs = s.tariffs := rfl
@[simp] theorem State.saveChannel_evaluator (c : ChannelId) (s : State) : (s.saveChannel c).evaluator = s.evaluator := rfl
@[simp] theorem State.saveChannel_accounts (c : ChannelId) (s : State) : (s.saveChannel c).accounts = s.accounts := rfl
@[simp] theorem State.saveChannel_supply (c : ChannelId) (s : State) : (s.saveChannel c).supply = s.supply := rfl
@[simp] theorem State.saveChannel_allocator (c : ChannelId) (s : State) : (s.saveChannel c).allocator = s.allocator := rfl
@[simp] theorem State.saveChannel_journal (c : ChannelId) (s : State) : (s.saveChannel c).journal = s.journal := rfl
@[simp] theorem State.saveChannel_printers (c : ChannelId) (s : State) : (s.saveChannel c).printers = s.printers := rfl
@[simp] theorem State.saveChannel_printerLines (c : ChannelId) (s : State) : (s.saveChannel c).printerLines = s.printerLines := rfl
@[simp] theorem State.saveChannel_labelCounts (c : ChannelId) (s : State) : (s.saveChannel c).labelCounts = s.labelCounts := rfl
@[simp] theorem State.saveChannel_clock (c : ChannelId) (s : State) : (s.saveChannel c).clock = s.clock := rfl
@[simp] theorem State.saveChannel_flags (c : ChannelId) (s : State) : (s.saveChannel c).flags = s.flags := rfl
@[simp] theorem State.saveChannel_nvs (c : ChannelId) (s : State) : (s.saveChannel c).nvs = { s.nvs with channels := tset s.nvs.channels c (s.channel c).config } := rfl
@[simp] theorem State.saveChannel_sent (c : ChannelId) (s : State) : (s.saveChannel c).sent = s.sent := rfl
@[simp] theorem State.saveChannel_pending (c : ChannelId) (s : State) : (s.saveChannel c).pending = s.pending := rfl

@[simp] theorem State.saveAccount_power (a : AccountId) (s : State) : (s.saveAccount a).power = s.power := rfl
@[simp] theorem State.saveAccount_positions (a : AccountId) (s : State) : (s.saveAccount a).positions = s.positions := rfl
@[simp] theorem State.saveAccount_ports (a : AccountId) (s : State) : (s.saveAccount a).ports = s.ports := rfl
@[simp] theorem State.saveAccount_officePort (a : AccountId) (s : State) : (s.saveAccount a).officePort = s.officePort := rfl
@[simp] theorem State.saveAccount_channels (a : AccountId) (s : State) : (s.saveAccount a).channels = s.channels := rfl
@[simp] theorem State.saveAccount_scaleLines (a : AccountId) (s : State) : (s.saveAccount a).scaleLines = s.scaleLines := rfl
@[simp] theorem State.saveAccount_tariffs (a : AccountId) (s : State) : (s.saveAccount a).tariffs = s.tariffs := rfl
@[simp] theorem State.saveAccount_evaluator (a : AccountId) (s : State) : (s.saveAccount a).evaluator = s.evaluator := rfl
@[simp] theorem State.saveAccount_accounts (a : AccountId) (s : State) : (s.saveAccount a).accounts = s.accounts := rfl
@[simp] theorem State.saveAccount_supply (a : AccountId) (s : State) : (s.saveAccount a).supply = s.supply := rfl
@[simp] theorem State.saveAccount_allocator (a : AccountId) (s : State) : (s.saveAccount a).allocator = s.allocator := rfl
@[simp] theorem State.saveAccount_journal (a : AccountId) (s : State) : (s.saveAccount a).journal = s.journal := rfl
@[simp] theorem State.saveAccount_printers (a : AccountId) (s : State) : (s.saveAccount a).printers = s.printers := rfl
@[simp] theorem State.saveAccount_printerLines (a : AccountId) (s : State) : (s.saveAccount a).printerLines = s.printerLines := rfl
@[simp] theorem State.saveAccount_labelCounts (a : AccountId) (s : State) : (s.saveAccount a).labelCounts = s.labelCounts := rfl
@[simp] theorem State.saveAccount_clock (a : AccountId) (s : State) : (s.saveAccount a).clock = s.clock := rfl
@[simp] theorem State.saveAccount_flags (a : AccountId) (s : State) : (s.saveAccount a).flags = s.flags := rfl
@[simp] theorem State.saveAccount_nvs (a : AccountId) (s : State) : (s.saveAccount a).nvs = { s.nvs with accounts := tset s.nvs.accounts a (s.account a) } := rfl
@[simp] theorem State.saveAccount_sent (a : AccountId) (s : State) : (s.saveAccount a).sent = s.sent := rfl
@[simp] theorem State.saveAccount_pending (a : AccountId) (s : State) : (s.saveAccount a).pending = s.pending := rfl

@[simp] theorem State.saveAllocator_power (s : State) : (s.saveAllocator).power = s.power := rfl
@[simp] theorem State.saveAllocator_positions (s : State) : (s.saveAllocator).positions = s.positions := rfl
@[simp] theorem State.saveAllocator_ports (s : State) : (s.saveAllocator).ports = s.ports := rfl
@[simp] theorem State.saveAllocator_officePort (s : State) : (s.saveAllocator).officePort = s.officePort := rfl
@[simp] theorem State.saveAllocator_channels (s : State) : (s.saveAllocator).channels = s.channels := rfl
@[simp] theorem State.saveAllocator_scaleLines (s : State) : (s.saveAllocator).scaleLines = s.scaleLines := rfl
@[simp] theorem State.saveAllocator_tariffs (s : State) : (s.saveAllocator).tariffs = s.tariffs := rfl
@[simp] theorem State.saveAllocator_evaluator (s : State) : (s.saveAllocator).evaluator = s.evaluator := rfl
@[simp] theorem State.saveAllocator_accounts (s : State) : (s.saveAllocator).accounts = s.accounts := rfl
@[simp] theorem State.saveAllocator_supply (s : State) : (s.saveAllocator).supply = s.supply := rfl
@[simp] theorem State.saveAllocator_allocator (s : State) : (s.saveAllocator).allocator = s.allocator := rfl
@[simp] theorem State.saveAllocator_journal (s : State) : (s.saveAllocator).journal = s.journal := rfl
@[simp] theorem State.saveAllocator_printers (s : State) : (s.saveAllocator).printers = s.printers := rfl
@[simp] theorem State.saveAllocator_printerLines (s : State) : (s.saveAllocator).printerLines = s.printerLines := rfl
@[simp] theorem State.saveAllocator_labelCounts (s : State) : (s.saveAllocator).labelCounts = s.labelCounts := rfl
@[simp] theorem State.saveAllocator_clock (s : State) : (s.saveAllocator).clock = s.clock := rfl
@[simp] theorem State.saveAllocator_flags (s : State) : (s.saveAllocator).flags = s.flags := rfl
@[simp] theorem State.saveAllocator_nvs (s : State) : (s.saveAllocator).nvs = { s.nvs with allocator := s.allocator } := rfl
@[simp] theorem State.saveAllocator_sent (s : State) : (s.saveAllocator).sent = s.sent := rfl
@[simp] theorem State.saveAllocator_pending (s : State) : (s.saveAllocator).pending = s.pending := rfl

@[simp] theorem State.saveJournal_power (s : State) : (s.saveJournal).power = s.power := rfl
@[simp] theorem State.saveJournal_positions (s : State) : (s.saveJournal).positions = s.positions := rfl
@[simp] theorem State.saveJournal_ports (s : State) : (s.saveJournal).ports = s.ports := rfl
@[simp] theorem State.saveJournal_officePort (s : State) : (s.saveJournal).officePort = s.officePort := rfl
@[simp] theorem State.saveJournal_channels (s : State) : (s.saveJournal).channels = s.channels := rfl
@[simp] theorem State.saveJournal_scaleLines (s : State) : (s.saveJournal).scaleLines = s.scaleLines := rfl
@[simp] theorem State.saveJournal_tariffs (s : State) : (s.saveJournal).tariffs = s.tariffs := rfl
@[simp] theorem State.saveJournal_evaluator (s : State) : (s.saveJournal).evaluator = s.evaluator := rfl
@[simp] theorem State.saveJournal_accounts (s : State) : (s.saveJournal).accounts = s.accounts := rfl
@[simp] theorem State.saveJournal_supply (s : State) : (s.saveJournal).supply = s.supply := rfl
@[simp] theorem State.saveJournal_allocator (s : State) : (s.saveJournal).allocator = s.allocator := rfl
@[simp] theorem State.saveJournal_journal (s : State) : (s.saveJournal).journal = s.journal := rfl
@[simp] theorem State.saveJournal_printers (s : State) : (s.saveJournal).printers = s.printers := rfl
@[simp] theorem State.saveJournal_printerLines (s : State) : (s.saveJournal).printerLines = s.printerLines := rfl
@[simp] theorem State.saveJournal_labelCounts (s : State) : (s.saveJournal).labelCounts = s.labelCounts := rfl
@[simp] theorem State.saveJournal_clock (s : State) : (s.saveJournal).clock = s.clock := rfl
@[simp] theorem State.saveJournal_flags (s : State) : (s.saveJournal).flags = s.flags := rfl
@[simp] theorem State.saveJournal_nvs (s : State) : (s.saveJournal).nvs = { s.nvs with journal := s.journal } := rfl
@[simp] theorem State.saveJournal_sent (s : State) : (s.saveJournal).sent = s.sent := rfl
@[simp] theorem State.saveJournal_pending (s : State) : (s.saveJournal).pending = s.pending := rfl

@[simp] theorem State.saveQueue_power (l : PrinterId) (s : State) : (s.saveQueue l).power = s.power := rfl
@[simp] theorem State.saveQueue_positions (l : PrinterId) (s : State) : (s.saveQueue l).positions = s.positions := rfl
@[simp] theorem State.saveQueue_ports (l : PrinterId) (s : State) : (s.saveQueue l).ports = s.ports := rfl
@[simp] theorem State.saveQueue_officePort (l : PrinterId) (s : State) : (s.saveQueue l).officePort = s.officePort := rfl
@[simp] theorem State.saveQueue_channels (l : PrinterId) (s : State) : (s.saveQueue l).channels = s.channels := rfl
@[simp] theorem State.saveQueue_scaleLines (l : PrinterId) (s : State) : (s.saveQueue l).scaleLines = s.scaleLines := rfl
@[simp] theorem State.saveQueue_tariffs (l : PrinterId) (s : State) : (s.saveQueue l).tariffs = s.tariffs := rfl
@[simp] theorem State.saveQueue_evaluator (l : PrinterId) (s : State) : (s.saveQueue l).evaluator = s.evaluator := rfl
@[simp] theorem State.saveQueue_accounts (l : PrinterId) (s : State) : (s.saveQueue l).accounts = s.accounts := rfl
@[simp] theorem State.saveQueue_supply (l : PrinterId) (s : State) : (s.saveQueue l).supply = s.supply := rfl
@[simp] theorem State.saveQueue_allocator (l : PrinterId) (s : State) : (s.saveQueue l).allocator = s.allocator := rfl
@[simp] theorem State.saveQueue_journal (l : PrinterId) (s : State) : (s.saveQueue l).journal = s.journal := rfl
@[simp] theorem State.saveQueue_printers (l : PrinterId) (s : State) : (s.saveQueue l).printers = s.printers := rfl
@[simp] theorem State.saveQueue_printerLines (l : PrinterId) (s : State) : (s.saveQueue l).printerLines = s.printerLines := rfl
@[simp] theorem State.saveQueue_labelCounts (l : PrinterId) (s : State) : (s.saveQueue l).labelCounts = s.labelCounts := rfl
@[simp] theorem State.saveQueue_clock (l : PrinterId) (s : State) : (s.saveQueue l).clock = s.clock := rfl
@[simp] theorem State.saveQueue_flags (l : PrinterId) (s : State) : (s.saveQueue l).flags = s.flags := rfl
@[simp] theorem State.saveQueue_nvs (l : PrinterId) (s : State) : (s.saveQueue l).nvs = { s.nvs with queues := tset s.nvs.queues l ((s.printer l).queue.map Job.stored) } := rfl
@[simp] theorem State.saveQueue_sent (l : PrinterId) (s : State) : (s.saveQueue l).sent = s.sent := rfl
@[simp] theorem State.saveQueue_pending (l : PrinterId) (s : State) : (s.saveQueue l).pending = s.pending := rfl

@[simp] theorem State.savePrinter_power (l : PrinterId) (s : State) : (s.savePrinter l).power = s.power := rfl
@[simp] theorem State.savePrinter_positions (l : PrinterId) (s : State) : (s.savePrinter l).positions = s.positions := rfl
@[simp] theorem State.savePrinter_ports (l : PrinterId) (s : State) : (s.savePrinter l).ports = s.ports := rfl
@[simp] theorem State.savePrinter_officePort (l : PrinterId) (s : State) : (s.savePrinter l).officePort = s.officePort := rfl
@[simp] theorem State.savePrinter_channels (l : PrinterId) (s : State) : (s.savePrinter l).channels = s.channels := rfl
@[simp] theorem State.savePrinter_scaleLines (l : PrinterId) (s : State) : (s.savePrinter l).scaleLines = s.scaleLines := rfl
@[simp] theorem State.savePrinter_tariffs (l : PrinterId) (s : State) : (s.savePrinter l).tariffs = s.tariffs := rfl
@[simp] theorem State.savePrinter_evaluator (l : PrinterId) (s : State) : (s.savePrinter l).evaluator = s.evaluator := rfl
@[simp] theorem State.savePrinter_accounts (l : PrinterId) (s : State) : (s.savePrinter l).accounts = s.accounts := rfl
@[simp] theorem State.savePrinter_supply (l : PrinterId) (s : State) : (s.savePrinter l).supply = s.supply := rfl
@[simp] theorem State.savePrinter_allocator (l : PrinterId) (s : State) : (s.savePrinter l).allocator = s.allocator := rfl
@[simp] theorem State.savePrinter_journal (l : PrinterId) (s : State) : (s.savePrinter l).journal = s.journal := rfl
@[simp] theorem State.savePrinter_printers (l : PrinterId) (s : State) : (s.savePrinter l).printers = s.printers := rfl
@[simp] theorem State.savePrinter_printerLines (l : PrinterId) (s : State) : (s.savePrinter l).printerLines = s.printerLines := rfl
@[simp] theorem State.savePrinter_labelCounts (l : PrinterId) (s : State) : (s.savePrinter l).labelCounts = s.labelCounts := rfl
@[simp] theorem State.savePrinter_clock (l : PrinterId) (s : State) : (s.savePrinter l).clock = s.clock := rfl
@[simp] theorem State.savePrinter_flags (l : PrinterId) (s : State) : (s.savePrinter l).flags = s.flags := rfl
@[simp] theorem State.savePrinter_nvs (l : PrinterId) (s : State) : (s.savePrinter l).nvs = { s.nvs with printersEnabled := tset s.nvs.printersEnabled l (s.printer l).enabled } := rfl
@[simp] theorem State.savePrinter_sent (l : PrinterId) (s : State) : (s.savePrinter l).sent = s.sent := rfl
@[simp] theorem State.savePrinter_pending (l : PrinterId) (s : State) : (s.savePrinter l).pending = s.pending := rfl

@[simp] theorem State.saveFlags_power (s : State) : (s.saveFlags).power = s.power := rfl
@[simp] theorem State.saveFlags_positions (s : State) : (s.saveFlags).positions = s.positions := rfl
@[simp] theorem State.saveFlags_ports (s : State) : (s.saveFlags).ports = s.ports := rfl
@[simp] theorem State.saveFlags_officePort (s : State) : (s.saveFlags).officePort = s.officePort := rfl
@[simp] theorem State.saveFlags_channels (s : State) : (s.saveFlags).channels = s.channels := rfl
@[simp] theorem State.saveFlags_scaleLines (s : State) : (s.saveFlags).scaleLines = s.scaleLines := rfl
@[simp] theorem State.saveFlags_tariffs (s : State) : (s.saveFlags).tariffs = s.tariffs := rfl
@[simp] theorem State.saveFlags_evaluator (s : State) : (s.saveFlags).evaluator = s.evaluator := rfl
@[simp] theorem State.saveFlags_accounts (s : State) : (s.saveFlags).accounts = s.accounts := rfl
@[simp] theorem State.saveFlags_supply (s : State) : (s.saveFlags).supply = s.supply := rfl
@[simp] theorem State.saveFlags_allocator (s : State) : (s.saveFlags).allocator = s.allocator := rfl
@[simp] theorem State.saveFlags_journal (s : State) : (s.saveFlags).journal = s.journal := rfl
@[simp] theorem State.saveFlags_printers (s : State) : (s.saveFlags).printers = s.printers := rfl
@[simp] theorem State.saveFlags_printerLines (s : State) : (s.saveFlags).printerLines = s.printerLines := rfl
@[simp] theorem State.saveFlags_labelCounts (s : State) : (s.saveFlags).labelCounts = s.labelCounts := rfl
@[simp] theorem State.saveFlags_clock (s : State) : (s.saveFlags).clock = s.clock := rfl
@[simp] theorem State.saveFlags_flags (s : State) : (s.saveFlags).flags = s.flags := rfl
@[simp] theorem State.saveFlags_nvs (s : State) : (s.saveFlags).nvs = { s.nvs with flags := s.flags } := rfl
@[simp] theorem State.saveFlags_sent (s : State) : (s.saveFlags).sent = s.sent := rfl
@[simp] theorem State.saveFlags_pending (s : State) : (s.saveFlags).pending = s.pending := rfl

@[simp] theorem State.saveTariffs_power (s : State) : (s.saveTariffs).power = s.power := rfl
@[simp] theorem State.saveTariffs_positions (s : State) : (s.saveTariffs).positions = s.positions := rfl
@[simp] theorem State.saveTariffs_ports (s : State) : (s.saveTariffs).ports = s.ports := rfl
@[simp] theorem State.saveTariffs_officePort (s : State) : (s.saveTariffs).officePort = s.officePort := rfl
@[simp] theorem State.saveTariffs_channels (s : State) : (s.saveTariffs).channels = s.channels := rfl
@[simp] theorem State.saveTariffs_scaleLines (s : State) : (s.saveTariffs).scaleLines = s.scaleLines := rfl
@[simp] theorem State.saveTariffs_tariffs (s : State) : (s.saveTariffs).tariffs = s.tariffs := rfl
@[simp] theorem State.saveTariffs_evaluator (s : State) : (s.saveTariffs).evaluator = s.evaluator := rfl
@[simp] theorem State.saveTariffs_accounts (s : State) : (s.saveTariffs).accounts = s.accounts := rfl
@[simp] theorem State.saveTariffs_supply (s : State) : (s.saveTariffs).supply = s.supply := rfl
@[simp] theorem State.saveTariffs_allocator (s : State) : (s.saveTariffs).allocator = s.allocator := rfl
@[simp] theorem State.saveTariffs_journal (s : State) : (s.saveTariffs).journal = s.journal := rfl
@[simp] theorem State.saveTariffs_printers (s : State) : (s.saveTariffs).printers = s.printers := rfl
@[simp] theorem State.saveTariffs_printerLines (s : State) : (s.saveTariffs).printerLines = s.printerLines := rfl
@[simp] theorem State.saveTariffs_labelCounts (s : State) : (s.saveTariffs).labelCounts = s.labelCounts := rfl
@[simp] theorem State.saveTariffs_clock (s : State) : (s.saveTariffs).clock = s.clock := rfl
@[simp] theorem State.saveTariffs_flags (s : State) : (s.saveTariffs).flags = s.flags := rfl
@[simp] theorem State.saveTariffs_nvs (s : State) : (s.saveTariffs).nvs = { s.nvs with
        bankA := s.tariffs.bankA.stored, bankB := s.tariffs.bankB.stored, counter := s.tariffs.counter,
        lastLoaded := s.tariffs.lastLoaded } := rfl
@[simp] theorem State.saveTariffs_sent (s : State) : (s.saveTariffs).sent = s.sent := rfl
@[simp] theorem State.saveTariffs_pending (s : State) : (s.saveTariffs).pending = s.pending := rfl

@[simp] theorem State.setBank_power (b : BankId) (bk : Bank) (s : State) : (s.setBank b bk).power = s.power := by cases b <;> rfl
@[simp] theorem State.setBank_positions (b : BankId) (bk : Bank) (s : State) : (s.setBank b bk).positions = s.positions := by cases b <;> rfl
@[simp] theorem State.setBank_ports (b : BankId) (bk : Bank) (s : State) : (s.setBank b bk).ports = s.ports := by cases b <;> rfl
@[simp] theorem State.setBank_officePort (b : BankId) (bk : Bank) (s : State) : (s.setBank b bk).officePort = s.officePort := by cases b <;> rfl
@[simp] theorem State.setBank_channels (b : BankId) (bk : Bank) (s : State) : (s.setBank b bk).channels = s.channels := by cases b <;> rfl
@[simp] theorem State.setBank_scaleLines (b : BankId) (bk : Bank) (s : State) : (s.setBank b bk).scaleLines = s.scaleLines := by cases b <;> rfl
@[simp] theorem State.setBank_evaluator (b : BankId) (bk : Bank) (s : State) : (s.setBank b bk).evaluator = s.evaluator := by cases b <;> rfl
@[simp] theorem State.setBank_accounts (b : BankId) (bk : Bank) (s : State) : (s.setBank b bk).accounts = s.accounts := by cases b <;> rfl
@[simp] theorem State.setBank_supply (b : BankId) (bk : Bank) (s : State) : (s.setBank b bk).supply = s.supply := by cases b <;> rfl
@[simp] theorem State.setBank_allocator (b : BankId) (bk : Bank) (s : State) : (s.setBank b bk).allocator = s.allocator := by cases b <;> rfl
@[simp] theorem State.setBank_journal (b : BankId) (bk : Bank) (s : State) : (s.setBank b bk).journal = s.journal := by cases b <;> rfl
@[simp] theorem State.setBank_printers (b : BankId) (bk : Bank) (s : State) : (s.setBank b bk).printers = s.printers := by cases b <;> rfl
@[simp] theorem State.setBank_printerLines (b : BankId) (bk : Bank) (s : State) : (s.setBank b bk).printerLines = s.printerLines := by cases b <;> rfl
@[simp] theorem State.setBank_labelCounts (b : BankId) (bk : Bank) (s : State) : (s.setBank b bk).labelCounts = s.labelCounts := by cases b <;> rfl
@[simp] theorem State.setBank_clock (b : BankId) (bk : Bank) (s : State) : (s.setBank b bk).clock = s.clock := by cases b <;> rfl
@[simp] theorem State.setBank_flags (b : BankId) (bk : Bank) (s : State) : (s.setBank b bk).flags = s.flags := by cases b <;> rfl
@[simp] theorem State.setBank_nvs (b : BankId) (bk : Bank) (s : State) : (s.setBank b bk).nvs = s.nvs := by cases b <;> rfl
@[simp] theorem State.setBank_sent (b : BankId) (bk : Bank) (s : State) : (s.setBank b bk).sent = s.sent := by cases b <;> rfl
@[simp] theorem State.setBank_pending (b : BankId) (bk : Bank) (s : State) : (s.setBank b bk).pending = s.pending := by cases b <;> rfl

@[simp] theorem State.setBank_bank_self (b : BankId) (bk : Bank) (s : State) : (s.setBank b bk).bank b = bk := by cases b <;> rfl

@[simp] theorem State.setBank_bank_other (b : BankId) (bk : Bank) (s : State) : (s.setBank b bk).bank b.other = s.bank b.other := by
  cases b <;> rfl

@[simp] theorem State.setBank_counter (b : BankId) (bk : Bank) (s : State) : (s.setBank b bk).tariffs.counter = s.tariffs.counter := by
  cases b <;> rfl

@[simp] theorem State.setBank_lastLoaded (b : BankId) (bk : Bank) (s : State) :
    (s.setBank b bk).tariffs.lastLoaded = s.tariffs.lastLoaded := by
  cases b <;> rfl

@[simp] theorem State.setCtx_ctx_self (p : PositionId) (c : PositionContext) (s : State) : (s.setCtx p c).ctx p = c := by
  simp [State.ctx]

theorem State.setCtx_ctx_ne (p q : PositionId) (c : PositionContext) (s : State) (h : q ≠ p) : (s.setCtx p c).ctx q = s.ctx q := by
  simp [State.ctx, tget_tset_ne _ _ _ _ h]

@[simp] theorem State.setChannel_channel_self (c : ChannelId) (ch : Channel) (s : State) : (s.setChannel c ch).channel c = ch := by
  simp [State.channel]

theorem State.setChannel_channel_ne (c d : ChannelId) (ch : Channel) (s : State) (h : d ≠ c) :
    (s.setChannel c ch).channel d = s.channel d := by
  simp [State.channel, tget_tset_ne _ _ _ _ h]

@[simp] theorem State.setAccount_account_self (a : AccountId) (x : Account) (s : State) : (s.setAccount a x).account a = x := by
  simp [State.account]

theorem State.setAccount_account_ne (a b : AccountId) (x : Account) (s : State) (h : b ≠ a) :
    (s.setAccount a x).account b = s.account b := by
  simp [State.account, tget_tset_ne _ _ _ _ h]

@[simp] theorem State.setPrinter_printer_self (l : PrinterId) (pr : Printer) (s : State) : (s.setPrinter l pr).printer l = pr := by
  simp [State.printer]

theorem State.setPrinter_printer_ne (l m : PrinterId) (pr : Printer) (s : State) (h : m ≠ l) :
    (s.setPrinter l pr).printer m = s.printer m := by
  simp [State.printer, tget_tset_ne _ _ _ _ h]

end Sys2Proof.Machine
end

