-- ==== Sys2Proof/Laws/Operations.lean ====
section
/-! SUPPORT. For each shared operation of Ops.lean, one lemma that says what it may change: its result is the state it began from with the named fields replaced. A later proof takes the lemma apart with `obtain` instead of unfolding the operation. -/

namespace Sys2Proof.Machine

theorem State.setBank_shape (b : BankId) (bk : Bank) (s : State) : ∃ ts, s.setBank b bk = { s with tariffs := ts } := by
  cases b <;> exact ⟨_, rfl⟩

theorem State.setItem_shape (p : PositionId) (k : Slot) (i : Option Item) (s : State) :
    ∃ ps, s.setItem p k i = { s with positions := ps } := by
  unfold State.setItem
  split <;> exact ⟨_, rfl⟩

/-- R116, R117. -/
theorem State.release_shape (b : BankId) (s : State) : ∃ ts, s.release b = { s with tariffs := ts } := State.setBank_shape _ _ _

/-- R27, R32. -/
theorem State.releaseQuote_shape (i : Item) (s : State) : ∃ ts, s.releaseQuote i = { s with tariffs := ts } := by
  unfold State.releaseQuote
  split
  · exact State.release_shape _ _
  · exact ⟨_, rfl⟩

/-- R34, R36, R29. -/
theorem State.requote_shape (p : PositionId) (k : Slot) (st : ItemState) (s : State) :
    ∃ ts ps, s.requote p k st = { s with tariffs := ts, positions := ps } := by
  unfold State.requote
  split
  · next i _ =>
    obtain ⟨ts, h⟩ := State.releaseQuote_shape i s
    obtain ⟨ps, h'⟩ := State.setItem_shape p k (some { i with state := st, quote := none }) (s.releaseQuote i)
    exact ⟨ts, ps, by rw [h', h]⟩
  · exact ⟨_, _, rfl⟩

/-- R32. -/
theorem State.releaseAll_shape (t : Transaction) (s : State) : ∃ ts, s.releaseAll t = { s with tariffs := ts } := by
  unfold State.releaseAll
  induction t.toList generalizing s with
  | nil => exact ⟨_, rfl⟩
  | cons o os ih =>
    rw [List.foldl_cons]
    cases o with
    | none => exact ih s
    | some i =>
      obtain ⟨ts, h⟩ := State.releaseQuote_shape i s
      obtain ⟨ts', h'⟩ := ih (s.releaseQuote i)
      exact ⟨ts', by rw [h', h]⟩

/-- R16, R19. -/
theorem State.handCompletion_shape (p : PositionId) (r : Completion) (s : State) :
    ∃ ps se, s.handCompletion p r = { s with positions := ps, sent := se } := by
  unfold State.handCompletion
  split
  · dsimp only
    split <;> exact ⟨_, _, rfl⟩
  · exact ⟨_, _, rfl⟩

/-- R35. -/
theorem State.applyWeighEnd_shape (p : PositionId) (k : Slot) (status : Reason) (reading : Nat) (s : State) :
    ∃ ps, s.applyWeighEnd p k status reading = { s with positions := ps } := by
  unfold State.applyWeighEnd
  split
  · split
    · exact State.setItem_shape _ _ _ _
    · exact ⟨_, rfl⟩
  · exact ⟨_, rfl⟩

/-- R35, R56, R57. -/
theorem State.finishWeigh_shape (p : PositionId) (k : Slot) (status : Reason) (reading : Nat) (s : State) :
    ∃ ps se, s.finishWeigh p k status reading = { s with positions := ps, sent := se } := by
  unfold State.finishWeigh
  dsimp only
  obtain ⟨ps, h⟩ := State.applyWeighEnd_shape p k status reading s
  rw [h]
  exact State.handCompletion_shape _ _ _

/-- R57. -/
theorem State.endWeigh_shape (c : ChannelId) (status : Reason) (reading : Nat) (s : State) :
    ∃ cs ps se, s.endWeigh c status reading = { s with channels := cs, positions := ps, sent := se } := by
  unfold State.endWeigh
  split
  · next p k _ =>
    obtain ⟨ps, se, h⟩ := State.finishWeigh_shape p k status reading (s.setChannel c (s.channel c).freed)
    exact ⟨_, ps, se, by rw [h]; rfl⟩
  · exact ⟨_, _, _, rfl⟩

/-- R37. -/
theorem State.returnItem_shape (p : PositionId) (k : Slot) (s : State) : ∃ ps, s.returnItem p k = { s with positions := ps } := by
  unfold State.returnItem
  split
  · split
    · exact State.setItem_shape _ _ _ _
    · exact ⟨_, rfl⟩
  · exact ⟨_, rfl⟩

/-- R100. -/
theorem State.handRateDone_shape (op : Operation) (last : Slot) (status : Reason) (s : State) :
    ∃ ps se, s.handRateDone op last status = { s with positions := ps, sent := se } := by
  unfold State.handRateDone
  exact State.handCompletion_shape _ _ _

/-- R87, R102. -/
theorem State.endRating_shape (op : Operation) (status : Reason) (s : State) :
    ∃ ev ps se, s.endRating op status = { s with evaluator := ev, positions := ps, sent := se } := by
  unfold State.endRating
  obtain ⟨ps, h⟩ := State.returnItem_shape op.position op.slot s
  obtain ⟨ps', se, h'⟩ := State.handRateDone_shape op op.slot status ((s.returnItem op.position op.slot).setEvaluatorState .idle)
  exact ⟨_, ps', se, by rw [h', h]; rfl⟩

/-- R41. -/
theorem State.reportLabel_shape (p : PositionId) (num : Nat) (st : LabelState) (s : State) :
    ∃ ps, s.reportLabel p num st = { s with positions := ps } := by
  unfold State.reportLabel
  split <;> exact ⟨_, rfl⟩

/-- R156. -/
theorem State.sendHead_shape (l : PrinterId) (s : State) :
    ∃ pr nv se ps, s.sendHead l = { s with printers := pr, nvs := nv, sent := se, positions := ps } := by
  unfold State.sendHead
  split
  · dsimp only
    obtain ⟨ps, h⟩ := State.reportLabel_shape _ _ _ _
    rw [h]
    exact ⟨_, _, _, ps, rfl⟩
  · exact ⟨_, _, _, _, rfl⟩

/-- R158, R159, R160, R164. -/
theorem State.returnHead_shape (l : PrinterId) (st : PrinterState) (s : State) :
    ∃ pr ps, s.returnHead l st = { s with printers := pr, positions := ps } := by
  unfold State.returnHead
  split
  · obtain ⟨ps, h⟩ := State.reportLabel_shape _ _ _ _
    rw [h]
    exact ⟨_, ps, rfl⟩
  · exact ⟨_, _, rfl⟩

/-- R157. -/
theorem State.finishHead_shape (l : PrinterId) (s : State) :
    ∃ pr nv se ps lc, s.finishHead l = { s with printers := pr, nvs := nv, sent := se, positions := ps, labelCounts := lc } := by
  unfold State.finishHead
  split
  · obtain ⟨pr, nv, se, ps, h⟩ := State.sendHead_shape l _
    rw [h]
    obtain ⟨ps1, se1, h1⟩ := State.handCompletion_shape _ _ _
    rw [h1]
    obtain ⟨ps2, h2⟩ := State.reportLabel_shape _ _ _ _
    rw [h2]
    exact ⟨pr, nv, se, ps, _, rfl⟩
  · exact ⟨_, _, _, _, _, rfl⟩

/-- R162. -/
theorem State.withdrawJob_shape (num : Nat) (s : State) :
    ∃ pr nv se ps lc,
      (s.withdrawJob num).1 = { s with printers := pr, nvs := nv, sent := se, positions := ps, labelCounts := lc } := by
  unfold State.withdrawJob
  split
  · split
    · split
      · obtain ⟨pr, nv, se, ps, h⟩ := State.sendHead_shape _ _
        rw [h]
        exact ⟨pr, nv, se, ps, _, rfl⟩
      · exact ⟨_, _, _, _, _, rfl⟩
    · exact ⟨_, _, _, _, _, rfl⟩
  · exact ⟨_, _, _, _, _, rfl⟩

/-- R155. -/
theorem State.queueJob_shape (l : PrinterId) (j : Job) (s : State) :
    ∃ pr nv se ps lc, s.queueJob l j = { s with printers := pr, nvs := nv, sent := se, positions := ps, labelCounts := lc } := by
  unfold State.queueJob
  obtain ⟨pr, nv, se, ps, h⟩ := State.sendHead_shape l _
  rw [h]
  exact ⟨pr, nv, se, ps, _, rfl⟩

/-- R165. -/
theorem State.sendHeads_shape (s : State) :
    ∃ pr nv se ps, s.sendHeads = { s with printers := pr, nvs := nv, sent := se, positions := ps } := by
  unfold State.sendHeads
  obtain ⟨_, _, _, _, h0⟩ := State.sendHead_shape 0 s
  rw [h0]
  obtain ⟨_, _, _, _, h1⟩ := State.sendHead_shape 1 _
  rw [h1]
  obtain ⟨_, _, _, _, h2⟩ := State.sendHead_shape 2 _
  rw [h2]
  obtain ⟨pr, nv, se, ps, h3⟩ := State.sendHead_shape 3 _
  rw [h3]
  exact ⟨pr, nv, se, ps, rfl⟩

/-- R119. -/
theorem State.expireGrace_shape (b : BankId) (s : State) :
    ∃ ts ps ev, s.expireGrace b = { s with tariffs := ts, positions := ps, evaluator := ev } := by
  unfold State.expireGrace
  dsimp only
  obtain ⟨ts, h⟩ := State.setBank_shape b _ _
  rw [h]
  exact ⟨ts, _, _, rfl⟩

/-- R114. -/
theorem State.activate_shape (b : BankId) (s : State) :
    ∃ ts ps ev nv, s.activate b = { s with tariffs := ts, positions := ps, evaluator := ev, nvs := nv } := by
  unfold State.activate
  dsimp only
  obtain ⟨ts, h⟩ := State.setBank_shape b { s.bank b with state := .active } s
  rw [h]
  obtain ⟨ts', h'⟩ := State.setBank_shape b.other ((s.bank b.other).superseded ((s.bank b).grace.getD 0) (s.bank b).effective) { s with tariffs := ts }
  rw [h']
  split
  · obtain ⟨ts2, ps, ev, h2⟩ := State.expireGrace_shape b.other (State.saveTariffs { s with tariffs := ts' })
    exact ⟨ts2, ps, ev, _, by rw [h2]; rfl⟩
  · exact ⟨_, _, _, _, rfl⟩

/-- R118. -/
theorem State.tickGrace_shape (b : BankId) (s : State) :
    ∃ ts ps ev, s.tickGrace b = { s with tariffs := ts, positions := ps, evaluator := ev } := by
  unfold State.tickGrace
  split
  · split
    · exact State.expireGrace_shape _ _
    · obtain ⟨ts, h⟩ := State.setBank_shape b _ s
      exact ⟨ts, _, _, by rw [h]⟩
  · exact ⟨_, _, _, rfl⟩

/-- R14. -/
theorem State.forcedDetach_shape (p : PositionId) (s : State) :
    ∃ cs ev ts ps, s.forcedDetach p = { s with channels := cs, evaluator := ev, tariffs := ts, positions := ps } := by
  unfold State.forcedDetach
  split
  · dsimp only
    split
    · obtain ⟨ts, h⟩ := State.releaseAll_shape _ _
      rw [h]
      exact ⟨_, _, ts, _, rfl⟩
    · exact ⟨_, _, _, _, rfl⟩
  · exact ⟨_, _, _, _, rfl⟩

/-- R14: a forced detach finds nothing to clear in LINKED and OFFLINE. -/
theorem State.forcedDetach_unattached (p : PositionId) (s : State) (h : (s.ctx p).state.clerked = false) : s.forcedDetach p = s := by
  simp [State.forcedDetach, h]

/-- R16: a record for a position that is OFFLINE or LINKED is discarded. -/
theorem State.handCompletion_discards (p : PositionId) (r : Completion) (s : State) (h : (s.ctx p).state.clerked = false) :
    s.handCompletion p r = s := by
  simp [State.handCompletion, h]

/-- R57: a channel without a weigh is left as it is. -/
theorem State.endWeigh_idle (c : ChannelId) (status : Reason) (reading : Nat) (s : State) (h : (s.channel c).weigh = .idle) :
    s.endWeigh c status reading = s := by
  simp [State.endWeigh, h]

/-- R156: a printer that is not READY sends nothing. -/
theorem State.sendHead_notReady (l : PrinterId) (s : State) (h : (s.printer l).state ≠ .ready) : s.sendHead l = s := by
  unfold State.sendHead
  split
  · next h' _ => exact absurd h' h
  · rfl

/-- R156: a printer without a job sends nothing. -/
theorem State.sendHead_empty (l : PrinterId) (s : State) (h : (s.printer l).queue = []) : s.sendHead l = s := by
  unfold State.sendHead
  split
  · next h' => rw [h] at h'; cases h'
  · rfl

/-! ### Bytes on a port -/

theorem State.receivePosition_shape (p : PositionId) (bytes : List Byte) (s : State) :
    ∃ ports, s.receivePosition p bytes = { s with ports := ports } := by
  unfold State.receivePosition
  split
  · exact ⟨_, rfl⟩
  · exact ⟨s.ports, rfl⟩

theorem State.receiveOffice_shape (input : LineInput) (s : State) :
    ∃ port, s.receiveOffice input = { s with officePort := port } := ⟨_, rfl⟩

@[simp] theorem Port.cutShort_held (port : Port) : port.cutShort.held = port.held := rfl
@[simp] theorem Port.cutShort_rx (port : Port) : port.cutShort.rx = [] := rfl

/-- R6, R168: a port within its room stays within it, whatever arrives. -/
theorem Port.receive_room (sync : Byte) (room : Nat) (bytes : List Byte) (port : Port) (h : port.held.length ≤ room) :
    (port.receive sync room bytes).held.length ≤ room := by
  simp only [Port.receive, List.length_append, List.length_take]
  omega

end Sys2Proof.Machine
end

