-- ==== Sys2Proof/Laws/Taking.lean ====
section
/-! SUPPORT. Taking a request or a command (R6 to R9, R168, R169): what `State.request` and `State.command` answer, said once for each way they can go, and the readers of payloads on the bytes that spell a value. -/

namespace Sys2Proof.Machine

theorem State.running_on (f : State → State) (s : State) (h : s.power = .running) :
    s.running f = .next (f { s with sent := [] }) := by
  simp [State.running, h]

theorem State.running_off (f : State → State) (s : State) (h : s.power ≠ .running) : s.running f = .next { s with sent := [] } := by
  simp [State.running, h]

/-- R6: the frame that waits is taken. -/
theorem State.takeRequest_waiting (p : PositionId) (f : Frame) (rest : List Frame) (s : State)
    (h : (tget s.ports p).held = f :: rest) :
    s.takeRequest p f = some { s with ports := tset s.ports p { tget s.ports p with held := rest } } := by
  simp [State.takeRequest, h]

/-- R8: a request that passes the four checks is served, and answered on its port. -/
theorem State.request_served {α : Type} (form : RequestForm α) (p : PositionId) (tag : Byte) (payload : List Byte)
    (serve : α → State → State × Answer) (rest : List Frame) (a : α) (s : State)
    (h : (tget s.ports p).held = ⟨form.code, tag, payload⟩ :: rest) (he : (s.ctx p).config.enabled = true)
    (hr : form.read payload = some a) (hs : form.served (s.ctx p).state = true)
    (hk : ∀ k, form.slot a = some k → (s.item p k).isSome = true) :
    s.request form p tag payload serve =
      let r := serve a { s with ports := tset s.ports p { tget s.ports p with held := rest } }
      r.1.respond p ⟨form.code, tag, payload⟩ (form.slotByte payload) r.2 := by
  simp only [State.request, State.takeRequest_waiting p _ rest s h]
  have he' : (State.ctx { s with ports := tset s.ports p { tget s.ports p with held := rest } } p).config.enabled = true := he
  have hs' : form.served (State.ctx { s with ports := tset s.ports p { tget s.ports p with held := rest } } p).state = true := hs
  simp only [State.judge, he', hr, hs']
  cases hslot : form.slot a with
  | none => simp
  | some k =>
    have hi : (State.item { s with ports := tset s.ports p { tget s.ports p with held := rest } } p k).isSome = true := hk k hslot
    simp [Option.isNone_iff_eq_none, Option.isSome_iff_ne_none.mp hi]

/-- R8 check 3. -/
theorem State.request_unserved {α : Type} (form : RequestForm α) (p : PositionId) (tag : Byte) (payload : List Byte)
    (serve : α → State → State × Answer) (rest : List Frame) (a : α) (s : State)
    (h : (tget s.ports p).held = ⟨form.code, tag, payload⟩ :: rest) (he : (s.ctx p).config.enabled = true)
    (hr : form.read payload = some a) (hs : form.served (s.ctx p).state = false) :
    s.request form p tag payload serve =
      State.respond p ⟨form.code, tag, payload⟩ (form.slotByte payload) (.refuse .state)
        { s with ports := tset s.ports p { tget s.ports p with held := rest } } := by
  simp only [State.request, State.takeRequest_waiting p _ rest s h]
  have he' : (State.ctx { s with ports := tset s.ports p { tget s.ports p with held := rest } } p).config.enabled = true := he
  have hs' : form.served (State.ctx { s with ports := tset s.ports p { tget s.ports p with held := rest } } p).state = false := hs
  simp [State.judge, he', hr, hs']

/-- R8 check 4. -/
theorem State.request_emptySlot {α : Type} (form : RequestForm α) (p : PositionId) (tag : Byte) (payload : List Byte)
    (serve : α → State → State × Answer) (rest : List Frame) (a : α) (k : Slot) (s : State)
    (h : (tget s.ports p).held = ⟨form.code, tag, payload⟩ :: rest) (he : (s.ctx p).config.enabled = true)
    (hr : form.read payload = some a) (hs : form.served (s.ctx p).state = true) (hslot : form.slot a = some k)
    (hk : s.item p k = none) :
    s.request form p tag payload serve =
      State.respond p ⟨form.code, tag, payload⟩ (form.slotByte payload) (.refuse .state)
        { s with ports := tset s.ports p { tget s.ports p with held := rest } } := by
  simp only [State.request, State.takeRequest_waiting p _ rest s h]
  have he' : (State.ctx { s with ports := tset s.ports p { tget s.ports p with held := rest } } p).config.enabled = true := he
  have hs' : form.served (State.ctx { s with ports := tset s.ports p { tget s.ports p with held := rest } } p).state = true := hs
  have hi : State.item { s with ports := tset s.ports p { tget s.ports p with held := rest } } p k = none := hk
  simp [State.judge, he', hr, hs', hslot, hi]

/-- R8 check 2. -/
theorem State.request_malformed {α : Type} (form : RequestForm α) (p : PositionId) (tag : Byte) (payload : List Byte)
    (serve : α → State → State × Answer) (rest : List Frame) (s : State)
    (h : (tget s.ports p).held = ⟨form.code, tag, payload⟩ :: rest) (he : (s.ctx p).config.enabled = true)
    (hr : form.read payload = none) :
    s.request form p tag payload serve =
      State.respond p ⟨form.code, tag, payload⟩ (form.slotByte payload) (.refuse .format)
        { s with ports := tset s.ports p { tget s.ports p with held := rest } } := by
  simp only [State.request, State.takeRequest_waiting p _ rest s h]
  have he' : (State.ctx { s with ports := tset s.ports p { tget s.ports p with held := rest } } p).config.enabled = true := he
  simp [State.judge, he', hr]

/-- R8 check 1. -/
theorem State.request_disabled {α : Type} (form : RequestForm α) (p : PositionId) (tag : Byte) (payload : List Byte)
    (serve : α → State → State × Answer) (rest : List Frame) (s : State)
    (h : (tget s.ports p).held = ⟨form.code, tag, payload⟩ :: rest) (he : (s.ctx p).config.enabled = false) :
    s.request form p tag payload serve =
      State.respond p ⟨form.code, tag, payload⟩ (form.slotByte payload) .unavailable
        { s with ports := tset s.ports p { tget s.ports p with held := rest } } := by
  simp only [State.request, State.takeRequest_waiting p _ rest s h]
  have he' : (State.ctx { s with ports := tset s.ports p { tget s.ports p with held := rest } } p).config.enabled = false := he
  simp [State.judge, he']

/-- R168, R169: a well-formed command that waits is taken, served and answered. -/
theorem State.command_served {α : Type} (code : Byte) (read : List Byte → Option α) (tag : Byte) (payload : List Byte)
    (serve : α → State → State × OfficeAnswer) (rest : List Frame) (a : α) (s : State)
    (h : s.officePort.held = ⟨code, tag, payload⟩ :: rest) (hr : read payload = some a) :
    s.command code read tag payload serve =
      let r := serve a { s with officePort := { s.officePort with held := rest } }
      r.1.answer ⟨code, tag, payload⟩ r.2 := by
  simp [State.command, State.takeCommand, h, hr]

/-- R169. -/
theorem State.command_malformed {α : Type} (code : Byte) (read : List Byte → Option α) (tag : Byte) (payload : List Byte)
    (serve : α → State → State × OfficeAnswer) (rest : List Frame) (s : State)
    (h : s.officePort.held = ⟨code, tag, payload⟩ :: rest) (hr : read payload = none) :
    s.command code read tag payload serve =
      State.answer ⟨code, tag, payload⟩ (.refused .format []) { s with officePort := { s.officePort with held := rest } } := by
  simp [State.command, State.takeCommand, h, hr]

/-! ### A command of the table that finds its frame waiting -/

/-- R6 to R9: a request that waits and passes the checks is served on the state without its frame, and answered. -/
theorem State.running_request_served {α : Type} (form : RequestForm α) (p : PositionId) (tag : Byte) (payload : List Byte)
    (serve : α → State → State × Answer) (rest : List Frame) (a : α) (s : State)
    (h : s.requestWaits p ⟨form.code, tag, payload⟩ rest) (hr : form.read payload = some a)
    (hs : form.served (s.ctx p).state = true) (hk : ∀ k, form.slot a = some k → (s.item p k).isSome = true) :
    s.running (State.request form p tag payload serve) =
      .next (State.respond p ⟨form.code, tag, payload⟩ (form.slotByte payload) (serve a (s.afterRequest p rest [])).2
        (serve a (s.afterRequest p rest [])).1) := by
  rw [State.running_on _ _ h.1,
    State.request_served form p tag payload serve rest a { s with sent := [] } h.2.2 h.2.1 hr hs hk]
  rfl

/-- R8 check 3. -/
theorem State.running_request_unserved {α : Type} (form : RequestForm α) (p : PositionId) (tag : Byte) (payload : List Byte)
    (serve : α → State → State × Answer) (rest : List Frame) (a : α) (s : State)
    (h : s.requestWaits p ⟨form.code, tag, payload⟩ rest) (hr : form.read payload = some a)
    (hs : form.served (s.ctx p).state = false) :
    s.running (State.request form p tag payload serve) =
      .next (State.respond p ⟨form.code, tag, payload⟩ (form.slotByte payload) (.refuse .state) (s.afterRequest p rest [])) := by
  rw [State.running_on _ _ h.1,
    State.request_unserved form p tag payload serve rest a { s with sent := [] } h.2.2 h.2.1 hr hs]
  rfl

/-- R8 check 4. -/
theorem State.running_request_emptySlot {α : Type} (form : RequestForm α) (p : PositionId) (tag : Byte) (payload : List Byte)
    (serve : α → State → State × Answer) (rest : List Frame) (a : α) (k : Slot) (s : State)
    (h : s.requestWaits p ⟨form.code, tag, payload⟩ rest) (hr : form.read payload = some a)
    (hs : form.served (s.ctx p).state = true) (hslot : form.slot a = some k) (hk : s.item p k = none) :
    s.running (State.request form p tag payload serve) =
      .next (State.respond p ⟨form.code, tag, payload⟩ (form.slotByte payload) (.refuse .state) (s.afterRequest p rest [])) := by
  rw [State.running_on _ _ h.1,
    State.request_emptySlot form p tag payload serve rest a k { s with sent := [] } h.2.2 h.2.1 hr hs hslot hk]
  rfl

/-- R8 check 2. -/
theorem State.running_request_malformed {α : Type} (form : RequestForm α) (p : PositionId) (tag : Byte) (payload : List Byte)
    (serve : α → State → State × Answer) (rest : List Frame) (s : State)
    (h : s.requestWaits p ⟨form.code, tag, payload⟩ rest) (hr : form.read payload = none) :
    s.running (State.request form p tag payload serve) =
      .next (State.respond p ⟨form.code, tag, payload⟩ (form.slotByte payload) (.refuse .format) (s.afterRequest p rest [])) := by
  rw [State.running_on _ _ h.1, State.request_malformed form p tag payload serve rest { s with sent := [] } h.2.2 h.2.1 hr]
  rfl

/-- R168, R169: a well-formed command that waits is served on the state without its frame, and answered. -/
theorem State.running_command_served {α : Type} (code : Byte) (read : List Byte → Option α) (tag : Byte) (payload : List Byte)
    (serve : α → State → State × OfficeAnswer) (rest : List Frame) (a : α) (s : State)
    (h : s.commandWaits ⟨code, tag, payload⟩ rest) (hr : read payload = some a) :
    s.running (State.command code read tag payload serve) =
      .next (State.answer ⟨code, tag, payload⟩ (serve a (s.afterCommand rest [])).2 (serve a (s.afterCommand rest [])).1) := by
  rw [State.running_on _ _ h.1, State.command_served code read tag payload serve rest a { s with sent := [] } h.2 hr]
  rfl

/-- R169. -/
theorem State.running_command_malformed {α : Type} (code : Byte) (read : List Byte → Option α) (tag : Byte) (payload : List Byte)
    (serve : α → State → State × OfficeAnswer) (rest : List Frame) (s : State)
    (h : s.commandWaits ⟨code, tag, payload⟩ rest) (hr : read payload = none) :
    s.running (State.command code read tag payload serve) =
      .next (State.answer ⟨code, tag, payload⟩ (.refused .format []) (s.afterCommand rest [])) := by
  rw [State.running_on _ _ h.1, State.command_malformed code read tag payload serve rest { s with sent := [] } h.2 hr]
  rfl

/-! ### Readers -/

@[simp] theorem readFin_ofNat {n : Nat} (hn : n ≤ 256) (k : Fin n) : readFin n (BitVec.ofNat 8 k.val) = some k := by
  have h : k.val % 256 = k.val := Nat.mod_eq_of_lt (by omega)
  simp [readFin, h]

@[simp] theorem readSlot_ofNat (k : Slot) : readSlot [BitVec.ofNat 8 k.val] = some k := by
  simp only [readSlot]
  exact readFin_ofNat (by decide) k

theorem firstSlotByte_ofNat (code : Byte) (k : Slot) :
    firstSlotByte code 1 [BitVec.ofNat 8 k.val] = BitVec.ofNat 8 k.val := by
  have h : k.val % 256 = k.val := Nat.mod_eq_of_lt (by omega)
  simp [firstSlotByte, h]

/-- The bytes of a number hold the number, as far as they reach. -/
theorem leNat_leBytes (n v : Nat) : leNat (leBytes n v) = v % 256 ^ n := by
  induction n generalizing v with
  | zero => simp [leBytes, leNat, Nat.mod_one]
  | succ n ih =>
    rw [leBytes, leNat, ih, BitVec.toNat_ofNat]
    have h : 256 ^ (n + 1) = 256 * 256 ^ n := by rw [Nat.pow_succ, Nat.mul_comm]
    rw [h, Nat.mod_mul]

@[simp] theorem leBytes_length (n v : Nat) : (leBytes n v).length = n := by
  induction n generalizing v with
  | zero => rfl
  | succ n ih => simp [leBytes, ih]

end Sys2Proof.Machine
end

