-- ==== Sys2Proof/WellFormed.lean ====
section
/-! DEFINITION. Which commands can stand for a frame of the ports at all: the envelope's length (section 11.1, R179) and the code of the two UNKNOWN rows (R8, R169). -/

namespace Sys2Proof

/-- Section 11.1: the length field, 2 to 1,024, counts code, tag and payload, so a payload has at most 1,022 bytes. -/
def payloadFits (payload : List Byte) : Bool := payload.length ≤ 1022

/-- Section 11.2: the sixteen request codes, 01H to 10H. -/
def knownRequestCode (code : Byte) : Bool := 1 ≤ code.toNat && code.toNat ≤ 16

/-- Section 11.6: the eighteen command codes, 01H to 12H. -/
def knownCommandCode (code : Byte) : Bool := 1 ≤ code.toNat && code.toNat ≤ 18

/-- A command that can arise: the payload of a frame fits its envelope, and an UNKNOWN row's code is not a known one. -/
def Instr.wellFormed : Instr → Bool
  | .attach _ _ pl | .detach _ _ pl | .beginTransaction _ _ pl | .add _ _ pl | .amend _ _ pl | .drop _ _ pl
  | .weigh _ _ pl | .zero _ _ pl | .rate _ _ pl | .detail _ _ pl | .accept _ _ pl | .void _ _ pl
  | .cancel _ _ pl | .collect _ _ pl | .finish _ _ pl | .query _ _ pl => payloadFits pl
  | .status _ pl | .time _ pl | .flags _ pl | .position _ pl | .scale _ pl | .printer _ pl | .redirect _ pl
  | .account _ pl | .credit _ pl | .block _ pl | .loadBegin _ pl | .loadPart _ pl | .loadEnd _ pl
  | .loadAbandon _ pl | .activate _ pl | .journalRead _ pl | .journalRelease _ pl | .restart _ pl => payloadFits pl
  | .unknownRequestCode _ code _ pl => !knownRequestCode code && payloadFits pl
  | .unknownCommandCode code _ pl => !knownCommandCode code && payloadFits pl
  | .linkUp _ | .linkDown _ | .positionFrameReceived _ _ | .sampleFrame _ _ | .settleTimerExpiry _
  | .weighTimerExpiry _ | .evaluationStart | .checkStep | .termStep | .deliveryStep | .chainStep
  | .evaluationHalt | .officeFrameReceived _ | .restartRebuild | .powerOn _ | .supplyFailure | .supplySample _
  | .tick | .graceExpiry _ | .loadIdleTimeout _ | .printerDone _ _ _ _ _ | .printerFault _ _ _ _ _
  | .printerReady _ _ _ _ _ | .printTimeout _ => true

end Sys2Proof
end

