-- ==== Sys2Proof/Tests/Slice0.lean ====
section
/-! SUPPORT. Small tests, each expected result taken from the spec, and the witnesses: for every statement with hypotheses, a concrete state and operands that meet them, for each of its clauses. -/

namespace Sys2Proof.Tests

open Sys2Proof Sys2Proof.Machine

set_option Elab.async false

/-! ### Well-formedness: an ill-formed term for each check -/

theorem test_wellFormed_request_too_long : (Instr.attach 0 7 (List.replicate 1023 0)).wellFormed = false := by decide +kernel
theorem test_wellFormed_request_longest : (Instr.query 15 7 (List.replicate 1022 0)).wellFormed = true := by decide +kernel
theorem test_wellFormed_command_too_long : (Instr.status 7 (List.replicate 1023 0)).wellFormed = false := by decide +kernel
theorem test_wellFormed_unknown_request_code : (Instr.unknownRequestCode 0 0x10 7 []).wellFormed = false := by decide
theorem test_wellFormed_unknown_request_length :
    (Instr.unknownRequestCode 0 0x11 7 (List.replicate 1023 0)).wellFormed = false := by decide +kernel
theorem test_wellFormed_unknown_command_code : (Instr.unknownCommandCode 0x12 7 []).wellFormed = false := by decide
theorem test_wellFormed_unknown_command_length :
    (Instr.unknownCommandCode 0x13 7 (List.replicate 1023 0)).wellFormed = false := by decide +kernel
theorem test_wellFormed_unknown_rows :
    (Instr.unknownRequestCode 0 0x11 7 []).wellFormed ∧ (Instr.unknownCommandCode 0x13 7 []).wellFormed := by decide
/-- The table gives no row any bits (log 1). -/
theorem test_no_word_spells_a_command : decodeTableWord 32 0xFFFFFFFF = none := rfl

/-! ### Checks and codings -/

/-- The catalogued check value of the CRC-16 of section 11.1 (divisor 1021H, start FFFFH). -/
theorem test_crc16 : crc16 [0x31, 0x32, 0x33, 0x34, 0x35, 0x36, 0x37, 0x38, 0x39] = 0x29B1 := by decide +kernel
/-- The catalogued check value of the 32-bit check of R65. -/
theorem test_crc32 : crc32 [0x31, 0x32, 0x33, 0x34, 0x35, 0x36, 0x37, 0x38, 0x39] = 0xCBF43926 := by decide +kernel
theorem test_packed_decimal : bcdBytes 3 10115 = [0x01, 0x01, 0x15] ∧ bcdNat [0x01, 0x01, 0x15] = some 10115 ∧ bcdNat [0x0A] = none := by
  decide
theorem test_signed_field : leInt 3 (-5) = [0xFB, 0xFF, 0xFF] ∧ signedOf 24 0xFFFFFB = -5 ∧ signedOf 24 0x7FFFFF = 8388607 := by
  decide
/-- Chapter 7, worked example: the numbers of serials 12,345 and 12,346 at office 40312. -/
theorem test_item_numbers : itemNumber 40312 12345 = 40312000123450 ∧ itemNumber 40312 12346 = 40312000123468 := by decide +kernel

/-! ### Worked figures of the arithmetic -/

/-- Section 3.7: the settings of channel S2. -/
def scaleS2 : ScaleConfig :=
  { enabled := true, capacity := 30000, division := 2, calibratedZero := 120000, span := 6554, spikeLimit := 5000, band := 2,
    settle := 600 }

/-- Section 3.7, the table of conversions. -/
theorem test_readings :
    [143421, 143424, 143420, 119990, 120000].map (fun x => readingOf scaleS2 x 120000) = [2342, 2344, 2342, -2, 0] := by decide +kernel
theorem test_raw_weights : [143421, 143424, 119990].map (fun x => rawWeight scaleS2 x 120000) = [2342, 2343, -1] := by decide +kernel
theorem test_filtered_counts : filterCounts [-3, -4] = -4 ∧ filterCounts [143418, 143424, 143421, 143419] = 143420 := by decide +kernel
/-- Section 3.7: the capture bounds and the zero range of S2. -/
theorem test_capture_bounds :
    [30019, 30018, 40, 39, -40, -41].map (captureStatus scaleS2) =
      [.overload, .ok, .ok, .belowMinimum, .belowMinimum, .underload] := by decide +kernel
theorem test_zero_range : zeroRange scaleS2 = 5999 := by decide +kernel
/-- Chapter 5, "rounding at the edges", granule 5. -/
theorem test_rounding :
    [1, 249, 250, 500, 750].map (fun a => (roundGranules .up a 500 * 5, roundGranules .nearest a 500 * 5, roundGranules .down a 500 * 5)) =
      [(5, 0, 0), (5, 0, 0), (5, 5, 0), (5, 5, 5), (10, 10, 5)] := by decide +kernel
/-- Chapter 5, cases B and D: a cap, and the lower bound of the accumulator. -/
theorem test_caps : capped 600000 6000000 = 600000 ∧ capped 20000 (-72000) = -20000 ∧ capped 0 (-72000) = -72000 := by decide
theorem test_saturation : saturate (-268435456000000) = -140737488355327 ∧ saturate 268435424000000 = 140737488355327 := by decide

/-! ### The tariff of the worked rating (chapters 4 and 5) -/

/-- Section 11.7: a schedule record: offered, volumetric, rounding, terms, divisor, base, step, weight, side, girth, granule, value, ceiling. -/
def scheduleBytes (volumetric rounding terms divisor base stepWeight weight side girth granule value ceiling : Nat) : List Byte :=
  [1, BitVec.ofNat 8 volumetric, BitVec.ofNat 8 rounding, BitVec.ofNat 8 terms] ++
    [divisor, base, stepWeight, weight, side, girth].flatMap (leBytes 2) ++ [BitVec.ofNat 8 granule] ++ leBytes 4 value ++
    leBytes 4 ceiling ++ List.replicate 23 0

/-- Section 11.7: a term record: basis, flag condition, extras, coefficient, zone mask; all bands, no threshold, no cap. -/
def termBytes (basis flag extras coefficient zones : Nat) : List Byte :=
  [BitVec.ofNat 8 basis, BitVec.ofNat 8 flag, BitVec.ofNat 8 extras] ++ leBytes 3 coefficient ++ leBytes 2 zones ++ leBytes 4 0 ++
    leBytes 4 0xFFFFFFFF ++ leBytes 4 0 ++ leBytes 4 0 ++ leBytes 4 0

/-- The header of the worked image (R64). -/
def imageHead (check : Nat) : List Byte :=
  leBytes 4 7001 ++ leBytes 4 1000 ++ leBytes 2 1556 ++ [10, 0] ++ leBytes 4 check ++ leBytes 4 40312 ++ List.replicate 12 0

/-- Its schedules and terms (R62, R67, R71). -/
def imageTail : List Byte :=
  List.replicate 48 0 ++ scheduleBytes 1 0 5 5000 1000 500 30000 1200 3000 5 500000 500000 ++ List.replicate 288 0 ++
    termBytes 0 0 0 65000 0xFFFF ++ termBytes 1 0 0 12000 0x000C ++ termBytes 1 0 0 18000 0xFFF0 ++ termBytes 3 0 4 150 0xFFFF ++
    termBytes 5 0x12 0 450 0xFFFF

/-- An image for office 40312, effective at second 1,000, grace 10 min, every prefix in zone 3, whose service 1 is the worked schedule and whose other services are not offered. -/
def imageWith (check : Nat) : List Byte := imageHead check ++ (List.replicate 1000 3 ++ imageTail)

/-- Chapter 5, "an ordinary rating": the facts of the item. -/
def workedFacts : Facts :=
  { service := 1, destination := some 314159, declared := some 20000, extras := ⟨false, false, true, false⟩,
    dimensions := some ⟨400, 300, 200⟩ }

/-- The working quantities of the same example: zone 3, C = 4,800 g VOLUMETRIC, N = 8. -/
def workedWorking : Working := { zone := 3, chargeable := 4800, kind := .volumetric, steps := 8 }

theorem test_image_length : (imageWith 0).length = 1556 := by decide +kernel
theorem test_check_step_worked : checkParcel (imageWith 0) workedFacts 2342 = .ok workedWorking := by decide +kernel
theorem test_check_step_refusals :
    checkParcel (imageWith 0) { workedFacts with service := 0 } 2342 = .error .serviceNotOffered ∧
      checkParcel (imageWith 0) workedFacts 30001 = .error .overWeight ∧
      checkParcel (imageWith 0) { workedFacts with dimensions := none } 2342 = .error .missingDimensions := by decide +kernel

/-- An evaluation of the worked example on bank A. -/
def workedEvaluation (step : EvalStep) (accumulator : Int) : Evaluation :=
  { bank := .A, generation := 1, flags := 0x04, facts := workedFacts, weight := 2342, step := step, accumulator := accumulator,
    marks := ⟨false, false⟩, trace := [], halt := none }

/-- The five terms in turn: their contributions, and the sums of the table. -/
theorem test_terms_worked :
    (List.zip [0, 1, 2, 3, 4] [0, 65000, 161000, 161000, 191000]).map (fun x =>
      ((workedEvaluation .check x.2).takeTerm (termOf (imageWith 0) 1 x.1) x.1 workedWorking).accumulator) =
      [65000, 161000, 161000, 191000, 199595] := by decide +kernel
theorem test_term_without_flag :
    (({ workedEvaluation .check 191000 with flags := 0 } : Evaluation).takeTerm (termOf (imageWith 0) 1 4) 4 workedWorking).trace = [] := by
  decide +kernel
/-- Chapter 5, case A: −10,001 × 450 ÷ 10,000 is truncated toward zero. -/
theorem test_percent_truncates :
    (termOf (imageWith 0) 1 4).raw workedFacts workedWorking (-10001) = -450 := by decide +kernel
theorem test_conversion_worked :
    convert (scheduleOf (imageWith 0) 1) 199595 ⟨false, false⟩ = (2000, ⟨false, false⟩) ∧
      convert (scheduleOf (imageWith 0) 1) (-10451) ⟨false, false⟩ = (0, ⟨false, true⟩) ∧
      convert (scheduleOf (imageWith 0) 1) 50000001 ⟨false, false⟩ = (500000, ⟨true, false⟩) := by decide +kernel

/-! ### A desk to test on -/

/-- What the store holds when every owner has written what it holds. -/
def synced (s : State) : State :=
  { s with
    nvs :=
      { positions := tbuild 16 fun p => (s.ctx p).config, channels := tbuild 8 fun c => (s.channel c).config,
        bankA := s.tariffs.bankA.stored, bankB := s.tariffs.bankB.stored, counter := s.tariffs.counter,
        lastLoaded := s.tariffs.lastLoaded, accounts := s.accounts, allocator := s.allocator, journal := s.journal,
        printersEnabled := tbuild 4 fun l => (s.printer l).enabled,
        queues := tbuild 4 fun l => (s.printer l).queue.map Job.stored, flags := s.flags } }

/-- A QUOTED item: the worked parcel at 2,000 on bank A. -/
def quotedItem : Item :=
  { state := .quoted, facts := workedFacts, weight := some 2342, previous := none,
    quote := some
      { postage := 2000, tariffId := 7001, bank := .A, generation := 1, chargeable := 4800, kind := .volumetric, zone := 3,
        marks := ⟨false, false⟩, trace := [⟨0, 65000⟩], stale := false },
    itemNumber := none, label := .unlabelled }

/-- The same item in other states. -/
def itemIn (st : ItemState) : Item := { quotedItem with state := st, quote := none }

/-- The same item ACCEPTED with serial 12,344 and its label PRINTED. -/
def acceptedItem : Item :=
  { quotedItem with state := .accepted, itemNumber := some (itemNumber 40312 12344), label := .printed }

/-- A label job of position 1. -/
def someJob : Job :=
  jobOf 1 0 (labelOf 1 (itemNumber 40312 12343) 40312 900 quotedItem
    { postage := 2000, tariffId := 7001, bank := .A, generation := 1, chargeable := 4800, kind := .volumetric, zone := 3,
      marks := ⟨false, false⟩, trace := [], stale := false })

/-- The slots of position 0 on the desk: QUOTED, WEIGHED, DRAFT, ACCEPTED, and four EMPTY ones. -/
def deskSlots : Transaction := #v[some quotedItem, some (itemIn .weighed), some (itemIn .draft), some acceptedItem, none, none, none, none]

/-- Position 0 of the desk: IN-TRANSACTION on account 0 with key 9, on channel 0 and printer 0. -/
def deskContext : PositionContext :=
  { config := ⟨true, some 0, some 0, 0x9⟩, state := .inTransaction, linePresent := true, account := some 0, key := some 9,
    transaction := some deskSlots, completions := [], weigh := none, rating := false }

/-- The example state: chapter 7's account, office and block before its first ACCEPT (with one sale behind it); channel 0 STABLE as in section 3.8; tariff 7,001 ACTIVE in bank A; printer 0 FAULTED with a job of position 1, printer 1 READY. Position 0 is IN-TRANSACTION, position 1 LINKED, the others disabled. -/
def desk : State :=
  synced
    { State.reset with
      positions :=
        tset (tset State.reset.positions 0 deskContext) 1
          { PositionContext.unwritten with config := ⟨true, some 0, some 1, 0xF⟩, state := .linked, linePresent := true }
      channels :=
        tset State.reset.channels 0
          { config := scaleS2, state := .stable, window := List.replicate 8 120000, filtered := some 120000, workingZero := 120000,
            reading := some 0, reference := some 0, spikes := 0, errors := 0, settleTimer := none, weigh := .idle,
            weighTimer := none }
      tariffs :=
        { bankA :=
            { Bank.blank with
              state := .active, image := imageWith 0, tariffId := some 7001, effective := some 1000, grace := some 10,
              generation := some 1, refs := 1 }
          bankB := .blank, counter := 1, lastLoaded := some .A }
      accounts :=
        tset (tset State.reset.accounts 0
          { key := 9, status := .opened, loaded := 1000000, issued := 300000, refunded := 0, remaining := 700000, pieces := 150,
            threshold := 700000, low := false }) 3
          { Account.unwritten with key := 15, status := .opened }
      allocator := { officeCode := some 40312, blocks := [⟨12345, 12400⟩], next := some 12345, highest := 12400 }
      journal :=
        { entries :=
            [{ seq := 1, time := 900, account := 0,
               event := .credit 1000000 }]
          next := 2 }
      printers :=
        tset (tset State.reset.printers 0
          { enabled := true, state := .faulted .jam, queue := [someJob], sendNumber := 0, timer := none }) 1
          { Printer.unwritten with enabled := true, state := .ready }
      labelCounts := tset State.reset.labelCounts 1 1
      clock := { value := 1000, valid := true }
      flags := 0x04 }

/-- The state after a command. -/
def landed (c : Instr) (s : State) : State :=
  match exec c s with
  | .next u => u
  | .fault _ => s
  | .refused _ => s

/-- A frame waits at a position's port. -/
def asked (p : PositionId) (code : Byte) (payload : List Byte) (s : State) : State :=
  { s with ports := tset s.ports p { held := [⟨code, 7, payload⟩], rx := [] } }

/-- A frame waits at the office port. -/
def told (code : Byte) (payload : List Byte) (s : State) : State :=
  { s with officePort := { held := [⟨code, 7, payload⟩], rx := [] } }

/-- The payload of the first frame sent. -/
def answered (s : State) : List Byte :=
  match s.sent with
  | .position _ w :: _ => ((w.drop 5).dropLast).dropLast
  | .office w :: _ => ((w.drop 5).dropLast).dropLast
  | _ => []

/-- The desk with another item in a slot of position 0. -/
def withItem (k : Slot) (i : Option Item) (s : State) : State :=
  s.setCtx 0 { s.ctx 0 with transaction := (s.ctx 0).transaction.map fun t => tset t k i }

/-- The states of the items of position 0. -/
def itemStates (s : State) : List (Option ItemState) := (List.finRange 8).map fun k => (s.item 0 k).map (·.state)

/-! ### One step of each command, from the desk -/

theorem test_linkUp : ((landed (.linkUp 1) (desk.setPositionState 1 .offline)).ctx 1).state = .linked := by decide +kernel
theorem test_linkUp_disabled : ((landed (.linkUp 2) desk).ctx 2).state = .offline := by decide +kernel
theorem test_linkDown :
    let u := landed (.linkDown 0) desk
    (u.ctx 0).state = .offline ∧ (u.ctx 0).transaction = none ∧ (u.bank .A).refs = 0 := by decide +kernel
theorem test_position_frame :
    (tget (landed (.positionFrameReceived 1 (0x00 :: Frame.wire 0xA5 ⟨0x10, 7, []⟩)) desk).ports 1).held = [⟨0x10, 7, []⟩] := by
  decide +kernel
theorem test_position_frame_damaged :
    (tget (landed (.positionFrameReceived 1 (0xA5 :: 5 :: 0 :: Frame.wire 0xA5 ⟨0x10, 7, []⟩)) desk).ports 1) =
      ⟨[⟨0x10, 7, []⟩], []⟩ := by decide +kernel
theorem test_attach :
    let u := landed (.attach 1 7 [3, 15]) (asked 1 1 [3, 15] desk)
    (u.ctx 1).state = .attached ∧ answered u = [0, 3, 0] := by decide +kernel
theorem test_attach_wrong_key :
    answered (landed (.attach 1 7 [0, 8]) (asked 1 1 [0, 8] desk)) =
      [1, 1, 4, 0xFF, 0, 0, 0, 0, 0, 0, 0, 0, 0, 0, 0, 0, 0] := by decide +kernel
theorem test_detach :
    let u := landed (.detach 0 7 []) (asked 0 2 [] desk)
    (u.ctx 0).state = .linked ∧ (u.ctx 0).account = none ∧ (u.bank .A).refs = 0 ∧ answered u = [0, 0] := by decide +kernel
theorem test_begin_in_transaction :
    (answered (landed (.beginTransaction 0 7 []) (asked 0 3 [] desk))).take 3 = [1, 3, 2] := by decide +kernel
theorem test_add :
    let u := landed (.add 0 7 []) (asked 0 4 [] desk)
    answered u = [0, 4] ∧ (u.item 0 4).map (·.state) = some .draft := by decide +kernel
/-- An AMEND that clears the declared value of the QUOTED item. -/
theorem test_amend_quoted :
    let pl : List Byte := [0, 0, 0, 2, 0, 0] ++ List.replicate 15 0
    let u := landed (.amend 0 7 pl) (asked 0 5 pl desk)
    answered u = [0, 2] ∧ (u.item 0 0).map (fun i => (i.facts.declared, i.quote)) = some (none, none) ∧ (u.bank .A).refs = 0 := by
  decide +kernel
theorem test_drop :
    let u := landed (.drop 0 7 [0]) (asked 0 6 [0] desk)
    answered u = [0, 0] ∧ u.item 0 0 = none ∧ (u.bank .A).refs = 0 := by decide +kernel
theorem test_drop_accepted : (answered (landed (.drop 0 7 [3]) (asked 0 6 [3] desk))).take 4 = [1, 6, 2, 3] := by decide +kernel
/-- A STABLE channel reading 0 g captures BELOW-MINIMUM at once (R56); the item keeps its weight (R35). -/
theorem test_weigh_stable :
    let u := landed (.weigh 0 7 [1]) (asked 0 7 [1] desk)
    answered u = [0, 0, 25, 0x26, 0x09, 0, 0, 0xFF, 0xFF, 0xFF, 0xFF] ∧
      (u.ctx 0).completions = [.weighDone .belowMinimum 1 (some 2342) none] ∧ itemStates u = itemStates desk := by decide +kernel
theorem test_zero :
    answered (landed (.zero 0 7 []) (asked 0 8 [] (desk.setChannel 0 { desk.channel 0 with filtered := some 125999 }))) =
      [0, 0x6F, 0x17, 0, 0] := by decide +kernel
theorem test_zero_refused :
    (answered (landed (.zero 0 7 []) (asked 0 8 [] (desk.setChannel 0 { desk.channel 0 with filtered := some 126000 })))).take 3 =
      [1, 8, 27] := by decide +kernel
theorem test_rate :
    let u := landed (.rate 0 7 [1, 1]) (asked 0 9 [1, 1] desk)
    answered u = [0, 0] ∧ u.evaluator.queue = [⟨0, 1, 1, .rest, 0, none⟩] ∧ (u.ctx 0).rating = true := by decide +kernel
theorem test_detail_empty : (answered (landed (.detail 0 7 [4]) (asked 0 10 [4] desk))).take 4 = [1, 10, 2, 4] := by decide +kernel
/-- Chapter 7, "registers through a day's events", row 1. -/
theorem test_accept_worked :
    let u := landed (.accept 0 7 [0]) (asked 0 11 [0] desk)
    answered u = [0, 0x40, 0x31, 0x20, 0x00, 0x12, 0x34, 0x50, 0xD0, 0x07, 0, 0, 1] ∧
      (let a := u.account 0; (a.issued, a.remaining, a.pieces)) = (302000, 698000, 151) ∧ u.allocator.next = some 12346 ∧
      (u.printer 0).queue.length = 2 := by decide +kernel
/-- Row 2 of the same example: the void after that acceptance. -/
theorem test_void_worked :
    let u := landed (.void 0 7 [0]) (asked 0 12 [0] (landed (.accept 0 7 [0]) (asked 0 11 [0] desk)))
    answered u = [0, 0x40, 0x31, 0x20, 0x00, 0x12, 0x34, 0x50, 0xD0, 0x07, 0, 0, 4, 0] ∧
      (let a := u.account 0; (a.issued, a.refunded, a.remaining, a.pieces)) = (302000, 2000, 700000, 151) ∧
      (u.printer 0).queue.length = 1 := by decide +kernel
/-- Section 11.3: the slot byte of a refused request that names no slot is FFH, the empty payload of a slot request among them. -/
theorem test_void_without_slot : (answered (landed (.void 0 7 []) (asked 0 12 [] desk))).take 4 = [1, 12, 3, 0xFF] := by decide +kernel
theorem test_cancel_none : answered (landed (.cancel 0 7 [0xFF]) (asked 0 13 [0xFF] desk)) = [0, 0, 0] := by decide +kernel
theorem test_collect :
    let u := landed (.collect 0 7 []) (asked 0 14 [] (desk.setCtx 0 { desk.ctx 0 with completions := [.labelDone 3 (itemNumber 40312 12344) 0] }))
    answered u = [0, 1, 0, 3, 0, 3, 0x40, 0x31, 0x20, 0x00, 0x12, 0x34, 0x41, 0, 0, 0, 0, 0, 0] ∧ (u.ctx 0).completions = [] := by
  decide +kernel
theorem test_finish :
    let u := landed (.finish 0 7 [1, 0xD0, 0x07, 0, 0]) (asked 0 15 [1, 0xD0, 0x07, 0, 0] desk)
    answered u = [0, 1, 0xD0, 0x07, 0, 0, 0] ∧ (u.ctx 0).state = .attached ∧ (u.bank .A).refs = 0 := by decide +kernel
theorem test_finish_mismatch :
    answered (landed (.finish 0 7 [2, 0xD0, 0x07, 0, 0]) (asked 0 15 [2, 0xD0, 0x07, 0, 0] desk)) =
      [1, 15, 22, 0xFF, 0, 0xD0, 0x07, 0, 0, 0, 0, 0, 0, 1, 0, 0, 0] := by decide +kernel
theorem test_query :
    (answered (landed (.query 0 7 []) (asked 0 16 [] desk))).take 11 = [0, 3, 0, 5, 2, 0, 7, 0xFF, 0xFF, 0xFF, 0xFF] := by decide +kernel
theorem test_unknown_request :
    (answered (landed (.unknownRequestCode 0 0x20 7 []) (asked 0 0x20 [] desk))).take 4 = [1, 0x20, 3, 0xFF] := by decide +kernel

/-- Section 3.8, t = 200: the third spike restarts the window. -/
theorem test_third_spike :
    let u := landed (.sampleFrame 0 (sampleWire 143418 0)) (desk.setChannel 0 { desk.channel 0 with spikes := 2 })
    (let ch := u.channel 0; (ch.window, ch.reading, ch.reference, ch.spikes, ch.state, ch.settleTimer)) =
      ([143418], some 2342, some 2342, 0, .unstable, some 600) := by decide +kernel
/-- R180: a check byte that does not match is an error sample, and the bytes from a later sync byte on are kept. -/
theorem test_error_sample :
    let u := landed (.sampleFrame 0 [0x00, 0xC3, 1, 0xC3, 2, 0, 0]) desk
    (u.channel 0).errors = 1 ∧ tget u.scaleLines 0 = [0xC3, 2, 0, 0] := by decide +kernel

/-- Position 0 waits on channel 0 with slot 1, the channel UNSTABLE at 2,342 g (section 3.8, t = 700). -/
def weighing : State :=
  withItem 1 (some { itemIn .weighing with weight := none })
    ((desk.setCtx 0 { desk.ctx 0 with weigh := some 1 }).setChannel 0
      { desk.channel 0 with
        state := .unstable, window := [143418, 143424, 143421, 143419, 143423, 143422], filtered := some 143421,
        reading := some 2342, reference := some 2342, settleTimer := some 600, weigh := .waiting 0 1, weighTimer := some 10000 })

/-- Section 3.8, t = 800: the capture. -/
theorem test_settle_captures :
    let u := landed (.settleTimerExpiry 0) weighing
    (u.channel 0).state = .stable ∧ (u.channel 0).weigh = .idle ∧ (u.item 0 1).map (fun i => (i.state, i.weight)) = some (.weighed, some 2342) ∧
      (u.ctx 0).completions = [.weighDone .ok 1 (some 2342) none] := by decide +kernel
theorem test_weigh_timer :
    let u := landed (.weighTimerExpiry 0) weighing
    (u.channel 0).weigh = .idle ∧ (u.item 0 1).map (·.state) = some .draft ∧
      (u.ctx 0).completions = [.weighDone .unstable 1 none none] := by decide +kernel

/-- Position 0's rating of slot 1, scope REST, waits at the evaluator. -/
def queuedRating : State :=
  withItem 1 (some (itemIn .rateQueued))
    { desk.setCtx 0 { desk.ctx 0 with rating := true } with evaluator := ⟨[⟨0, 1, 1, .rest, 0, none⟩], .idle⟩ }

/-- The same rating under way at a step. -/
def evaluating (step : EvalStep) (accumulator : Int) (halt : Option HaltReason) : State :=
  (withItem 1 (some (itemIn .rating)) (desk.setCtx 0 { desk.ctx 0 with rating := true })).setEvaluatorState
    (.evaluating ⟨0, 1, 1, .rest, 0, none⟩ { workedEvaluation step accumulator with halt := halt })

theorem test_evaluation_start :
    let u := landed .evaluationStart queuedRating
    u.evaluator = ⟨[], .evaluating ⟨0, 1, 1, .rest, 0, none⟩ (workedEvaluation .check 0)⟩ ∧ (u.bank .A).refs = 2 ∧
      (u.item 0 1).map (·.state) = some .rating := by decide +kernel
theorem test_check_step :
    (landed .checkStep (evaluating .check 0 none)).evaluator.state =
      .evaluating ⟨0, 1, 1, .rest, 0, none⟩ (workedEvaluation (.term 0 workedWorking) 0) := by decide +kernel
theorem test_term_step :
    (landed .termStep (evaluating (.term 1 workedWorking) 65000 none)).evaluator.state =
      .evaluating ⟨0, 1, 1, .rest, 0, none⟩
        { workedEvaluation (.term 2 workedWorking) 161000 with trace := [⟨1, 96000⟩] } := by decide +kernel
theorem test_delivery_step :
    let u := landed .deliveryStep (evaluating (.delivery workedWorking) 199595 none)
    u.evaluator.state = .chaining ⟨0, 1, 1, .rest, 1, some 2000⟩ ∧
      (u.item 0 1).map (fun i => (i.state, i.quote.map (·.postage))) = some (.quoted, some 2000) := by decide +kernel
/-- R99: slot 2 holds a DRAFT item, so the chain ends with an OK RATE-DONE. -/
theorem test_chain_ends :
    let u := landed .chainStep ((desk.setCtx 0 { desk.ctx 0 with rating := true }).setEvaluatorState (.chaining ⟨0, 1, 1, .rest, 1, some 2000⟩))
    u.evaluator.state = .idle ∧ (u.ctx 0).completions = [.rateDone .ok 1 1 0 (some 2000)] ∧ (u.ctx 0).rating = false := by
  decide +kernel
theorem test_halt_cancelled :
    let u := landed .evaluationHalt (evaluating (.term 1 workedWorking) 65000 (some .cancelled))
    u.evaluator.state = .idle ∧ (u.item 0 1).map (·.state) = some .weighed ∧ (u.bank .A).refs = 0 ∧
      (u.ctx 0).completions = [.rateDone .cancelled 1 0 0 none] := by decide +kernel

theorem test_office_frame :
    (landed (.officeFrameReceived ⟨Frame.wire 0x5A ⟨0x01, 7, []⟩, false⟩) desk).officePort.held = [⟨0x01, 7, []⟩] := by decide +kernel
/-- R168: the frame that a break cuts short is discarded, and the frame after it is held. -/
theorem test_office_break :
    (landed (.officeFrameReceived ⟨Frame.wire 0x5A ⟨0x01, 7, []⟩, false⟩)
      (landed (.officeFrameReceived ⟨[0x5A, 0x10, 0], true⟩) desk)).officePort = ⟨[⟨0x01, 7, []⟩], []⟩ := by decide +kernel
/-- Section 11.6: the parts of the STATUS data count 242 bytes, after the 00H of DONE. -/
theorem test_status : (answered (landed (.status 7 []) (told 1 [] desk))).length = 243 := by decide +kernel
theorem test_time :
    let u := landed (.time 7 [0, 1, 0, 0]) (told 2 [0, 1, 0, 0] desk)
    u.clock = ⟨256, true⟩ ∧ answered u = [0, 0xE8, 3, 0, 0, 1] := by decide +kernel
theorem test_flags :
    let pl : List Byte := [1, 2, 0, 2, 2, 2, 2, 1]
    let u := landed (.flags 7 pl) (told 6 pl desk)
    u.flags = 0x81 ∧ u.nvs.flags = 0x81 ∧ answered u = [0, 0x81] := by decide +kernel
theorem test_position_disables :
    let u := landed (.position 7 [0, 0, 0xFF, 0xFF, 1]) (told 7 [0, 0, 0xFF, 0xFF, 1] desk)
    (u.ctx 0).state = .offline ∧ (u.ctx 0).transaction = none ∧ answered u = [0, 0] ∧ (u.bank .A).refs = 0 := by decide +kernel
/-- Position 0 moved to channel 1 while its weigh is held at channel 0. -/
def movedAway : State := weighing.setCtx 0 { weighing.ctx 0 with config := ⟨true, some 1, some 0, 0x9⟩ }
theorem test_position_full :
    [desk, movedAway].map (fun s => answered (landed (.position 7 [2, 1, 0, 0xFF, 1]) (told 7 [2, 1, 0, 0xFF, 1] s))) =
      [[1, 73], [1, 73]] := by decide +kernel
/-- Section 3.7: the settings of S2 as a SCALE command gives them. -/
theorem test_scale :
    let pl : List Byte := [0, 1, 0x30, 0x75, 2, 0xC0, 0xD4, 0x01, 0x9A, 0x19, 0x88, 0x13, 0, 2, 6]
    let u := landed (.scale 7 pl) (told 8 pl weighing)
    (u.channel 0).config = scaleS2 ∧ (u.channel 0).state = .unstable ∧ (u.channel 0).reading = none ∧ answered u = [0, 2] ∧
      (u.ctx 0).completions = [.weighDone .scaleOff 1 none none] := by decide +kernel
theorem test_printer_off :
    let u := landed (.printer 7 [0, 0]) (told 9 [0, 0] desk)
    (u.printer 0).state = .off ∧ (u.printer 0).queue = [someJob] ∧ answered u = [0, 0] := by decide +kernel
/-- Chapter 9, "a jam, a redirect and a timeout", event 2: the target sends the first job moved. -/
theorem test_redirect :
    let u := landed (.redirect 7 [0, 1]) (told 10 [0, 1] desk)
    (u.printer 0).queue = [] ∧ (u.printer 1).state = .printing ∧ (u.printer 1).queue = [someJob.sending] ∧ answered u = [0, 1, 1] ∧
      u.sent.length = 2 := by decide +kernel
/-- Chapter 7, row 3: the threshold rises to 750,000. -/
theorem test_account :
    let pl : List Byte := [0, 0xFF, 0xFF, 0xB0, 0x71, 0x0B, 0]
    let u := landed (.account 7 pl) (told 3 pl desk)
    (u.account 0).threshold = 750000 ∧ (u.account 0).low = true ∧ (answered u).length = 36 := by decide +kernel
/-- Row 4 of the same example. -/
theorem test_credit :
    let pl : List Byte := [0, 0xA0, 0x86, 0x01, 0]
    let u := landed (.credit 7 pl) (told 4 pl desk)
    ((u.account 0).loaded, (u.account 0).remaining) = (1100000, 800000) ∧ u.journal.entries.length = 2 := by decide +kernel
theorem test_block_order :
    answered (landed (.block 7 [0x70, 0x30, 0, 0, 1, 0, 0, 0]) (told 5 [0x70, 0x30, 0, 0, 1, 0, 0, 0] desk)) = [1, 71] := by decide +kernel
theorem test_block :
    let u := landed (.block 7 [0x71, 0x30, 0, 0, 1, 0, 0, 0]) (told 5 [0x71, 0x30, 0, 0, 1, 0, 0, 0] desk)
    u.allocator.blocks = [⟨12345, 12400⟩, ⟨12401, 12401⟩] ∧ answered u = [0, 57, 0, 0, 0] := by decide +kernel
theorem test_journal_read :
    (answered (landed (.journalRead 7 [16]) (told 16 [16] desk))).length = 48 := by decide +kernel
/-- Chapter 8, "a release that meets an append": three entries 500 to 502, release of 503. -/
theorem test_journal_release :
    let e (n : Nat) : JournalEntry := ⟨BitVec.ofNat 32 n, 0, 0, .credit 1⟩
    let j : Journal := { entries := [e 500, e 501, e 502], next := 503 }
    (j.releaseCount 503, j.releaseCount 502, j.releaseCount 500, j.releaseCount 499) = (3, 3, 1, 0) := by decide +kernel

/-- The 32-bit check, one byte at a time with each remainder worked out before the next (for the kernel's sake). -/
def crcSteps : List Byte → Word32 → Word32
  | [], c => c
  | b :: bs, c => if crc32Byte c b = 0 then crcSteps bs 0 else crcSteps bs (crc32Byte c b)

theorem crc32_steps (bs : List Byte) (c : Word32) : bs.foldl crc32Byte c = crcSteps bs c := by
  induction bs generalizing c with
  | nil => rfl
  | cons b bs ih => simp only [List.foldl_cons, ih, crcSteps]; split <;> simp_all

/-- The check value of the worked image. -/
def workedCheck : Nat := 3587491000

/-- A bank LOADING these bytes, declared as the worked image. -/
def bankLoading (image : List Byte) : Bank :=
  { Bank.loadingOf ⟨7001, 1000, 1556, BitVec.ofNat 32 workedCheck⟩ with image := image }

/-- The desk with such a bank B. -/
def loadingB (image : List Byte) : State := desk.setBank .B (bankLoading image)

theorem worked_check : computedCheck (imageWith workedCheck) = BitVec.ofNat 32 workedCheck := by
  unfold computedCheck crc32
  rw [crc32_steps]
  decide +kernel

/-- An image that passes each of the nine checks of R74 is valid. -/
theorem imageFault_none (bk : Bank) (d : Declared) (office : Option Nat) (hd : bk.declared = some d)
    (h1 : check1 bk.image d.length = true) (h2 : check2 bk.image d.check = true) (h3 : check3 bk.image office = true)
    (h4 : check4 bk.image bk.tariffId bk.effective = true) (h5 : check5 bk.image = none) (h6 : check6 bk.image = none)
    (h7 : check7 bk.image = none) (h8 : check8 bk.image = none) (h9 : check9 bk.image = none) :
    imageFault bk office = none := by
  simp only [imageFault, hd, h1, h2, h3, h4, h5, h6, h7, h8, h9, Bool.true_eq_false, if_false]

theorem worked_check2 : check2 (imageWith workedCheck) (BitVec.ofNat 32 workedCheck) = true := by
  unfold check2
  rw [worked_check]
  decide +kernel

theorem worked_check1 : check1 (imageWith workedCheck) 1556 = true := by decide +kernel
theorem worked_check3 : check3 (imageWith workedCheck) (some 40312) = true := by decide +kernel
theorem worked_check4 : check4 (imageWith workedCheck) (some 7001) (some 1000) = true := by decide +kernel
theorem worked_check5 : check5 (imageWith workedCheck) = none := by decide +kernel
theorem worked_zone (digits : Nat) (h : digits < 1000) : zoneByte (imageWith workedCheck) digits = 3 := by
  unfold zoneByte imgByte imageWith
  have hl : (imageHead workedCheck).length = 32 := by decide +kernel
  rw [List.getD_append_right _ _ _ _ (by omega), hl, Nat.add_sub_cancel_left, List.getD_append _ _ _ _ (by rw [List.length_replicate]; exact h)]
  exact List.getD_replicate _ h
theorem worked_check6 : check6 (imageWith workedCheck) = none := by
  unfold check6 firstFailing
  rw [Option.map_eq_none_iff, List.find?_append, Option.or_eq_none_iff]
  refine ⟨?_, by decide +kernel⟩
  rw [List.find?_eq_none]
  intro x hx
  obtain ⟨d, hd, rfl⟩ := List.mem_map.mp hx
  simp [worked_zone d (List.mem_range.mp hd)]
theorem worked_check7 : check7 (imageWith workedCheck) = none := by decide +kernel
theorem worked_check8 : check8 (imageWith workedCheck) = none := by decide +kernel
theorem worked_check9 : check9 (imageWith workedCheck) = none := by decide +kernel

/-- R111, R74: the worked image passes the nine checks at office 40312. -/
theorem test_load_end_valid : imageFault (bankLoading (imageWith workedCheck)) (some 40312) = none :=
  imageFault_none (bankLoading (imageWith workedCheck)) ⟨1556, BitVec.ofNat 32 workedCheck⟩ (some 40312) rfl worked_check1
    worked_check2 worked_check3 worked_check4 worked_check5 worked_check6 worked_check7 worked_check8 worked_check9

/-- What LOAD-BEGIN declared of the worked image. -/
def workedDeclared : Declared := ⟨1556, BitVec.ofNat 32 workedCheck⟩
theorem partFails_zoneMap (bk : Bank) (d : Declared) (office : Option Nat) (check digits : Nat) (h : byteAt bk.image (32 + digits) ≤ 15) :
    partFails bk d office check (.zoneMap digits) = false := by
  unfold partFails
  split <;> first | rfl | simp_all
theorem partFails_check2 (bk : Bank) (d : Declared) (office : Option Nat) (h : checkValue bk.image = d.check)
    (h' : BitVec.ofNat 32 (numAt bk.image 12 4) = d.check) : partFails bk d office 2 .header = false := by
  simp [partFails, h, h']
/-- The worked image fails no check: its zones first, then the header, the schedules and the terms. -/
theorem worked_first_failure : firstFailure (bankLoading (imageWith workedCheck)) workedDeclared (some 40312) = none := by
  let fails (check : Nat) (part : ImagePart) : Bool :=
    partFails (bankLoading (imageWith workedCheck)) workedDeclared (some 40312) check part
  have rest : ∀ check ∈ List.range' 1 9, check ≠ 2 → fails check .header = false := by decide +kernel
  have header (check : Nat) (h : check ∈ List.range' 1 9) : fails check .header = false := by
    by_cases h2 : check = 2
    · subst h2; exact partFails_check2 _ _ _ worked_check (by decide +kernel)
    · exact rest check h h2
  have parts : ∀ check ∈ List.range' 1 9,
      ∀ part ∈ (List.range 8).flatMap fun n =>
          ImagePart.schedule n :: (List.range (byteAt (imageWith workedCheck) (scheduleOffset n + 3))).map (.term n),
        fails check part = false := by
    decide +kernel
  unfold firstFailure
  rw [List.findSome?_eq_none_iff]
  intro check hc
  rw [Option.map_eq_none_iff, List.find?_eq_none]
  intro part hp
  rw [Bool.not_eq_true]
  rcases List.mem_append.mp hp with hp | hp
  · rcases List.mem_cons.mp hp with rfl | hp
    · exact header check hc
    · obtain ⟨digits, hd, rfl⟩ := List.mem_map.mp hp
      exact partFails_zoneMap _ _ _ _ _
        (Nat.le_trans (Nat.le_of_eq (congrArg BitVec.toNat (worked_zone digits (List.mem_range.mp hd)))) (by decide))
  · exact parts check hc part hp
theorem test_load_begin :
    let pl : List Byte := [0x5A, 0x1B, 0, 0, 0xE8, 3, 0, 0, 0x14, 0x06, 1, 2, 3, 4]
    let u := landed (.loadBegin 7 pl) (told 11 pl desk)
    answered u = [0, 1] ∧ u.bank .B = Bank.loadingOf ⟨7002, 1000, 1556, 0x04030201⟩ := by decide +kernel
theorem test_load_part_sequence :
    answered (landed (.loadPart 7 [1, 0, 5]) (told 12 [1, 0, 5] (loadingB []))) = [1, 65, 0, 0] := by decide +kernel
/-- R114: an ACTIVATE retires the other bank, which holds a reference, under the new image's grace of 10 min. -/
theorem test_activate :
    let u := landed (.activate 7 [1]) (told 15 [1] (desk.setBank .B (Bank.loadedWith 2 (bankLoading (imageWith 0)))))
    answered u = [0] ∧ (u.bank .B).state = .active ∧ (u.bank .A).state = .retiring ∧ (u.bank .A).graceTimer = .running 600 := by
  decide +kernel
/-- R75: a structure failure names check 1 and the HEADER. -/
theorem test_load_end_short : (answered (landed (.loadEnd 7 []) (told 13 [] (loadingB [])))).take 4 = [1, 67, 1, 0] := by decide +kernel
theorem test_load_abandon_active : answered (landed (.loadAbandon 7 [0]) (told 14 [0] desk)) = [1, 70] := by decide +kernel
theorem test_activate_empty : answered (landed (.activate 7 [1]) (told 15 [1] desk)) = [1, 70] := by decide +kernel
theorem test_load_idle_timeout : (landed (.loadIdleTimeout .B) (loadingB [])).bank .B = .blank := by decide +kernel

/-- The desk after bank B has come into force: bank A RETIRING with 600 s left. -/
def retiring : State :=
  (desk.setBank .A { desk.bank .A with state := .retiring, graceTimer := .running 600 }).setBank .B
    { Bank.blank with state := .active, image := imageWith 0, tariffId := some 7002, effective := some 1000, grace := some 10, generation := some 2 }

/-- Chapter 6, "a changeover with quotes open": each tick lowers the grace by one second. -/
theorem test_tick_grace :
    let u := landed .tick retiring
    (u.bank .A).graceTimer = .running 599 ∧ u.clock.value = 1001 := by decide +kernel
/-- The same example, E + 600: the item turns STALE and the bank becomes EMPTY. -/
theorem test_grace_expiry :
    let u := landed (.graceExpiry .A) retiring
    (u.item 0 0).map (fun i => (i.state, i.quote.map (·.stale))) = some (.stale, some true) ∧ u.bank .A = .blank := by decide +kernel

/-- Printer 0 PRINTING its head job with send number 21. -/
def printing : State :=
  desk.setPrinter 0 { desk.printer 0 with state := .printing, queue := [someJob.sending], sendNumber := 21, timer := some 20000 }

/-- Chapter 9's example, event 4: the DONE with the matching number. -/
theorem test_printer_done :
    let u := landed (.printerDone 0 [] 21 0 (0x01 ^^^ 21)) printing
    (u.printer 0).state = .ready ∧ (u.printer 0).queue = [] ∧ tget u.labelCounts 1 = 0 := by decide +kernel
/-- Event 1: the head job waits again with its attempt counted. -/
theorem test_printer_fault :
    let u := landed (.printerFault 0 [] 21 2 (0x02 ^^^ 21 ^^^ 2)) printing
    (u.printer 0).state = .faulted .jam ∧ (u.printer 0).queue = [{ someJob with attempts := 1 }] := by decide +kernel
/-- Event 9: the READY sends the waiting head job. -/
theorem test_printer_ready :
    let u := landed (.printerReady 0 [] 0 0 0x03) desk
    (u.printer 0).state = .printing ∧ (u.printer 0).queue = [someJob.sending] ∧ (u.printer 0).sendNumber = 1 := by decide +kernel
theorem test_print_timeout : ((landed (.printTimeout 0) printing).printer 0).state = .faulted .timeout := by decide +kernel

theorem test_restart_wrong_code :
    answered (landed (.restart 7 [1, 1, 0, 0, 0]) (told 18 [1, 1, 0, 0, 0] desk)) = [1, 70] := by decide +kernel
theorem test_restart : (landed (.restart 7 [0, 0, 0, 0, 0]) (told 18 [0, 0, 0, 0, 0] desk)).power = .restarting := by decide +kernel
/-- A rebuilt module keeps account, flags and tariff, and lost its transactions; printer 0 is READY and sends its stored job (R165). -/
theorem test_rebuild :
    let u := landed .restartRebuild { desk with power := .restarting }
    (u.ctx 0).state = .offline ∧ u.accounts = desk.accounts ∧ u.flags = 0x04 ∧ (u.bank .A).state = .active ∧ (u.bank .A).refs = 0 ∧
      (u.printer 0).state = .printing := by decide +kernel
theorem test_power_on_clock_lost : (landed (.powerOn false) desk).clock = ⟨0, false⟩ := by decide +kernel
theorem test_supply_failure :
    let u := landed .supplyFailure desk
    u.power = .off ∧ u.accounts = desk.accounts ∧ u.clock = desk.clock := by decide +kernel
/-- R131: 4.60 V keeps NORMAL, below it HOLD begins; 4.75 V keeps HOLD, above it NORMAL returns. -/
theorem test_supply_samples :
    [4600000, 4599999].map (fun v => Supply.sampled v .normal) = [.normal, .hold] ∧
      [4750000, 4750001].map (fun v => Supply.sampled v .hold) = [.hold, .normal] := by decide
theorem test_unknown_command :
    answered (landed (.unknownCommandCode 0x13 7 []) (told 0x13 [] desk)) = [1, 77] := by decide +kernel
theorem test_empty_queue_idles : step desk = .next desk := rfl

/-! ### Witnesses: for each statement with hypotheses, a state and operands that meet them, clause by clause -/

theorem witness_QueueFrontRuns : desk.pending = [] := rfl
/-- Noise, a sync byte with a length out of range, a sync byte whose CRC does not match and in whose bytes a whole frame stands, a longest frame, and the first bytes of another. -/
def mixedBytes (sync : Byte) : List Byte :=
  0x00 :: sync :: 0xFF :: 0xFF :: sync :: 5 :: 0 ::
    ((Frame.wire sync ⟨0x10, 7, []⟩).take 5 ++ (Frame.wire sync ⟨0x10, 7, []⟩).drop 5 ++
      (Frame.wire sync ⟨2, 7, List.replicate 1022 0⟩ ++ [sync, 4, 0, 1]))
theorem mixed_found (sync : Byte) (h : sync = 0xA5 ∨ sync = 0x5A) :
    FramesFound sync (mixedBytes sync) [⟨0x10, 7, []⟩, ⟨2, 7, List.replicate 1022 0⟩] [sync, 4, 0, 1] := by
  have hc : (Frame.wire sync ⟨0x10, 7, []⟩).drop 5 ≠ crc16Bytes (5 :: 0 :: (Frame.wire sync ⟨0x10, 7, []⟩).take 5) := by
    rcases h with rfl | rfl <;> decide +kernel
  have hn : ∀ b ∈ ([0x00, 0xFF, 5] : List Byte), b ≠ sync := by rcases h with rfl | rfl <;> decide
  have h0 := hn 0x00 (by decide)
  have hF := hn 0xFF (by decide)
  have h5 := hn 5 (by decide)
  refine .noise _ _ _ _ h0 (.badLength _ _ _ _ _ (.inr (by decide)) (.noise _ _ _ _ hF (.noise _ _ _ _ hF
    (.badCheck _ _ _ _ _ _ _ (by decide) (by decide) rfl rfl hc (.noise _ _ _ _ h5 (.noise _ _ _ _ h0 ?_))))))
  rw [List.take_append_drop]
  exact .received _ _ _ _ (by decide) (.received _ _ _ _ (by decide +kernel) (.restAwaited _ _ _ (by decide) (by decide) (by decide)))

theorem witness_PortsFindFrames_position :
    let s := { desk with ports := tset desk.ports 1 { held := [], rx := (mixedBytes 0xA5).take 6 } }
    s.power = .running ∧ (s.ctx 1).linePresent = true ∧
      FramesFound positionSync ((tget s.ports 1).rx ++ (mixedBytes 0xA5).drop 6)
        [⟨0x10, 7, []⟩, ⟨2, 7, List.replicate 1022 0⟩] [0xA5, 4, 0, 1] := by
  refine ⟨rfl, rfl, ?_⟩
  show FramesFound _ ((tget (tset desk.ports 1 _) 1).rx ++ _) _ _
  rw [show ∀ x, tget (tset desk.ports 1 x) 1 = x from fun x => by simp [tget, tset], List.take_append_drop]
  exact mixed_found _ (.inl rfl)
theorem witness_PortsFindFrames_down : desk.power = .running ∧ (desk.ctx 2).linePresent = false := by decide +kernel
theorem witness_PortsFindFrames_office :
    let s := { desk with officePort := { held := [], rx := (mixedBytes 0x5A).take 6 } }
    s.power = .running ∧
      FramesFound officeSync (s.officePort.rx ++ (mixedBytes 0x5A).drop 6)
        [⟨0x10, 7, []⟩, ⟨2, 7, List.replicate 1022 0⟩] [0x5A, 4, 0, 1] := by
  refine ⟨rfl, ?_⟩
  rw [List.take_append_drop]
  exact mixed_found _ (.inr rfl)

theorem witness_DisabledPositionUnavailable :
    let s := asked 2 0xFF [1, 2, 3] desk
    s.power = .running ∧ (s.ctx 2).config.enabled = false ∧ (tget s.ports 2).held = [⟨0xFF, 7, [1, 2, 3]⟩] := by decide +kernel

/-- An AMEND of a slot with an action on the declared value alone. -/
def amendBytes (k : Byte) (action : Byte) : List Byte := [k, 0, 0, action, 0, 0] ++ List.replicate 15 0

/-- Check 3: each request that needs a transaction, at a LINKED position; ATTACH at one IN-TRANSACTION. -/
theorem witness_SlotRequestNeedsItem_state :
    (∀ x ∈ ([(0x04, []), (0x05, amendBytes 7 2), (0x06, [7]), (0x07, [0]), (0x08, []), (0x09, [7, 1]), (0x0A, [7]), (0x0B, [7]),
          (0x0C, [7]), (0x0D, [0xFF]), (0x0D, [7]), (0x0F, [8, 0, 0, 0, 0])] : List (Byte × List Byte)),
      requestFits x.1 x.2 = true ∧ (asked 1 x.1 x.2 desk).requestWaits 1 ⟨x.1, 7, x.2⟩ [] ∧
        servedIn x.1 ((asked 1 x.1 x.2 desk).ctx 1).state = false) ∧
    requestFits 0x01 [3, 15] = true ∧ (asked 0 0x01 [3, 15] desk).requestWaits 0 ⟨0x01, 7, [3, 15]⟩ [] ∧
      servedIn 0x01 ((asked 0 0x01 [3, 15] desk).ctx 0).state = false := by decide +kernel
/-- Check 4: each request that names a slot, for the last slot of position 0, which is EMPTY. -/
theorem witness_SlotRequestNeedsItem_slot :
    ∀ x ∈ ([(0x05, amendBytes 7 2), (0x06, [7]), (0x07, [7]), (0x09, [7, 0]), (0x0A, [7]), (0x0B, [7]), (0x0C, [7]),
        (0x0D, [7])] : List (Byte × List Byte)),
      requestFits x.1 x.2 = true ∧ (asked 0 x.1 x.2 desk).requestWaits 0 ⟨x.1, 7, x.2⟩ [] ∧
        servedIn x.1 ((asked 0 x.1 x.2 desk).ctx 0).state = true ∧ slotNamed ⟨x.1, 7, x.2⟩ = some 7 ∧
        (asked 0 x.1 x.2 desk).item 0 7 = none := by decide +kernel

/-- Unknown codes; wrong lengths; and fields just out of range. -/
theorem witness_UnknownCodesRefused_requests :
    ∀ x ∈ ([(0x00, []), (0x11, [5]), (0xFF, [5]), (0x04, [0]), (0x06, []), (0x06, [3, 0]), (0x01, [4, 0]), (0x05, amendBytes 8 0),
        (0x05, amendBytes 0 3), (0x05, (amendBytes 0 0).drop 1), (0x06, [8]), (0x09, [7, 2]), (0x0D, [8]), (0x0F, [9, 0, 0, 0, 0]),
        (0x0F, [8, 0xF9, 0xB3, 0xC4, 0x04])] : List (Byte × List Byte)),
      requestFits x.1 x.2 = false ∧ (asked 0 x.1 x.2 desk).requestWaits 0 ⟨x.1, 7, x.2⟩ [] := by decide +kernel
/-- Two of them that name the slot, and two that name none. -/
theorem witness_UnknownCodesRefused_slotByte :
    slotLength 0x09 = some [(7 : Byte), 2].length ∧ byteAt [7, 2] 0 = 7 ∧ slotLength 0x05 = some (amendBytes 7 3).length ∧
      byteAt (amendBytes 7 3) 0 = 7 ∧ slotLength 0x04 = none ∧ slotLength 0x11 = none := by decide +kernel
theorem witness_UnknownCodesRefused_commands :
    ∀ x ∈ ([(0x00, []), (0x13, [5]), (0xFF, [5]), (0x01, [0]), (0x02, [0, 0, 0]), (0x04, [3, 0, 0, 0, 0]),
        (0x04, 3 :: leBytes 4 100000000), (0x05, leBytes 4 0 ++ leBytes 4 1), (0x05, leBytes 4 1 ++ leBytes 4 1000001), (0x06, [3, 0, 0, 0, 0, 0, 0, 0]),
        (0x07, [16, 0, 0, 0, 0]), (0x09, [0, 2]), (0x0A, [4, 0]), (0x0B, List.replicate 14 0), (0x0C, [0, 0]), (0x0F, [2]),
        (0x10, [0]), (0x10, [17]), (0x12, 1 :: leBytes 4 100000)] : List (Byte × List Byte)),
      commandFits x.1 x.2 = false ∧ (told x.1 x.2 desk).commandWaits ⟨x.1, 7, x.2⟩ [] := by decide +kernel
/-- Forms that fit at the ends of their ranges, so that the refusals above are those of their fields. -/
theorem test_commands_fit :
    ∀ x ∈ ([(0x04, 3 :: leBytes 4 99999999), (0x05, leBytes 4 99999999 ++ leBytes 4 1000000), (0x07, [15, 1, 0xFF, 0xFF, 15]),
        (0x0B, List.replicate 8 0 ++ leBytes 2 8192 ++ leBytes 4 0), (0x0C, List.replicate 242 0), (0x10, [16]),
        (0x12, 1 :: leBytes 4 99999)] : List (Byte × List Byte)),
      commandFits x.1 x.2 = true := by decide +kernel
theorem test_requests_fit :
    ∀ x ∈ ([(0x01, [3, 15]), (0x05, amendBytes 7 2), (0x09, [7, 1]), (0x0D, [0xFF]), (0x0F, [8, 0xF8, 0xB3, 0xC4, 0x04])] :
        List (Byte × List Byte)),
      requestFits x.1 x.2 = true := by decide +kernel

theorem witness_LinkUpLinksEnabledPosition : desk.power = .running := rfl
theorem witness_LinkDownDetaches_attached : desk.power = .running ∧ (desk.ctx 0).state = .inTransaction := by decide +kernel
theorem witness_LinkDownDetaches_other :
    desk.power = .running ∧ ¬((desk.ctx 1).state = .attached ∨ (desk.ctx 1).state = .inTransaction) := by decide +kernel

theorem witness_AttachChecksAndEffect :
    (asked 1 0x01 [3, 15] desk).requestWaits 1 ⟨0x01, 7, [BitVec.ofNat 8 (3 : AccountId).val, BitVec.ofNat 8 (15 : Fin 16).val]⟩ [] := by
  decide +kernel

theorem witness_DetachClearsPosition_linked :
    (asked 1 0x02 [] desk).requestWaits 1 ⟨0x02, 7, []⟩ [] ∧ ((asked 1 0x02 [] desk).ctx 1).state = .linked := by decide +kernel
theorem witness_DetachClearsPosition_attached :
    (asked 0 0x02 [] desk).requestWaits 0 ⟨0x02, 7, []⟩ [] ∧ ((asked 0 0x02 [] desk).ctx 0).state = .inTransaction := by decide +kernel

theorem witness_CollectTakesOldestRecord :
    (asked 0 0x0E [] desk).requestWaits 0 ⟨0x0E, 7, []⟩ [] ∧ ((asked 0 0x0E [] desk).ctx 0).state ≠ .offline := by decide +kernel

theorem witness_ReadingChangesNothing_query :
    (asked 0 0x10 [] desk).requestWaits 0 ⟨0x10, 7, []⟩ [] ∧ ((asked 0 0x10 [] desk).ctx 0).state ≠ .offline := by decide +kernel
theorem witness_ReadingChangesNothing_detail :
    (asked 0 0x0A [3] desk).itemRequestWaits 0 ⟨0x0A, 7, [BitVec.ofNat 8 (3 : Slot).val]⟩ [] 3 deskSlots acceptedItem := by decide +kernel
theorem witness_ReadingChangesNothing_status : (told 0x01 [] desk).commandWaits ⟨0x01, 7, []⟩ [] := by decide +kernel
theorem witness_ReadingChangesNothing_journal :
    ∀ n ∈ ([1, 16] : List Byte), (told 0x10 [n] desk).commandWaits ⟨0x10, 7, [n]⟩ [] ∧ 1 ≤ n.toNat ∧ n.toNat ≤ 16 := by decide +kernel

/-- The slots of position 0 with slot 1 changed. -/
def slotsWith (i : Item) : Transaction := tset deskSlots 1 (some i)

theorem witness_CancelEndsOperations_none :
    let s := asked 0 0x0D [0xFF] desk
    s.requestWaits 0 ⟨0x0D, 7, [0xFF]⟩ [] ∧ (s.ctx 0).state = .inTransaction ∧ (s.ctx 0).weigh = none ∧ (s.ctx 0).rating = false := by
  decide +kernel
theorem witness_CancelEndsOperations_idle :
    let s := asked 0 0x0D [1] desk
    s.itemRequestWaits 0 ⟨0x0D, 7, [BitVec.ofNat 8 (1 : Slot).val]⟩ [] 1 deskSlots (itemIn .weighed) ∧ (s.ctx 0).weigh ≠ some 1 ∧
      (itemIn .weighed).state = .weighed := by decide +kernel
theorem witness_CancelEndsOperations_rating :
    ∀ target ∈ ([0xFF, 1] : List Byte),
      let s := asked 0 0x0D [target] queuedRating
      let op : Operation := ⟨0, 1, 1, .rest, 0, none⟩
      ((target = 0xFF ∧ (s.ctx 0).weigh = none) ∨ (target = BitVec.ofNat 8 op.slot.val ∧ (s.ctx 0).weigh ≠ some op.slot)) ∧
        s.itemRequestWaits 0 ⟨0x0D, 7, [target]⟩ [] op.slot (slotsWith (itemIn .rateQueued)) (itemIn .rateQueued) ∧
        s.evaluator.queue = [] ++ op :: [] ∧ op.position = 0 ∧ (s.ctx 0).rating = true ∧ (s.ctx 0).weigh = none := by decide +kernel
theorem witness_CancelEndsOperations_evaluation :
    ∀ target ∈ ([0xFF, 1] : List Byte), ∀ halt ∈ [none, some HaltReason.reRate],
      let s := asked 0 0x0D [target] (evaluating (.term 1 workedWorking) 65000 halt)
      let op : Operation := ⟨0, 1, 1, .rest, 0, none⟩
      ((target = 0xFF ∧ (s.ctx 0).weigh = none) ∨ (target = BitVec.ofNat 8 op.slot.val ∧ (s.ctx 0).weigh ≠ some op.slot)) ∧
        s.itemRequestWaits 0 ⟨0x0D, 7, [target]⟩ [] op.slot (slotsWith (itemIn .rating)) (itemIn .rating) ∧
        s.evaluator.state = .evaluating op { workedEvaluation (.term 1 workedWorking) 65000 with halt := halt } ∧
        op.position = 0 ∧ s.evaluator.queue = [] ∧ (s.ctx 0).rating = true ∧ (s.ctx 0).weigh = none := by decide +kernel
theorem witness_CancelEndsOperations_chaining :
    let op : Operation := ⟨0, 1, 1, .rest, 1, some 2000⟩
    let s := asked 0 0x0D [0xFF] ((desk.setCtx 0 { desk.ctx 0 with rating := true }).setEvaluatorState (.chaining op))
    s.requestWaits 0 ⟨0x0D, 7, [0xFF]⟩ [] ∧ (s.ctx 0).state = .inTransaction ∧ (s.ctx 0).transaction = some deskSlots ∧
      s.evaluator.state = .chaining op ∧ op.position = 0 ∧ s.evaluator.queue = [] ∧ (s.ctx 0).rating = true ∧
      (s.ctx 0).weigh = none := by decide +kernel
theorem witness_CancelEndsOperations_weigh :
    ∀ target ∈ ([0xFF, 1] : List Byte),
      let s := asked 0 0x0D [target] weighing
      ((target = 0xFF ∧ (s.ctx 0).rating = false) ∨ target = BitVec.ofNat 8 (1 : Slot).val) ∧
        s.itemRequestWaits 0 ⟨0x0D, 7, [target]⟩ [] 1 (slotsWith { itemIn .weighing with weight := none })
          { itemIn .weighing with weight := none } ∧
        (s.ctx 0).weigh = some 1 ∧ (s.channel 0).weigh = .waiting 0 1 ∧
        (∀ d m, (s.channel d).weigh = .waiting 0 m → d = 0) ∧ (s.ctx 0).rating = false := by decide +kernel

/-- The weigh of slot 1 in flight, with slot 2 in a state of its rating. -/
def bothInFlight (st : ItemState) (ev : Evaluator) : State :=
  withItem 2 (some (itemIn st)) { weighing.setCtx 0 { weighing.ctx 0 with rating := true } with evaluator := ev }
/-- CANCEL ALL with a weigh and a rating in flight: what the three clauses share, and each of them. -/
theorem witness_CancelEndsOperations_both :
    let op : Operation := ⟨0, 2, 2, .rest, 0, none⟩
    let weighed := { itemIn .weighing with weight := none }
    ∀ x ∈ [(ItemState.rateQueued, (⟨[op], .idle⟩ : Evaluator)), (.weighed, ⟨[], .chaining op⟩),
        (.rating, ⟨[], .evaluating op (workedEvaluation .check 0)⟩)],
      let s := asked 0 0x0D [0xFF] (bothInFlight x.1 x.2)
      let t := tset (slotsWith weighed) 2 (some (itemIn x.1))
      s.itemRequestWaits 0 ⟨0x0D, 7, [0xFF]⟩ [] 1 t weighed ∧ (s.ctx 0).weigh = some 1 ∧ (s.channel 0).weigh = .waiting 0 1 ∧
        (∀ d m, (s.channel d).weigh = .waiting 0 m → d = 0) ∧ (s.ctx 0).rating = true ∧ s.evaluator = x.2 ∧
        tget t op.slot = some (itemIn x.1) := by decide +kernel
/-- CANCEL of one of the two: of slot 2, whose rating is queued or under evaluation, and of slot 1, which is WEIGHING. -/
theorem witness_CancelEndsOperations_one :
    let op : Operation := ⟨0, 2, 2, .rest, 0, none⟩
    let weighed := { itemIn .weighing with weight := none }
    ∀ x ∈ [(ItemState.rateQueued, (⟨[op], .idle⟩ : Evaluator)), (.rating, ⟨[], .evaluating op (workedEvaluation .check 0)⟩)],
      let t := tset (slotsWith weighed) 2 (some (itemIn x.1))
      (let s := asked 0 0x0D [2] (bothInFlight x.1 x.2);
        s.itemRequestWaits 0 ⟨0x0D, 7, [2]⟩ [] op.slot t (itemIn x.1) ∧ (s.ctx 0).weigh = some 1 ∧ (s.ctx 0).rating = true ∧
          s.evaluator = x.2) ∧
      let s := asked 0 0x0D [1] (bothInFlight x.1 x.2)
      s.itemRequestWaits 0 ⟨0x0D, 7, [1]⟩ [] 1 t weighed ∧ (s.ctx 0).weigh = some 1 ∧ (s.ctx 0).rating = true ∧
        (s.channel 0).weigh = .waiting 0 1 ∧ ∀ d m, (s.channel d).weigh = .waiting 0 m → d = 0 := by decide +kernel
theorem test_cancel_both :
    let s (target : Byte) := asked 0 0x0D [target] (bothInFlight .rateQueued ⟨[⟨0, 2, 2, .rest, 0, none⟩], .idle⟩)
    [0xFF, 1, 2].map (fun target =>
        let u := landed (.cancel 0 7 [target]) (s target)
        (answered u, (u.ctx 0).completions.length, (u.ctx 0).weigh, (u.ctx 0).rating)) =
      [([0, 1, 1], 2, none, false), ([0, 1, 0], 1, none, true), ([0, 0, 1], 1, some 1, false)] := by decide +kernel

theorem witness_BeginOpensTransaction :
    (asked 1 0x03 [] desk).requestWaits 1 ⟨0x03, 7, []⟩ [] ∧ ((asked 1 0x03 [] desk).ctx 1).state ≠ .offline := by decide +kernel
theorem witness_AddFillsLowestEmptySlot_room :
    let s := asked 0 0x04 [] desk
    s.requestWaits 0 ⟨0x04, 7, []⟩ [] ∧ (s.ctx 0).state = .inTransaction ∧ (s.ctx 0).transaction = some deskSlots ∧
      tget deskSlots 4 = none ∧ ∀ j, j < (4 : Slot) → (tget deskSlots j).isSome = true := by decide +kernel
theorem witness_AddFillsLowestEmptySlot_last :
    let t : Transaction := tset (Vector.replicate 8 (some quotedItem)) 7 none
    tget t 7 = none ∧ ∀ j, j < (7 : Slot) → (tget t j).isSome = true := by decide +kernel
theorem witness_AddFillsLowestEmptySlot_full :
    let t : Transaction := Vector.replicate 8 (some (itemIn .draft))
    let s := asked 0 0x04 [] (desk.setCtx 0 { deskContext with transaction := some t })
    s.requestWaits 0 ⟨0x04, 7, []⟩ [] ∧ (s.ctx 0).state = .inTransaction ∧ (s.ctx 0).transaction = some t ∧
      ∀ k, (tget t k).isSome = true := by decide +kernel

theorem witness_AmendByItemState_refused :
    let s := asked 0 0x05 (amendBytes 3 2) desk
    requestFits 0x05 (amendBytes 3 2) = true ∧ byteAt (amendBytes 3 2) 0 = (3 : Slot).val ∧
      s.itemRequestWaits 0 ⟨0x05, 7, amendBytes 3 2⟩ [] 3 deskSlots acceptedItem ∧ acceptedItem.state = .accepted := by decide +kernel
theorem witness_AmendByItemState_idle :
    let s := asked 0 0x05 (amendBytes 0 0) desk
    requestFits 0x05 (amendBytes 0 0) = true ∧ byteAt (amendBytes 0 0) 0 = (0 : Slot).val ∧
      s.itemRequestWaits 0 ⟨0x05, 7, amendBytes 0 0⟩ [] 0 deskSlots quotedItem ∧ quotedItem.state = .quoted ∧
      ∀ n : Fin 5, byteAt (amendBytes 0 0) (1 + n.val) = 0 := by decide +kernel
/-- An AMEND that sets all five facts: service 7, destination 987654, 9,999,999, all extras, 2,000 by 1,999 by 1 mm. -/
def amendAll (k : Byte) : List Byte :=
  [k, 1, 1, 1, 1, 1, 7, 0x98, 0x76, 0x54, 0x7F, 0x96, 0x98, 0x00, 0x0F, 0xD0, 0x07, 0xCF, 0x07, 1, 0]
theorem test_amend_sets_all :
    ((landed (.amend 0 7 (amendAll 1)) (asked 0 5 (amendAll 1) desk)).item 0 1).map (·.facts) =
      some ⟨7, some 987654, some 9999999, ⟨true, true, true, true⟩, some ⟨2000, 1999, 1⟩⟩ := by decide +kernel
theorem witness_AmendByItemState_kept :
    ∀ pl ∈ [amendBytes 1 2, amendAll 1],
      let s := asked 0 0x05 pl desk
      requestFits 0x05 pl = true ∧ byteAt pl 0 = (1 : Slot).val ∧
        s.itemRequestWaits 0 ⟨0x05, 7, pl⟩ [] 1 deskSlots (itemIn .weighed) ∧ byteAt pl 3 ≠ 0 := by decide +kernel
theorem witness_AmendByItemState_requoted :
    ∀ pl ∈ [amendBytes 0 2, amendAll 0],
      let s := asked 0 0x05 pl desk
      requestFits 0x05 pl = true ∧ byteAt pl 0 = (0 : Slot).val ∧
        s.itemRequestWaits 0 ⟨0x05, 7, pl⟩ [] 0 deskSlots quotedItem ∧ byteAt pl 3 ≠ 0 := by decide +kernel

theorem witness_DropByItemState :
    (asked 0 0x06 [0] desk).itemRequestWaits 0 ⟨0x06, 7, [BitVec.ofNat 8 (0 : Slot).val]⟩ [] 0 deskSlots quotedItem := by decide +kernel

theorem witness_FinishClosesTransaction :
    ∀ n ∈ [1, 8],
      let pl := BitVec.ofNat 8 n :: leBytes 4 2000
      let s := asked 0 0x0F pl desk
      n ≤ 8 ∧ s.requestWaits 0 ⟨0x0F, 7, pl⟩ [] ∧ (s.ctx 0).state = .inTransaction ∧
        (s.ctx 0).transaction = some deskSlots ∧ (s.ctx 0).weigh = none ∧ (s.ctx 0).rating = false ∧
        itemsIn .accepted deskSlots = 1 ∧ acceptedPostage deskSlots = 2000 := by decide +kernel
theorem witness_FinishClosesTransaction_busy :
    let pl := BitVec.ofNat 8 1 :: leBytes 4 2000
    let s := asked 0 0x0F pl weighing
    s.requestWaits 0 ⟨0x0F, 7, pl⟩ [] ∧ (s.ctx 0).state = .inTransaction ∧
      (s.ctx 0).transaction = some (slotsWith { itemIn .weighing with weight := none }) ∧ (s.ctx 0).weigh.isSome = true := by
  decide +kernel

/-- A good sample with bits 1 to 7 of its status byte set, after two bytes of noise, one of which is in the line already. -/
def noisySample : List Byte := 0x00 :: sampleWire 143421 0xFE
theorem witness_GoodSampleTreated_noise :
    let s := { desk with scaleLines := tset desk.scaleLines 0 [0x3C] }
    tget s.scaleLines 0 ++ noisySample = [0x3C, 0x00] ++ sampleWire 143421 0xFE ∧ (∀ b ∈ ([0x3C, 0x00] : List Byte), b ≠ 0xC3) ∧
      (0xFE : Byte).getLsbD 0 = false ∧ (s.channel 0).state = .stable := by decide +kernel
theorem witness_GoodSampleTreated_off :
    desk.power = .running ∧ tget desk.scaleLines 1 ++ noisySample = [0x00] ++ sampleWire 143421 0xFE ∧ (desk.channel 1).state = .off := by
  decide +kernel
theorem witness_GoodSampleTreated_fault :
    let s := desk.setChannel 0 (desk.channel 0).failed
    s.power = .running ∧ tget s.scaleLines 0 ++ noisySample = [0x00] ++ sampleWire 143421 0xFE ∧ (s.channel 0).state = .fault := by
  decide +kernel
theorem witness_GoodSampleTreated_restart :
    let s := desk.setChannel 0 { desk.channel 0 with state := .unstable, window := [], filtered := none, reading := none, reference := none }
    s.power = .running ∧ tget s.scaleLines 0 ++ noisySample = [0x00] ++ sampleWire 143421 0xFE ∧ (s.channel 0).state = .unstable ∧
      (s.channel 0).filtered = none := by decide +kernel
theorem witness_GoodSampleTreated_judged :
    desk.power = .running ∧ tget desk.scaleLines 0 ++ noisySample = [0x00] ++ sampleWire 143421 0xFE ∧
      (desk.channel 0).state = .stable ∧ (desk.channel 0).filtered = some 120000 ∧ (desk.channel 0).reference = some 0 := by
  decide +kernel
theorem witness_GoodSampleTreated_counts :
    signedOf 24 (leNat (leInt 3 (-8388608))) = -8388608 ∧ signedOf 24 (leNat (leInt 3 8388607)) = 8388607 := by decide +kernel

/-- The two kinds of error sample: the error flag set, and a check byte that does not match, of which a later sync byte is kept. -/
theorem witness_ErrorSampleTreated_arrivals :
    (tget desk.scaleLines 0 ++ (0x00 :: sampleWire 143421 0x03) = [0x00] ++ sampleWire 143421 0x03 ∧ (0x03 : Byte).getLsbD 0 = true) ∧
      tget desk.scaleLines 0 ++ [0x00, 0xC3, 1, 0xC3, 2, 0, 0] = [0x00] ++ [0xC3, 1, 0xC3, 2, 0, 0] ∧
      (0 : Byte) ≠ 1 ^^^ 0xC3 ^^^ 2 ^^^ 0 ∧ ([1, 0xC3, 2, 0, 0] : List Byte).dropWhile (fun b => decide (b ≠ 0xC3)) = [0xC3, 2, 0, 0] := by
  decide +kernel
theorem witness_ErrorSampleTreated_off :
    desk.power = .running ∧ (desk.channel 1).state = .off ∧ ((desk.setChannel 0 (desk.channel 0).failed).channel 0).state = .fault := by
  decide +kernel
theorem witness_ErrorSampleTreated_counted :
    let s := desk.setChannel 0 { desk.channel 0 with errors := 6 }
    s.power = .running ∧ tget s.scaleLines 0 = [] ∧ (s.channel 0).state = .stable ∧ (s.channel 0).errors < 7 := by decide +kernel
theorem witness_ErrorSampleTreated_fault :
    let s := desk.setChannel 0 { desk.channel 0 with errors := 7 }
    s.power = .running ∧ tget s.scaleLines 0 = [] ∧ (s.channel 0).state = .stable ∧ 7 ≤ (s.channel 0).errors ∧
      (s.channel 0).weigh = .idle := by decide +kernel
theorem witness_ErrorSampleTreated_weigh :
    let s := weighing.setChannel 0 { weighing.channel 0 with errors := 7 }
    s.power = .running ∧ tget s.scaleLines 0 = [] ∧ (s.channel 0).state = .unstable ∧ 7 ≤ (s.channel 0).errors ∧
      (s.channel 0).weigh = .waiting 0 1 ∧ (s.ctx 0).state = .inTransaction ∧
      (s.ctx 0).transaction = some (slotsWith { itemIn .weighing with weight := none }) ∧
      tget (slotsWith { itemIn .weighing with weight := none }) 1 = some { itemIn .weighing with weight := none } := by decide +kernel

theorem witness_TimersEndWeigh_idle :
    let s := weighing.setChannel 0 { weighing.channel 0 with weigh := .idle, weighTimer := none }
    s.power = .running ∧ (s.channel 0).state = .unstable ∧ (s.channel 0).settleTimer.isSome = true ∧
      (s.channel 0).reading = some 2342 ∧ (s.channel 0).weigh = .idle := by decide +kernel
theorem witness_TimersEndWeigh_waiting :
    weighing.power = .running ∧ (weighing.channel 0).state = .unstable ∧ (weighing.channel 0).settleTimer.isSome = true ∧
      (weighing.channel 0).reading = some 2342 ∧ (weighing.channel 0).weigh = .waiting 0 1 ∧
      (weighing.channel 0).weighTimer.isSome = true ∧ (weighing.ctx 0).state = .inTransaction ∧
      (weighing.ctx 0).transaction = some (slotsWith { itemIn .weighing with weight := none }) := by decide +kernel

theorem witness_WeighWaitsOrCaptures_stable :
    let s := asked 0 0x07 [1] desk
    s.itemRequestWaits 0 ⟨0x07, 7, [BitVec.ofNat 8 (1 : Slot).val]⟩ [] 1 deskSlots (itemIn .weighed) ∧
      (s.ctx 0).config.scale = some 0 ∧ (s.channel 0).weigh = .idle ∧ (s.ctx 0).weigh = none ∧ s.budgetTotal 0 < 8 ∧
      (s.channel 0).state = .stable ∧ (s.channel 0).reading = some 0 := by decide +kernel
theorem witness_WeighWaitsOrCaptures_unstable :
    let s := asked 0 0x07 [1] (desk.setChannel 0 { desk.channel 0 with state := .unstable, settleTimer := some 600 })
    s.itemRequestWaits 0 ⟨0x07, 7, [BitVec.ofNat 8 (1 : Slot).val]⟩ [] 1 deskSlots (itemIn .weighed) ∧
      (s.ctx 0).config.scale = some 0 ∧ (s.channel 0).weigh = .idle ∧ (s.ctx 0).weigh = none ∧ s.budgetTotal 0 < 8 ∧
      (s.channel 0).state = .unstable := by decide +kernel
/-- A weigh that passes every check but the last: the channel is in FAULT. -/
theorem witness_WeighWaitsOrCaptures_refused :
    let s := asked 0 0x07 [1] (desk.setChannel 0 { desk.channel 0 with state := .fault })
    s.itemRequestWaits 0 ⟨0x07, 7, [BitVec.ofNat 8 (1 : Slot).val]⟩ [] 1 deskSlots (itemIn .weighed) ∧
      (s.ctx 0).config.scale = some 0 ∧ (s.channel 0).weigh = .idle ∧ (s.ctx 0).weigh = none ∧ s.budgetTotal 0 < 8 ∧
      (s.channel 0).state = .fault := by decide +kernel

theorem witness_ZeroWithinRange :
    ∀ counts ∈ ([125999, 126000] : List Int),
      let s := asked 0 0x08 [] (desk.setChannel 0 { desk.channel 0 with filtered := some counts })
      s.requestWaits 0 ⟨0x08, 7, []⟩ [] ∧ (s.ctx 0).state = .inTransaction ∧ (s.ctx 0).config.scale = some 0 ∧
        (s.channel 0).state = .stable ∧ (s.channel 0).weigh = .idle ∧ (s.channel 0).filtered = some counts := by decide +kernel
/-- A ZERO that passes every check but the last: the channel is UNSTABLE. -/
theorem witness_ZeroWithinRange_refused :
    let s := asked 0 0x08 [] (desk.setChannel 0 { desk.channel 0 with state := .unstable })
    s.requestWaits 0 ⟨0x08, 7, []⟩ [] ∧ (s.ctx 0).state = .inTransaction ∧ (s.ctx 0).config.scale = some 0 ∧
      (s.channel 0).weigh = .idle ∧ (s.channel 0).state = .unstable := by decide +kernel

theorem witness_RateJoinsQueue :
    let s := asked 0 0x09 [0, 0] desk
    s.itemRequestWaits 0 ⟨0x09, 7, [BitVec.ofNat 8 (0 : Slot).val, 0x00]⟩ [] 0 deskSlots quotedItem ∧ quotedItem.state = .quoted ∧
      quotedItem.facts.destination.isSome = true ∧ (s.bank .A).state = .active ∧ (s.ctx 0).rating = false ∧ s.budgetTotal 0 < 8 := by
  decide +kernel
theorem witness_RateJoinsQueue_refused :
    let s := asked 0 0x09 [1, 1] (desk.setCtx 0 { desk.ctx 0 with rating := true })
    s.itemRequestWaits 0 ⟨0x09, 7, [BitVec.ofNat 8 (1 : Slot).val, 0x01]⟩ [] 1 deskSlots (itemIn .weighed) ∧
      (s.bank .A).state = .active ∧ (s.ctx 0).rating = true := by decide +kernel

theorem witness_EvaluationStarts_active :
    queuedRating.power = .running ∧ queuedRating.evaluator = ⟨⟨0, 1, 1, .rest, 0, none⟩ :: [], .idle⟩ ∧
      (queuedRating.ctx 0).state = .inTransaction ∧ (queuedRating.ctx 0).transaction = some (slotsWith (itemIn .rateQueued)) ∧
      tget (slotsWith (itemIn .rateQueued)) 1 = some (itemIn .rateQueued) ∧ (queuedRating.bank .A).state = .active ∧
      (queuedRating.bank .B).state ≠ .active ∧ (queuedRating.bank .A).generation = some 1 := by decide +kernel
theorem witness_EvaluationStarts_none :
    let s := queuedRating.setBank .A .blank
    s.power = .running ∧ s.evaluator = ⟨⟨0, 1, 1, .rest, 0, none⟩ :: [], .idle⟩ ∧ (s.bank .A).state ≠ .active ∧
      (s.bank .B).state ≠ .active := by decide +kernel

/-- The worked parcel at bank A of the desk: the service is offered, prefix 314 is in zone 3, and every limit is kept. -/
theorem witness_CheckStepPassesOrRefuses_passes :
    let s := evaluating .check 0 none
    let img := (s.bank .A).image
    let field (k size : Nat) : Nat := numAt img (scheduleOffset workedFacts.service.val + k) size
    s.power = .running ∧ s.evaluator.state = .evaluating ⟨0, 1, 1, .rest, 0, none⟩ (workedEvaluation .check 0) ∧
      field 0 1 = 1 ∧ workedFacts.destination = some 314159 ∧ (3 : Fin 16).val = byteAt img (32 + 314159 / 1000) ∧
      2342 ≤ field 10 2 ∧ longestSide ⟨400, 300, 200⟩ ≤ field 12 2 ∧ sideAndGirth ⟨400, 300, 200⟩ ≤ field 14 2 ∧
      20000 ≤ field 17 4 ∧ workedFacts.dimensions = some ⟨400, 300, 200⟩ := by decide +kernel
theorem witness_CheckStepPassesOrRefuses_refuses :
    let s := (evaluating .check 0 none).setEvaluatorState
      (.evaluating ⟨0, 1, 1, .rest, 0, none⟩ { workedEvaluation .check 0 with weight := 30001 })
    let img := (s.bank .A).image
    let field (k size : Nat) : Nat := numAt img (scheduleOffset workedFacts.service.val + k) size
    field 0 1 = 1 ∧ workedFacts.destination = some 314159 ∧ byteAt img (32 + 314159 / 1000) ≤ 15 ∧ field 10 2 < 30001 ∧
      (s.ctx 0).state = .inTransaction ∧ (s.ctx 0).transaction = some (slotsWith (itemIn .rating)) ∧
      tget (slotsWith (itemIn .rating)) 1 = some (itemIn .rating) := by decide +kernel
theorem witness_TermStepAddsContribution :
    let s := evaluating (.term 4 workedWorking) 191000 none
    s.power = .running ∧
      s.evaluator.state = .evaluating ⟨0, 1, 1, .rest, 0, none⟩ (workedEvaluation (.term 4 workedWorking) 191000) := by decide +kernel
theorem witness_DeliveryStoresQuote :
    let s := evaluating (.delivery workedWorking) 199595 none
    s.power = .running ∧
      s.evaluator.state = .evaluating ⟨0, 1, 1, .rest, 0, none⟩ (workedEvaluation (.delivery workedWorking) 199595) ∧
      (s.ctx 0).state = .inTransaction ∧ (s.ctx 0).transaction = some (slotsWith (itemIn .rating)) ∧
      tget (slotsWith (itemIn .rating)) 1 = some (itemIn .rating) := by decide +kernel

theorem witness_ChainStepContinuesOrEnds_continues :
    let s := desk.setEvaluatorState (.chaining ⟨0, 0, 0, .rest, 1, some 2000⟩)
    s.power = .running ∧ s.evaluator.state = .chaining ⟨0, 0, 0, .rest, 1, some 2000⟩ ∧ (1 : Slot).val = (0 : Slot).val + 1 ∧
      (s.ctx 0).state = .inTransaction ∧ (s.ctx 0).transaction = some deskSlots ∧ tget deskSlots 1 = some (itemIn .weighed) := by
  decide +kernel
theorem witness_ChainStepContinuesOrEnds_ends :
    let s := desk.setEvaluatorState (.chaining ⟨0, 6, 0, .rest, 1, some 2000⟩)
    s.power = .running ∧ (6 : Slot).val < 7 ∧ (7 : Slot).val = (6 : Slot).val + 1 ∧ (s.ctx 0).transaction = some deskSlots ∧
      tget deskSlots 7 = none := by decide +kernel

theorem witness_EvaluationHalts :
    ∀ h ∈ [HaltReason.abandoned, .cancelled, .reRate],
      let s := evaluating (.term 1 workedWorking) 65000 (some h)
      s.power = .running ∧
        s.evaluator.state =
          .evaluating ⟨0, 1, 1, .rest, 0, none⟩ { workedEvaluation (.term 1 workedWorking) 65000 with halt := some h } ∧
        (s.ctx 0).state = .inTransaction ∧ (s.ctx 0).transaction = some (slotsWith (itemIn .rating)) := by decide +kernel

theorem witness_AcceptMakesItsEffects :
    let s := asked 0 0x0B [0] desk
    s.itemRequestWaits 0 ⟨0x0B, 7, [BitVec.ofNat 8 (0 : Slot).val]⟩ [] 0 deskSlots quotedItem ∧ s.supply = .normal ∧
      s.clock.valid = true ∧ quotedItem.quote.isSome = true ∧ (s.ctx 0).account = some 0 ∧ (s.ctx 0).key = some (s.account 0).key ∧
      (s.account 0).status = .opened ∧ 2000 ≤ (s.account 0).remaining ∧ (s.account 0).issued + 2000 ≤ 2 ^ 47 - 1 ∧
      s.allocator.officeCode = some 40312 ∧ s.allocator.next = some 12345 ∧ s.allocator.blocks = ⟨12345, 12400⟩ :: [] ∧
      s.journal.entries.length < 2048 ∧ s.budgetTotal 0 < 8 ∧ tget s.labelCounts 0 < 4 ∧ (s.ctx 0).config.printer = some 0 ∧ (s.printer 0).queue.length < 16 ∧
      (s.printer 0).state ≠ .ready := by decide +kernel
/-- The same on printer 1, which is READY and has no job. -/
theorem witness_AcceptMakesItsEffects_ready :
    let s := asked 0 0x0B [0] (desk.setCtx 0 { deskContext with config := { deskContext.config with printer := some 1 } })
    s.itemRequestWaits 0 ⟨0x0B, 7, [BitVec.ofNat 8 (0 : Slot).val]⟩ [] 0 deskSlots quotedItem ∧ (s.ctx 0).config.printer = some 1 ∧
      (s.printer 1).state = .ready ∧ (s.printer 1).queue = [] := by decide +kernel
/-- An ACCEPT whose account lacks 1, and one of a position without a printer, all else in order. -/
theorem witness_AcceptMakesItsEffects_refused :
    let s := asked 0 0x0B [0] (desk.setAccount 0 { desk.account 0 with remaining := 1999 })
    s.itemRequestWaits 0 ⟨0x0B, 7, [BitVec.ofNat 8 (0 : Slot).val]⟩ [] 0 deskSlots quotedItem ∧ quotedItem.quote.isSome = true ∧
      (s.ctx 0).account = some 0 ∧ (s.ctx 0).key = some 9 ∧ s.supply = .normal ∧ s.clock.valid = true ∧
      (s.account 0).status = .opened ∧ (s.account 0).key = 9 ∧ (s.account 0).remaining < 2000 := by decide +kernel
theorem witness_AcceptMakesItsEffects_printerless :
    let s := asked 0 0x0B [0] (desk.setCtx 0 { deskContext with config := { deskContext.config with printer := none } })
    s.itemRequestWaits 0 ⟨0x0B, 7, [BitVec.ofNat 8 (0 : Slot).val]⟩ [] 0 deskSlots quotedItem ∧
      (s.ctx 0).account = some 0 ∧ (s.ctx 0).key = some 9 ∧ s.supply = .normal ∧ s.clock.valid = true ∧
      (s.account 0).status = .opened ∧ (s.account 0).key = 9 ∧ 2000 ≤ (s.account 0).remaining ∧
      (s.account 0).issued + 2000 ≤ 2 ^ 47 - 1 ∧ s.allocator.officeCode = some 40312 ∧ s.allocator.next = some 12345 ∧
      s.journal.entries.length < 2048 ∧ s.budgetTotal 0 < 8 ∧ tget s.labelCounts 0 < 4 ∧ (s.ctx 0).config.printer = none := by decide +kernel
theorem witness_ItemNumbersFormed : itemNumber 99999 99999999 ≠ itemNumber 99999 99999998 ∧ (99999999 : Nat) ≤ 99999999 := by decide +kernel

/-- The job of the accepted item of the desk, in a condition. -/
def acceptedJob (c : JobCondition) : Job := { someJob with itemNumber := itemNumber 40312 12344, position := 0, slot := 3, condition := c }

theorem witness_VoidMakesItsEffects_printed :
    let s := asked 0 0x0C [3] desk
    s.itemRequestWaits 0 ⟨0x0C, 7, [BitVec.ofNat 8 (3 : Slot).val]⟩ [] 3 deskSlots acceptedItem ∧ s.supply = .normal ∧
      acceptedItem.quote.isSome = true ∧ acceptedItem.itemNumber = some (itemNumber 40312 12344) ∧ (s.ctx 0).account = some 0 ∧
      (s.ctx 0).key = some (s.account 0).key ∧ (s.account 0).status = .opened ∧ s.journal.entries.length < 2048 ∧
      (∀ m, ∀ j ∈ (s.printer m).queue, j.itemNumber = itemNumber 40312 12344 → j.condition = .printing) := by decide +kernel
theorem witness_VoidMakesItsEffects_waiting :
    let s := asked 0 0x0C [3] (desk.setPrinter 0 { desk.printer 0 with queue := [someJob, acceptedJob .waiting] })
    s.itemRequestWaits 0 ⟨0x0C, 7, [BitVec.ofNat 8 (3 : Slot).val]⟩ [] 3 deskSlots acceptedItem ∧
      (s.printer 0).queue = [someJob] ++ acceptedJob .waiting :: [] ∧ (acceptedJob .waiting).itemNumber = itemNumber 40312 12344 ∧
      (acceptedJob .waiting).condition = .waiting ∧ (∀ o ∈ [someJob], o.itemNumber ≠ itemNumber 40312 12344) ∧
      (∀ m, m ≠ 0 → ∀ o ∈ (s.printer m).queue, o.itemNumber ≠ itemNumber 40312 12344) ∧ (s.printer 0).state ≠ .ready := by decide +kernel
/-- A VOID that meets a full journal, all else in order. -/
theorem witness_VoidMakesItsEffects_refused :
    let s := asked 0 0x0C [3] { desk with journal := { entries := List.replicate 2048 ⟨1, 900, 0, .credit 1⟩, next := 2 } }
    s.itemRequestWaits 0 ⟨0x0C, 7, [BitVec.ofNat 8 (3 : Slot).val]⟩ [] 3 deskSlots acceptedItem ∧
      acceptedItem.quote.isSome = true ∧ acceptedItem.itemNumber.isSome = true ∧ (s.ctx 0).account = some 0 ∧
      (s.ctx 0).key = some 9 ∧ s.supply = .normal ∧ (s.account 0).status = .opened ∧ (s.account 0).key = 9 ∧
      2048 ≤ s.journal.entries.length := by decide +kernel

theorem witness_TimeAndFlagsSet_time : (told 0x02 [0xFF, 0xFF, 0xFF, 0xFF] desk).commandWaits ⟨0x02, 7, [0xFF, 0xFF, 0xFF, 0xFF]⟩ [] := by
  decide +kernel
theorem witness_TimeAndFlagsSet_flags :
    let v : Vector Byte 8 := #v[0, 1, 2, 2, 2, 2, 1, 0]
    (∀ f, (tget v f).toNat ≤ 2) ∧ (told 0x06 v.toList desk).commandWaits ⟨0x06, 7, v.toList⟩ [] := by decide +kernel

/-- Positions 0 and 1 of the desk name channel 0. -/
theorem witness_PositionStoresSettings_full :
    let pl : List Byte := [2, 1, 0, 0xFF, 1]
    let s := told 0x07 pl desk
    readPosition pl = some (2, ⟨true, some 0, none, 1⟩) ∧ s.commandWaits ⟨0x07, 7, pl⟩ [] ∧
      (s.ctx 0).config.scale = some 0 ∧ (s.ctx 1).config.scale = some 0 := by decide +kernel
/-- Position 0 names channel 1, and its weigh is held at channel 0, which position 1 names (R46). -/
theorem witness_PositionStoresSettings_held : (movedAway.ctx 1).config.scale = some 0 ∧ (movedAway.ctx 0).config.scale = some 1 ∧
    (movedAway.channel 0).weigh = .waiting 0 1 := by decide +kernel
theorem witness_PositionStoresSettings_stored :
    let pl : List Byte := [15, 1, 7, 3, 0x0F]
    let s := told 0x07 pl desk
    readPosition pl = some (15, ⟨true, some 7, some 3, 15⟩) ∧ s.commandWaits ⟨0x07, 7, pl⟩ [] ∧
      (∀ q, (s.ctx q).config.scale ≠ some 7) ∧ (s.channel 7).weigh = .idle ∧ (s.ctx 15).config.enabled = false := by decide +kernel
/-- Of the positions that name channel 0, one alone is not position 0. -/
theorem witness_PositionStoresSettings_disabled :
    let pl : List Byte := [0, 0, 0, 0, 0]
    let s := told 0x07 pl desk
    readPosition pl = some (0, ⟨false, some 0, some 0, 0⟩) ∧ s.commandWaits ⟨0x07, 7, pl⟩ [] ∧
      (∀ q, (s.ctx q).config.scale = some 0 → q = 0 ∨ q = 1) ∧ (s.channel 0).weigh = .idle ∧
      (s.ctx 0).config.enabled = true ∧ (s.ctx 0).state = .inTransaction := by decide +kernel

/-- Section 3.7: the SCALE command that gives channel 0 the settings of S2. -/
def scaleCommand : List Byte := [0, 1, 0x30, 0x75, 2, 0xC0, 0xD4, 0x01, 0x9A, 0x19, 0x88, 0x13, 0, 2, 6]

theorem witness_ScaleResetsChannel_idle :
    let s := told 0x08 scaleCommand desk
    readScale scaleCommand = some (0, scaleS2) ∧ s.commandWaits ⟨0x08, 7, scaleCommand⟩ [] ∧ (s.channel 0).weigh = .idle ∧
      (s.channel 0).weighTimer = none := by decide +kernel
theorem witness_ScaleResetsChannel_waiting :
    let s := told 0x08 scaleCommand weighing
    readScale scaleCommand = some (0, scaleS2) ∧ s.commandWaits ⟨0x08, 7, scaleCommand⟩ [] ∧ (s.channel 0).weigh = .waiting 0 1 ∧
      (s.ctx 0).state = .inTransaction ∧ (s.ctx 0).transaction = some (slotsWith { itemIn .weighing with weight := none }) := by
  decide +kernel

theorem witness_PrinterEnablesAndDisables_stays :
    (told 0x09 [0, 1] desk).commandWaits ⟨0x09, 7, [BitVec.ofNat 8 (0 : PrinterId).val, boolByte true]⟩ [] ∧
      (desk.printer 0).state ≠ .off := by decide +kernel
theorem witness_PrinterEnablesAndDisables_enabled :
    (told 0x09 [3, 1] desk).commandWaits ⟨0x09, 7, [BitVec.ofNat 8 (3 : PrinterId).val, boolByte true]⟩ [] ∧
      (desk.printer 3).state = .off := by decide +kernel
theorem witness_PrinterEnablesAndDisables_disabled :
    (told 0x09 [0, 0] desk).commandWaits ⟨0x09, 7, [BitVec.ofNat 8 (0 : PrinterId).val, boolByte false]⟩ [] ∧
      (desk.printer 0).state ≠ .printing := by decide +kernel
theorem witness_PrinterEnablesAndDisables_printing :
    let s := told 0x09 [0, 0] printing
    s.commandWaits ⟨0x09, 7, [BitVec.ofNat 8 (0 : PrinterId).val, boolByte false]⟩ [] ∧ (s.printer 0).state = .printing ∧
      (s.printer 0).queue = someJob.sending :: [] := by decide +kernel

theorem witness_RedirectMovesWaitingJobs_state :
    (told 0x0A [0, 3] desk).commandWaits ⟨0x0A, 7, [BitVec.ofNat 8 (0 : PrinterId).val, BitVec.ofNat 8 (3 : PrinterId).val]⟩ [] ∧
      (desk.printer 3).state = .off := by decide +kernel
theorem witness_RedirectMovesWaitingJobs_room :
    let s := told 0x0A [0, 1] (desk.setPrinter 1 { desk.printer 1 with state := .faulted .jam, queue := List.replicate 16 someJob })
    s.commandWaits ⟨0x0A, 7, [BitVec.ofNat 8 (0 : PrinterId).val, BitVec.ofNat 8 (1 : PrinterId).val]⟩ [] ∧
      (s.printer 1).state ≠ .off ∧
      16 - (s.printer 1).queue.length < ((s.printer 0).queue.filter fun j => decide (j.condition = .waiting)).length := by decide +kernel
theorem witness_RedirectMovesWaitingJobs_moved :
    let s := told 0x0A [0, 1] desk
    s.commandWaits ⟨0x0A, 7, [BitVec.ofNat 8 (0 : PrinterId).val, BitVec.ofNat 8 (1 : PrinterId).val]⟩ [] ∧
      (s.printer 1).state = .ready ∧
      ((s.printer 0).queue.filter fun j => decide (j.condition = .waiting)).length ≤ 16 - (s.printer 1).queue.length := by decide +kernel
/-- The desk with a QUEUED label of the accepted item waiting at printer 0. -/
theorem witness_RedirectMovesWaitingJobs_queued :
    let s := withItem 3 (some { acceptedItem with label := .queued })
      (desk.setPrinter 0 { desk.printer 0 with queue := [acceptedJob .waiting] })
    ∀ k i, s.item 0 k = some i → ∀ j ∈ [acceptedJob .waiting], j.position = 0 → i.itemNumber = some j.itemNumber → i.label = .queued := by
  intro s k i hi j hj _ hn
  have h : ∀ k, (s.item 0 k).all (fun i => decide (i.itemNumber = some (acceptedJob .waiting).itemNumber → i.label = .queued)) = true := by
    decide +kernel
  cases List.mem_singleton.mp hj
  have := h k
  rw [hi] at this
  exact of_decide_eq_true this hn

theorem witness_AccountSetsFields :
    let pl : List Byte := [0, 0xFF, 0xFF, 0xB0, 0x71, 0x0B, 0]
    readAccount pl = some ⟨0, none, none, some 750000⟩ ∧ (told 0x03 pl desk).commandWaits ⟨0x03, 7, pl⟩ [] := by decide +kernel
theorem witness_CreditChecksAndEffect :
    ∀ amount ∈ [1, 99999999],
      1 ≤ amount ∧ amount ≤ 99999999 ∧
        (told 0x04 (BitVec.ofNat 8 (3 : AccountId).val :: leBytes 4 amount) desk).commandWaits
          ⟨0x04, 7, BitVec.ofNat 8 (3 : AccountId).val :: leBytes 4 amount⟩ [] := by decide +kernel
theorem witness_BlockChecksAndEffect :
    (12401 : Nat) < 2 ^ 32 ∧ (1000000 : Nat) < 2 ^ 32 ∧
      (told 0x05 (leBytes 4 12401 ++ leBytes 4 1000000) desk).commandWaits ⟨0x05, 7, leBytes 4 12401 ++ leBytes 4 1000000⟩ [] := by
  decide +kernel
theorem witness_JournalReleaseByDistance : (told 0x11 [1, 0, 0, 0] desk).commandWaits ⟨0x11, 7, [1, 0, 0, 0]⟩ [] := by decide +kernel

theorem witness_LoadCommandsBuildImage_begin :
    let pl : List Byte := [0x5A, 0x1B, 0, 0, 0xE8, 3, 0, 0, 0x00, 0x20, 1, 2, 3, 4]
    readLoadBegin pl = some ⟨7002, 1000, 8192, 0x04030201⟩ ∧ (told 0x0B pl desk).commandWaits ⟨0x0B, 7, pl⟩ [] := by decide +kernel
theorem witness_LoadCommandsBuildImage_part :
    let pl : List Byte := 0 :: 0 :: List.replicate 240 9
    let s := told 0x0C pl (loadingB [])
    s.commandWaits ⟨0x0C, 7, pl⟩ [] ∧ (List.replicate 240 (9 : Byte)).length ≤ 240 ∧ (s.bank .B).state = .loading ∧
      (s.bank BankId.B.other).state ≠ .loading ∧ (s.bank .B).declared = some ⟨1556, BitVec.ofNat 32 workedCheck⟩ := by decide +kernel
theorem witness_LoadCommandsBuildImage_partless :
    (told 0x0C [0, 0, 9] desk).commandWaits ⟨0x0C, 7, [0, 0, 9]⟩ [] ∧ 1 ≤ [(9 : Byte)].length ∧ (desk.bank .A).state ≠ .loading ∧
      (desk.bank .B).state ≠ .loading := by decide +kernel
theorem witness_LoadCommandsBuildImage_abandon : (told 0x0E [1] (loadingB [])).commandWaits ⟨0x0E, 7, [bankCode .B]⟩ [] := by decide +kernel
theorem witness_LoadCommandsBuildImage_timeout :
    (loadingB []).power = .running ∧ ((loadingB []).bank .B).state = .loading ∧ ((loadingB []).bank .B).idleTimer.isSome = true := by
  decide +kernel

theorem witness_LoadEndValidates_none :
    (told 0x0D [] desk).commandWaits ⟨0x0D, 7, []⟩ [] ∧ (desk.bank .A).state ≠ .loading ∧ (desk.bank .B).state ≠ .loading := by decide +kernel
theorem witness_LoadEndValidates_refused :
    let s := told 0x0D [] (loadingB [])
    s.commandWaits ⟨0x0D, 7, []⟩ [] ∧ (s.bank .B).state = .loading ∧ (s.bank BankId.B.other).state ≠ .loading ∧
      (s.bank .B).declared = some workedDeclared ∧
      firstFailure (s.bank .B) workedDeclared s.allocator.officeCode = some (1, .header) := by decide +kernel
theorem loadEnd_told (s : State) (hs : s = told 0x0D [] (loadingB (imageWith workedCheck))) :
    s.commandWaits ⟨0x0D, 7, []⟩ [] ∧ (s.bank .B).state = .loading ∧ (s.bank BankId.B.other).state ≠ .loading ∧
      s.bank .B = bankLoading (imageWith workedCheck) ∧ s.allocator.officeCode = some 40312 := by
  subst hs
  exact ⟨⟨rfl, rfl⟩, rfl, by decide +kernel, rfl, rfl⟩
theorem witness_LoadEndValidates_valid :
    ∃ s : State, s.commandWaits ⟨0x0D, 7, []⟩ [] ∧ (s.bank .B).state = .loading ∧ (s.bank BankId.B.other).state ≠ .loading ∧
      (s.bank .B).declared = some workedDeclared ∧ firstFailure (s.bank .B) workedDeclared s.allocator.officeCode = none := by
  obtain ⟨h1, h2, h3, h4, h5⟩ := loadEnd_told _ rfl
  refine ⟨_, h1, h2, h3, ?_, ?_⟩
  · rw [h4]; rfl
  · rw [h4, h5]
    exact worked_first_failure

/-- Bank B of the desk LOADED with the worked image, effective at a second. -/
def loadedB (effective : Word32) : Bank := { Bank.loadedWith 2 (bankLoading (imageWith 0)) with effective := some effective }

theorem witness_ActivateSupersedes_refused :
    (told 0x0F [1] desk).commandWaits ⟨0x0F, 7, [bankCode .B]⟩ [] ∧ (desk.bank .B).state ≠ .loaded := by decide +kernel
theorem witness_ActivateSupersedes_retires :
    let s := told 0x0F [1] (desk.setBank .B (loadedB 1000))
    s.commandWaits ⟨0x0F, 7, [bankCode .B]⟩ [] ∧ (s.bank .B).state = .loaded ∧ (s.bank .B).grace = some 10 ∧
      (s.bank .B).effective = some 1000 ∧ (s.bank BankId.B.other).state = .active ∧ 0 < (s.bank BankId.B.other).refs := by decide +kernel
theorem witness_ActivateSupersedes_unreferenced :
    let s := (desk.setBank .B (loadedB 1000)).setBank .A { desk.bank .A with refs := 0 }
    (s.bank .B).state = .loaded ∧ (s.bank BankId.B.other).state = .active ∧ (s.bank BankId.B.other).refs = 0 := by decide +kernel
theorem witness_ActivateSupersedes_loaded :
    let s := (desk.setBank .B (loadedB 1000)).setBank .A (loadedB 1000)
    (s.bank .B).state = .loaded ∧ (s.bank BankId.B.other).state = .loaded ∧ (s.bank BankId.B.other).effective = some 1000 := by
  decide +kernel
theorem witness_ActivateSupersedes_empty :
    let s := (desk.setBank .B (loadedB 1000)).setBank .A .blank
    (s.bank .B).state = .loaded ∧ (s.bank BankId.B.other).state = .empty := by decide +kernel

theorem witness_TickAndGraceExpiry_notRunning :
    ∀ power ∈ [Power.off, .restarting], ({ retiring with power := power } : State).power ≠ .running := by decide
/-- A tick while restarting reaches no bank. -/
theorem test_tick_restarting :
    let u := landed .tick { retiring with power := .restarting }
    u.clock.value = 1001 ∧ (u.bank .A).graceTimer = .running 600 := by decide +kernel
theorem witness_TickAndGraceExpiry_retiring :
    ∀ timer ∈ [GraceTimer.running 0, .running 1, .running 2, .running 600, .stopped, .expired],
      let s := retiring.setBank .A { retiring.bank .A with graceTimer := timer }
      s.power = .running ∧ (s.bank .A).state = .retiring ∧ (s.bank .A).graceTimer = timer ∧
        (s.bank BankId.A.other).state = .active ∧ (s.bank .A).generation = some 1 := by decide +kernel
theorem witness_TickAndGraceExpiry_none :
    desk.power = .running ∧ (∀ b ∈ [BankId.A, .B], (desk.bank b).state ≠ .retiring ∧ (desk.bank b).state ≠ .loaded) := by decide +kernel
/-- Bank B LOADED, and not due: a second early, or due but for the clock that is not valid. -/
theorem witness_TickAndGraceExpiry_notDue :
    (let s := desk.setBank .B (loadedB 1002);
      s.clock.value + 1 = 1001 ∧ (s.bank .A).state = .active ∧ (s.bank .B).state = .loaded ∧ (s.bank .B).effective = some 1002) ∧
    let s := { desk.setBank .B (loadedB 1000) with clock := { value := 1000, valid := false } }
    (s.bank .B).state = .loaded ∧ (s.bank .B).effective = some 1000 ∧ s.clock.valid = false := by decide +kernel
theorem witness_TickAndGraceExpiry_due :
    let s := desk.setBank .B (loadedB 1001)
    s.power = .running ∧ s.clock.valid = true ∧ s.clock.value + 1 = 1001 ∧ (s.bank .B).state = .loaded ∧
      (s.bank .B).effective = some 1001 ∧ (s.bank BankId.B.other).state = .active := by decide +kernel
theorem witness_TickAndGraceExpiry_bothDue :
    let s (e : Word32) := (desk.setBank .A (loadedB 1000)).setBank .B (loadedB e)
    (s 1000).power = .running ∧ (s 1000).clock.valid = true ∧ (s 1000).clock.value + 1 = 1001 ∧ ((s 1000).bank .A).state = .loaded ∧
      ((s 1000).bank .B).state = .loaded ∧ ((s 1000).bank .A).effective = some 1000 ∧ ((s 1000).bank .B).effective = some 1000 ∧
      (s 1000).tariffs.lastLoaded = some .A ∧ ((s 1001).bank .B).effective = some 1001 := by decide +kernel
/-- R181: a DONE whose check byte does not match, an unknown code, and a FAULT with reason 04H. -/
theorem test_answers_discarded :
    AnswerDiscarded 0x01 21 0 0 ∧ AnswerDiscarded 0x04 21 0 (0x04 ^^^ 21) ∧ AnswerDiscarded 0x02 21 4 (0x02 ^^^ 21 ^^^ 4) := by
  unfold AnswerDiscarded
  decide
/-- Noise, a frame of an unknown code, and a FAULT with reason 04H: the first bytes in the line already, the others before the answer. -/
def discardedPieces : List (List Byte) :=
  [[0x00, 0x13], answerWire 0x04 21 0 (0x04 ^^^ 21), answerWire 0x02 21 4 (0x02 ^^^ 21 ^^^ 4), answerWire 0x01 21 0 0]
theorem discardedPieces_quiet : ∀ x ∈ discardedPieces, NoAnswer x := by
  obtain ⟨h1, h2, h3⟩ := test_answers_discarded
  intro x hx
  rcases List.mem_cons.mp hx with rfl | hx
  · exact .inl (by decide)
  rcases List.mem_cons.mp hx with rfl | hx
  · exact .inr ⟨_, _, _, _, rfl, h2, by decide⟩
  rcases List.mem_cons.mp hx with rfl | hx
  · exact .inr ⟨_, _, _, _, rfl, h3, by decide⟩
  cases List.mem_singleton.mp hx
  exact .inr ⟨_, _, _, _, rfl, h1, by decide⟩
theorem witness_answersQuiet :
    State.answersQuiet 0 (discardedPieces.flatten.drop 1) { printing with printerLines := tset printing.printerLines 0 [0x00] } :=
  ⟨discardedPieces, by decide +kernel, discardedPieces_quiet⟩
theorem answersQuiet_empty (l : PrinterId) (s : State) (h : tget s.printerLines l = []) : s.answersQuiet l [] :=
  ⟨[], by rw [h]; rfl, fun _ hx => nomatch hx⟩

theorem test_printer_done_after_noise :
    let u := landed (.printerDone 0 discardedPieces.flatten 21 0 (0x01 ^^^ 21)) printing
    (u.printer 0).state = .ready ∧ tget u.printerLines 0 = [] := by decide +kernel
theorem witness_PrinterDoneEndsJob_discarded :
    printing.power = .running ∧ printing.answersQuiet 0 [] ∧ (0x00 : Byte) ≠ 0x01 ^^^ 0x69 ^^^ 5 :=
  ⟨rfl, answersQuiet_empty _ _ rfl, by decide⟩
theorem witness_PrinterDoneEndsJob_ignored :
    printing.power = .running ∧ printing.answersQuiet 0 [] ∧
      ¬((printing.printer 0).state = .printing ∧ (printing.printer 0).sendNumber = 20) :=
  ⟨rfl, answersQuiet_empty _ _ rfl, by decide +kernel⟩
theorem witness_PrinterDoneEndsJob_done :
    let s := { printing with printerLines := tset printing.printerLines 0 [0x00] }
    s.power = .running ∧ s.answersQuiet 0 (discardedPieces.flatten.drop 1) ∧ (s.printer 0).state = .printing ∧
      (s.printer 0).sendNumber = 21 ∧ (s.printer 0).queue = someJob.sending :: [] :=
  ⟨rfl, witness_answersQuiet, by decide +kernel⟩

theorem witness_PrinterFaultReadyTimeout_discarded :
    printing.power = .running ∧ printing.answersQuiet 0 [] ∧ AnswerDiscarded 0x02 21 4 (0x02 ^^^ 21 ^^^ 4) ∧ AnswerDiscarded 0x03 21 0 0 :=
  ⟨rfl, answersQuiet_empty _ _ rfl, test_answers_discarded.2.2, .inl (by decide)⟩
theorem test_printer_fault_unknown_reason :
    let u := landed (.printerFault 0 [] 0x69 4 (0x02 ^^^ 0x69 ^^^ 4)) printing
    (u.printer 0).state = .printing ∧ tget u.printerLines 0 = [0x69, 4, 0x6F] := by decide +kernel
theorem witness_PrinterFaultReadyTimeout_ready :
    desk.power = .running ∧ desk.answersQuiet 1 [] ∧ desk.answersQuiet 3 [] ∧ (desk.printer 1).state = .ready ∧
      (desk.printer 3).state = .off :=
  ⟨rfl, answersQuiet_empty _ _ rfl, answersQuiet_empty _ _ rfl, by decide +kernel⟩
theorem witness_PrinterFaultReadyTimeout_faulted :
    desk.power = .running ∧ desk.answersQuiet 0 [] ∧ (desk.printer 0).state = .faulted .jam :=
  ⟨rfl, answersQuiet_empty _ _ rfl, by decide +kernel⟩
theorem witness_PrinterFaultReadyTimeout_printing :
    let s := { printing with printerLines := tset printing.printerLines 0 [0x00] }
    s.power = .running ∧ s.answersQuiet 0 (discardedPieces.flatten.drop 1) ∧ (s.printer 0).state = .printing ∧
      (s.printer 0).sendNumber = 21 ∧ (s.printer 0).sendNumber ≠ 22 ∧ (s.printer 0).queue = someJob.sending :: [] ∧
      (s.printer 0).timer.isSome = true :=
  ⟨rfl, witness_answersQuiet, by decide +kernel⟩

theorem witness_RestartRebuildsFromStore_kept :
    let pl : List Byte := [1, 0x78, 0x9D, 0, 0]
    readRestart pl = some (some 40312) ∧ (told 0x12 pl desk).commandWaits ⟨0x12, 7, pl⟩ [] ∧ desk.allocator.officeCode = some 40312 := by
  decide +kernel
theorem witness_RestartRebuildsFromStore_first :
    let pl : List Byte := [1, 0x9F, 0x86, 0x01, 0]
    readRestart pl = some (some 99999) ∧ (told 0x12 pl State.reset).commandWaits ⟨0x12, 7, pl⟩ [] ∧
      State.reset.allocator.officeCode = none := by decide +kernel
theorem witness_RestartRebuildsFromStore_other :
    let pl : List Byte := [1, 0, 0, 0, 0]
    readRestart pl = some (some 0) ∧ (told 0x12 pl desk).commandWaits ⟨0x12, 7, pl⟩ [] ∧ desk.allocator.officeCode = some 40312 := by
  decide +kernel
theorem witness_RestartRebuildsFromStore_rebuild : ({ desk with power := .restarting } : State).power = .restarting := rfl
theorem witness_RestartRebuildsFromStore_noRestart : desk.power ≠ .restarting ∧ ({ desk with power := .off } : State).power ≠ .restarting := by
  decide
theorem witness_RestartRebuildsFromStore_quiet :
    ∀ power ∈ [Power.off, .restarting], ({ desk with power := power } : State).power ≠ .running := by decide
theorem test_printer_answer_while_restarting :
    ((landed (.printerReady 0 [] 0 0 0x03) { desk with power := .restarting }).printer 0).state = .faulted .jam := by decide +kernel
theorem witness_PowerAndSupply :
    desk.power ≠ .off ∧ ({ desk with power := .restarting } : State).power ≠ .off ∧ ({ desk with power := .off } : State).power = .off := by
  decide +kernel

/-! #### The invariants hold of a desk with commands waiting, whose next step is taken -/

/-- The desk with a tick waiting. -/
def busyDesk : State := { desk with pending := [.tick] }

theorem busyDesk_steps : ∃ u, step busyDesk = .next u := ⟨_, rfl⟩

theorem busyDesk_store : StoreMatches busyDesk := by
  refine ⟨rfl, rfl, rfl, rfl, rfl, rfl, rfl, rfl, ?_, ?_, ?_⟩ <;> decide +kernel
theorem busyDesk_contexts : ContextsLegal busyDesk := by
  simp only [ContextsLegal, PositionContext.legal]
  decide +kernel
theorem busyDesk_work : WorkCounted busyDesk := by
  unfold WorkCounted
  decide +kernel

theorem witness_StoreStaysCurrent : StoreMatches busyDesk ∧ ∃ u, step busyDesk = .next u := ⟨busyDesk_store, busyDesk_steps⟩
theorem witness_ContextsStayLegal : ContextsLegal busyDesk ∧ ∃ u, step busyDesk = .next u := ⟨busyDesk_contexts, busyDesk_steps⟩
theorem witness_BudgetsStayBounded :
    ContextsLegal busyDesk ∧ StoreMatches busyDesk ∧ WorkCounted busyDesk ∧ ∃ u, step busyDesk = .next u :=
  ⟨busyDesk_contexts, busyDesk_store, busyDesk_work, busyDesk_steps⟩
theorem witness_AccountsStaySound :
    ContextsLegal busyDesk ∧ StoreMatches busyDesk ∧ AccountsSound busyDesk ∧ ∃ u, step busyDesk = .next u := by
  refine ⟨busyDesk_contexts, busyDesk_store, ?_, busyDesk_steps⟩
  simp only [AccountsSound, Account.sound]
  decide +kernel
theorem witness_JournalAndSerialsStaySound :
    JournalSound busyDesk ∧ AllocatorSound busyDesk ∧ ∃ u, step busyDesk = .next u := by
  have hj : ∀ n e, ([⟨1, 900, 0, .credit 1000000⟩] : List JournalEntry)[n]? = some e → e.seq = 2 - BitVec.ofNat 32 (1 - n) := by
    intro n e h
    cases n with
    | zero => cases h; decide
    | succ n => simp at h
  have hb : (12345 : Nat) ≤ 12345 ∧ 12345 ≤ 12400 := by omega
  have ha : busyDesk.allocator.sound := ⟨by decide +kernel, by decide +kernel, by decide +kernel, by decide +kernel, hb⟩
  exact ⟨⟨⟨by decide +kernel, hj⟩, by decide +kernel, hj⟩, ⟨ha, ha⟩, busyDesk_steps⟩
theorem witness_ReferencesStayCounted :
    ContextsLegal busyDesk ∧ StoreMatches busyDesk ∧ WorkCounted busyDesk ∧ ReferencesCounted busyDesk ∧
      ∃ u, step busyDesk = .next u := by
  refine ⟨busyDesk_contexts, busyDesk_store, busyDesk_work, ⟨?_, ?_, ?_, ?_, ?_, by decide +kernel⟩, busyDesk_steps⟩
  · intro b; cases b <;> decide +kernel
  · intro p k i hi hs
    have h : ∀ p k, (busyDesk.item p k).all (fun i => decide (i.state = .quoted → i = quotedItem)) = true := by decide +kernel
    have hq : i = quotedItem := by simpa [hi, hs] using h p k
    subst hq
    exact ⟨_, rfl, .inl rfl, rfl⟩
  · intro op ev h; cases h
  · intro b; cases b <;> decide +kernel
  · intro b; cases b <;> decide +kernel
theorem witness_ChannelsStaySound : ChannelsSound busyDesk ∧ ∃ u, step busyDesk = .next u := by
  refine ⟨?_, busyDesk_steps⟩
  simp only [ChannelsSound, Channel.sound]
  decide +kernel
theorem witness_AccumulatorStaysBounded :
    let s := { evaluating (.term 1 workedWorking) 65000 none with pending := [.termStep] }
    AccumulatorBounded s ∧ ∃ u, step s = .next u := by
  refine ⟨?_, _, rfl⟩
  intro op ev h
  cases h
  decide
theorem witness_PrintersStaySound : StoreMatches busyDesk ∧ PrintersSound busyDesk ∧ ∃ u, step busyDesk = .next u := by
  refine ⟨busyDesk_store, ?_, busyDesk_steps⟩
  have h : ∀ l, (busyDesk.printer l).queue.length ≤ 16 ∧
      ((busyDesk.printer l).enabled = false ↔ (busyDesk.printer l).state = .off) ∧
      ((busyDesk.printer l).state = .ready → (busyDesk.printer l).queue = []) ∧
      ((busyDesk.printer l).timer.isSome = true ↔ (busyDesk.printer l).state = .printing) ∧
      (∀ j ∈ (busyDesk.printer l).queue.tail, j.condition = .waiting) ∧ (busyDesk.printer l).state ≠ .printing ∧
      ∀ j ∈ (busyDesk.printer l).queue, j.condition ≠ .printing := by decide +kernel
  intro l
  obtain ⟨h1, h2, h3, h4, h5, h6, h7⟩ := h l
  refine ⟨h1, fun _ => ⟨h2, h3, h4, h5, fun x => absurd x h6, ?_⟩⟩
  rintro ⟨j, rest, hj, hc⟩
  exact absurd hc (h7 j (by rw [hj]; exact List.mem_cons_self))

end Sys2Proof.Tests
end

section
/-! SUPPORT. What the shared operations of Ops.lean do, said with the result functions of Safety.lean: each operation of the model answers the state that its rule writes down. -/

namespace Sys2Proof.Machine

/-! ### Tables and items -/

@[simp] theorem tget_map {α β : Type} {n : Nat} (f : α → β) (v : Vector α n) (i : Fin n) : tget (v.map f) i = f (tget v i) := by
  simp [tget]

theorem tbuild_tget {α β : Type} {n : Nat} (f : α → β) (v : Vector α n) : tbuild n (fun k => f (tget v k)) = v.map f :=
  table_ext fun i => by simp

theorem State.item_of_transaction {s : State} {p : PositionId} {t : Transaction} (h : (s.ctx p).transaction = some t) (k : Slot) :
    s.item p k = tget t k := by
  simp only [State.item, h]

theorem State.setItem_of_transaction {s : State} {p : PositionId} {t : Transaction} (h : (s.ctx p).transaction = some t) (k : Slot)
    (o : Option Item) : s.setItem p k o = s.setCtx p { s.ctx p with transaction := some (tset t k o) } := by
  simp only [State.setItem, h]

@[simp] theorem State.setCtx_ctx (p : PositionId) (s : State) : s.setCtx p (s.ctx p) = s := by
  simp only [State.setCtx, State.ctx, tset_tget]

/-! ### References on banks (R116, R117) -/

/-- R116, R117: one reference given back. -/
theorem Bank.release_one (bk : Bank) : bk.release 1 = bk.lessRefs 1 := by
  simp only [Bank.release, Bank.lessRefs, Nat.one_ne_zero, if_false, Nat.sub_eq_zero_iff_le]

theorem State.release_eq (b : BankId) (s : State) : s.release b = { s with tariffs := s.releasedOn b } := by
  cases b <;> simp only [State.release, State.releasedOn, Bank.release_one] <;> rfl

/-- R27: an item's quote gives its reference back exactly while the item is QUOTED. -/
theorem State.releaseQuote_eq (i : Item) (s : State) : s.releaseQuote i = { s with tariffs := s.tariffsWithout i } := by
  obtain ⟨st, facts, weight, previous, quote, number, label⟩ := i
  cases st <;> cases quote
  case quoted.some q => exact State.release_eq _ s
  all_goals rfl

/-- R27, R32: an item gives its quote's reference back and its slot takes another content. -/
theorem State.releaseQuote_setItem {s : State} {p : PositionId} {t : Transaction} (ht : (s.ctx p).transaction = some t) (i : Item)
    (k : Slot) (o : Option Item) :
    (s.releaseQuote i).setItem p k o =
      { s with
        tariffs := s.tariffsWithout i
        positions := tset s.positions p { s.ctx p with transaction := some (tset t k o) } } := by
  rw [State.releaseQuote_eq]
  exact State.setItem_of_transaction (s := { s with tariffs := s.tariffsWithout i }) ht k o

/-- R34, R36, R29. -/
theorem State.requote_eq {s : State} {p : PositionId} {t : Transaction} {k : Slot} {i : Item} (st : ItemState)
    (ht : (s.ctx p).transaction = some t) (hi : tget t k = some i) :
    s.requote p k st =
      { s with
        tariffs := s.tariffsWithout i
        positions :=
          tset s.positions p { s.ctx p with transaction := some (tset t k (some { i with state := st, quote := none })) } } := by
  simp only [State.requote, State.item_of_transaction ht, hi, State.releaseQuote_setItem ht]

/-! ### Labels (R41, R156 to R165) -/

/-- R41. -/
theorem State.reportLabel_eq (p : PositionId) (num : Nat) (st : LabelState) (s : State) :
    s.reportLabel p num st = s.withLabel p num st := by
  unfold State.reportLabel State.withLabel
  split
  · next t h => rw [h, tbuild_tget]; rfl
  · next h =>
    rw [h, Option.map_none, ← h]
    exact (State.setCtx_ctx p s).symm

/-- R156: a READY printer sends its head job, if it has one; another sends nothing. -/
theorem State.sendHead_eq (l : PrinterId) (s : State) :
    s.sendHead l = if (s.printer l).state = .ready then s.withHeadSent l else s := by
  split
  · next h =>
    unfold State.sendHead State.withHeadSent
    rw [h]
    cases hq : (s.printer l).queue with
    | nil => rfl
    | cons j rest =>
      simp only [State.reportLabel_eq, State.withSend, State.emit, State.saveQueue, State.setPrinter_printer_self]
      rfl
  · next h => exact State.sendHead_notReady l s h

theorem State.sendHead_ready {l : PrinterId} {s : State} (h : (s.printer l).state = .ready) : s.sendHead l = s.withHeadSent l := by
  rw [State.sendHead_eq, if_pos h]

/-- R158 to R160, R164. -/
theorem State.returnHead_eq {l : PrinterId} {j : Job} {rest : List Job} {s : State} (st : PrinterState)
    (h : (s.printer l).queue = j :: rest) : s.returnHead l st = s.withHeadReturned l st j rest := by
  simp only [State.returnHead, h, State.reportLabel_eq]
  rfl

/-! ### Completion records (R16, R19) -/

theorem attentionFor_eq (p : PositionId) (queue : List Completion) (r : Completion) :
    attentionFor p queue r = if queue.isEmpty then [.position p (attentionWire p r)] else [] := by
  simp only [attentionFor, List.isEmpty_iff]

/-- R16, R19: a record for an ATTACHED or IN-TRANSACTION position. -/
theorem State.handCompletion_eq {p : PositionId} {s : State} (r : Completion) (h : (s.ctx p).state.clerked = true) :
    s.handCompletion p r = s.withRecord p (s.ctx p) r := by
  unfold State.handCompletion State.withRecord
  rw [if_pos h, attentionFor_eq]
  dsimp only
  split
  · rfl
  · rw [List.append_nil]; rfl

/-- R100: the slots that a RATE-DONE counts as left. -/
theorem State.residual_eq {s : State} {p : PositionId} {t : Transaction} (h : (s.ctx p).transaction = some t) (last : Slot) :
    s.residual p last = fitAfter t last := by
  have hfit : ItemState.fit = fun st => decide (st = .weighed ∨ st = .quoted ∨ st = .stale) := by
    funext st; cases st <;> rfl
  simp only [State.residual, fitAfter, State.item_of_transaction h, hfit]

/-- R100: the RATE-DONE of an operation of an IN-TRANSACTION position. -/
theorem State.handRateDone_eq {op : Operation} {t : Transaction} {s : State} (last : Slot) (status : Reason)
    (hs : (s.ctx op.position).state = .inTransaction) (ht : (s.ctx op.position).transaction = some t) :
    s.handRateDone op last status = s.withRateDone op last t status := by
  unfold State.handRateDone State.withRateDone
  rw [State.handCompletion_eq _ (by simp [hs, PositionState.clerked]), State.residual_eq ht, ← ht]
  simp [State.withRecord]

/-- R87, R102: an operation that ends without a quote at a RATE-QUEUED or RATING item. -/
theorem State.endRating_eq {op : Operation} {t : Transaction} {i : Item} {s : State} (status : Reason)
    (hs : (s.ctx op.position).state = .inTransaction) (ht : (s.ctx op.position).transaction = some t)
    (hi : tget t op.slot = some i) (hr : i.state = .rateQueued ∨ i.state = .rating) :
    s.endRating op status =
      State.withRateDone op op.slot (tset t op.slot (some { i with state := .weighed, quote := none })) status
        (s.setEvaluatorState .idle) := by
  have hret : s.returnItem op.position op.slot =
      s.setCtx op.position
        { s.ctx op.position with
          transaction := some (tset t op.slot (some { i with state := .weighed, quote := none })) } := by
    simp only [State.returnItem, State.item_of_transaction ht, hi, if_pos hr, State.setItem_of_transaction ht]
  unfold State.endRating
  rw [hret, State.handRateDone_eq (t := tset t op.slot (some { i with state := .weighed, quote := none }))]
  · simp [State.withRateDone, State.withRecord, State.ctx, State.setCtx, State.setEvaluatorState]
  · simpa [State.ctx, State.setCtx, State.setEvaluatorState] using hs
  · simp [State.ctx, State.setCtx, State.setEvaluatorState]

/-! ### Weighs (R35, R56, R57) -/

theorem Item.weighEnded_eq (status : Reason) (reading : Nat) (i : Item) : i.weighEnded status reading = i.weighedAs status reading := by
  unfold Item.weighEnded Item.weighedAs
  cases i.weight <;> rfl

/-- R35, R56, R57: the end of a weigh at a WEIGHING item of an IN-TRANSACTION position. -/
theorem State.finishWeigh_eq {p : PositionId} {k : Slot} {t : Transaction} {i : Item} {s : State} (status : Reason) (reading : Nat)
    (hs : (s.ctx p).state = .inTransaction) (ht : (s.ctx p).transaction = some t) (hi : tget t k = some i)
    (hw : i.state = .weighing) : s.finishWeigh p k status reading = s.withWeighEnd p k t i status reading := by
  have happly : s.applyWeighEnd p k status reading =
      s.setCtx p { s.ctx p with transaction := some (tset t k (some (i.weighedAs status reading))) } := by
    simp only [State.applyWeighEnd, State.item_of_transaction ht, hi, if_pos hw, State.setItem_of_transaction ht,
      Item.weighEnded_eq]
  have hitem : (s.applyWeighEnd p k status reading).item p k = some (i.weighedAs status reading) := by
    simp [happly, State.item]
  unfold State.finishWeigh State.withWeighEnd
  dsimp only
  rw [hitem, happly, State.handCompletion_eq _ (by simp [hs, PositionState.clerked])]
  simp [State.withRecord]

/-- R57: the end of a WAITING weigh. -/
theorem State.endWeigh_eq {c : ChannelId} {p : PositionId} {k : Slot} {t : Transaction} {i : Item} {s : State} (status : Reason)
    (reading : Nat) (hc : (s.channel c).weigh = .waiting p k) (hs : (s.ctx p).state = .inTransaction)
    (ht : (s.ctx p).transaction = some t) (hi : tget t k = some i) (hw : i.state = .weighing) :
    s.endWeigh c status reading = State.withWeighEnd p k t i status reading (s.setChannel c (s.channel c).freed) := by
  simp only [State.endWeigh, hc]
  exact State.finishWeigh_eq status reading hs ht hi hw

/-! ### The tariff store (R38, R104, R114, R119, R124) -/

theorem Bank.stored_eq (bk : Bank) : bk.stored = keptOf bk := by
  unfold Bank.stored keptOf
  cases h : bk.state <;> rfl

theorem State.saveTariffs_eq (s : State) : s.saveTariffs = s.withBanksStored := by
  simp only [State.saveTariffs, State.withBanksStored, Bank.stored_eq]

/-- R38: the items that a stale mark reaches. -/
theorem Item.onGeneration_eq (b : BankId) (g : Option Word16) (i : Item) :
    i.onGeneration b g = (decide (i.state = .quoted) && i.quote.any fun q => decide (q.bank = b ∧ some q.generation = g)) := by
  unfold Item.onGeneration
  cases i.state <;> cases i.quote <;> rfl

/-- R38: the stale mark at a context, slot by slot. -/
theorem PositionContext.markStale_eq (b : BankId) (g : Option Word16) (c : PositionContext) :
    c.markStale b g = { c with transaction := c.transaction.map fun t => t.map fun o => o.map (Item.markStale b g) } := by
  obtain ⟨config, state, line, account, key, transaction, completions, weigh, rating⟩ := c
  cases transaction with
  | none => rfl
  | some t => simp only [PositionContext.markStale, tbuild_tget, Option.map_some]

/-- R117, R119: a RETIRING bank from which the references of its quotes are given back at the grace expiry. -/
theorem Bank.release_expired (n : Nat) (bk : Bank) (h : bk.state = .retiring) :
    Bank.release n { bk with graceTimer := .expired } =
      if bk.refs ≤ n then .blank else { bk with graceTimer := .expired, refs := bk.refs - n } := by
  simp only [Bank.release, h, true_and, Nat.sub_eq_zero_iff_le]

/-- R38, R104, R119: the grace expiry of a RETIRING bank. -/
theorem State.expireGrace_eq {b : BankId} {s : State} (h : (s.bank b).state = .retiring) :
    s.expireGrace b = s.withGraceExpired b := by
  unfold State.expireGrace State.withGraceExpired
  simp only [Bank.release_expired _ _ h, State.ctx, tbuild_tget]
  have hs : PositionContext.markStale b (s.bank b).generation = fun c => { c with
      transaction := c.transaction.map fun t => t.map fun o => o.map (Item.markStale b (s.bank b).generation) } :=
    funext fun c => PositionContext.markStale_eq _ _ c
  have hm : Item.markStale b (s.bank b).generation = fun i =>
      if (decide (i.state = .quoted) && i.quote.any fun q => decide (q.bank = b ∧ some q.generation = (s.bank b).generation)) = true
      then { i with state := .stale, quote := i.quote.map fun q => { q with stale := true } } else i := by
    funext i; rw [Item.markStale, Item.onGeneration_eq]
  rw [hs, hm]
  have key : ∀ (n m : Nat) (ps : Vector PositionContext 16) (e e' : Evaluator), n = m → e = e' →
      State.setBank b (if (s.bank b).refs ≤ n then .blank
          else { s.bank b with graceTimer := .expired, refs := (s.bank b).refs - n }) { s with positions := ps, evaluator := e } =
        { s with
          positions := ps
          tariffs :=
            (s.setBank b (if (s.bank b).refs ≤ m then .blank
              else { s.bank b with graceTimer := .expired, refs := (s.bank b).refs - m })).tariffs
          evaluator := e' } := by
    rintro n _ ps e _ rfl rfl
    cases b <;> rfl
  refine key _ _ _ _ _ (congrArg List.sum (List.map_congr_left fun c _ => ?_)) ?_
  · cases hc : c.transaction <;>
      simp only [PositionContext.claims, hc, funext (Item.onGeneration_eq b (s.bank b).generation)]
  · cases he : s.evaluator.state <;> simp only [Evaluator.notice, he]

/-- R114: what an activation makes of the other bank, written through. -/
theorem State.activate_banks (b : BankId) (other : Bank) (s : State) :
    ((s.setBank b { s.bank b with state := .active }).setBank b.other other).saveTariffs =
      State.withBanksStored
        { s with tariffs := ((s.setBank b { s.bank b with state := .active }).setBank b.other other).tariffs } := by
  rw [State.saveTariffs_eq]
  cases b <;> rfl

/-- R114, R118, R124: the activation of a bank. -/
theorem State.activate_eq (b : BankId) (s : State) : s.activate b = s.withActivation b := by
  unfold State.activate State.withActivation
  simp only [State.activate_banks]
  cases hst : (s.bank b.other).state with
  | active =>
    by_cases hr : (s.bank b.other).refs = 0
    · simp [Bank.superseded, hst, hr]
    · by_cases hg : (s.bank b).grace.getD 0 = 0
      · have hret : ∀ x : State, x.bank b.other = { s.bank b.other with state := .retiring, graceTimer := .running 0 } →
            x.expireGrace b.other = x.withGraceExpired b.other := fun x hx => State.expireGrace_eq (by rw [hx])
        simp only [Bank.superseded, hst, hr, hg, if_true, if_false, ne_eq, not_false_eq_true, and_self, Nat.mul_zero]
        exact hret _ (by cases b <;> rfl)
      · simp [Bank.superseded, hst, hr, hg]
  | loaded =>
    cases h1 : (s.bank b.other).effective with
    | none => simp [Bank.superseded, hst, h1]
    | some e' => cases h2 : (s.bank b).effective <;> simp [Bank.superseded, hst, h1, BitVec.le_def]
  | empty => simp [Bank.superseded, hst]
  | loading => simp [Bank.superseded, hst]
  | retiring => simp [Bank.superseded, hst]

end Sys2Proof.Machine
end

section
/-! SUPPORT. A request or a command that its port holds: what the module then answers, from what its `serve` function gives on the state without the frame. -/

namespace Sys2Proof.Machine

/-! ### The state without the frame -/

@[simp] theorem State.afterRequest_ctx (p q : PositionId) (rest : List Frame) (sent : List Sent) (s : State) :
    (s.afterRequest p rest sent).ctx q = s.ctx q := rfl
@[simp] theorem State.afterRequest_bank (p : PositionId) (b : BankId) (rest : List Frame) (sent : List Sent) (s : State) :
    (s.afterRequest p rest sent).bank b = s.bank b := by cases b <;> rfl
@[simp] theorem State.afterRequest_account (p : PositionId) (a : AccountId) (rest : List Frame) (sent : List Sent) (s : State) :
    (s.afterRequest p rest sent).account a = s.account a := rfl
@[simp] theorem State.afterRequest_tariffsWithout (p : PositionId) (i : Item) (rest : List Frame) (sent : List Sent) (s : State) :
    (s.afterRequest p rest sent).tariffsWithout i = s.tariffsWithout i := by
  have hr : ∀ b, (s.afterRequest p rest sent).releasedOn b = s.releasedOn b := fun b => by cases b <;> rfl
  simp only [State.tariffsWithout, hr]
  rfl

@[simp] theorem State.afterCommand_printer (l : PrinterId) (rest : List Frame) (sent : List Sent) (s : State) :
    (s.afterCommand rest sent).printer l = s.printer l := rfl

/-! ### Requests (R6 to R9) -/

/-- R6 to R9: a request that waits and passes the checks: what `serve` makes of the state without the frame, with its answer in front of what it sends. -/
theorem State.running_request_answered {α : Type} {form : RequestForm α} {p : PositionId} {tag : Byte} {payload : List Byte}
    {serve : α → State → State × Answer} {rest : List Frame} {a : α} {s u : State} {ans : Answer}
    (h : s.requestWaits p ⟨form.code, tag, payload⟩ rest) (hr : form.read payload = some a)
    (hs : form.served (s.ctx p).state = true) (hk : ∀ k, form.slot a = some k → (s.item p k).isSome = true)
    (hserve : serve a (s.afterRequest p rest []) = (u, ans)) :
    s.running (State.request form p tag payload serve) =
      .next { u with
        sent := responseTo p ⟨form.code, tag, payload⟩ (ans.payload form.code (form.slotByte payload)) :: u.sent } := by
  rw [State.running_request_served form p tag payload serve rest a s h hr hs hk, hserve]
  rfl

/-- R6 to R9: the same for a request of one byte that names the slot of an item. -/
theorem State.running_slotRequest_answered {code : Byte} {p : PositionId} {tag : Byte} {k : Slot}
    {serve : Slot → State → State × Answer} {rest : List Frame} {t : Transaction} {i : Item} {s u : State} {ans : Answer}
    (h : s.itemRequestWaits p ⟨code, tag, [BitVec.ofNat 8 k.val]⟩ rest k t i)
    (hserve : serve k (s.afterRequest p rest []) = (u, ans)) :
    s.running (State.request ⟨code, readSlot, servedInTransaction, some, firstSlotByte code 1⟩ p tag [BitVec.ofNat 8 k.val] serve) =
      .next { u with
        sent := responseTo p ⟨code, tag, [BitVec.ofNat 8 k.val]⟩ (ans.payload code (BitVec.ofNat 8 k.val)) :: u.sent } := by
  obtain ⟨hw, hst, ht, hi⟩ := h
  rw [State.running_request_answered (rest := rest) hw (readSlot_ofNat k) (by rw [hst]; rfl) (fun m hm => by
    cases hm; rw [State.item_of_transaction ht, hi]; rfl) hserve]
  simp only [firstSlotByte_ofNat]

/-! ### Office commands (R168, R169) -/

/-- R168, R169: a well-formed command that waits: what `serve` makes of the state without the frame, with its answer in front of what it sends. -/
theorem State.running_command_answered {α : Type} {code : Byte} {read : List Byte → Option α} {tag : Byte} {payload : List Byte}
    {serve : α → State → State × OfficeAnswer} {rest : List Frame} {a : α} {s u : State} {ans : OfficeAnswer}
    (h : s.commandWaits ⟨code, tag, payload⟩ rest) (hr : read payload = some a)
    (hserve : serve a (s.afterCommand rest []) = (u, ans)) :
    s.running (State.command code read tag payload serve) =
      .next { u with sent := answerTo ⟨code, tag, payload⟩ ans.payload :: u.sent } := by
  rw [State.running_command_served code read tag payload serve rest a s h hr, hserve]
  rfl

end Sys2Proof.Machine
end

section
/-! ANSWERS. Transactions and items: BEGIN, ADD, AMEND, DROP and FINISH (O14 to O18). -/

namespace Sys2Proof.Machine

/-! ### BEGIN and ADD -/

/-- Settles O14, by the state of the position. -/
theorem beginOpensTransaction : Obligations.BeginOpensTransaction := by
  intro p tag rest s hw hon
  have hserved : beginForm.served (s.ctx p).state = true := by
    cases h : (s.ctx p).state with
    | offline => exact absurd h hon
    | linked => rfl
    | attached => rfl
    | inTransaction => rfl
  have hserve : serveBegin p () (s.afterRequest p rest []) =
      if (s.ctx p).state = .attached then
        ((s.afterRequest p rest []).setCtx p { s.ctx p with state := .inTransaction, transaction := some emptyTransaction }, .taken [])
      else (s.afterRequest p rest [], .refuse .state) := rfl
  split
  · next hst =>
    rw [if_pos hst] at hserve
    exact State.running_request_answered hw rfl hserved nofun hserve
  · next hst =>
    rw [if_neg hst] at hserve
    exact State.running_request_answered hw rfl hserved nofun hserve

/-- R25: the lowest-numbered EMPTY slot. -/
theorem State.emptySlot_eq_some {s : State} {p : PositionId} {t : Transaction} {k : Slot} (ht : (s.ctx p).transaction = some t)
    (hk : tget t k = none) (hlow : ∀ j, j < k → (tget t j).isSome = true) : s.emptySlot p = some k := by
  simp only [State.emptySlot, State.item_of_transaction ht, ← Fin.find?_eq_find?_finRange, Fin.find?_eq_some_iff]
  exact ⟨by rw [hk]; rfl, fun j hj => by simpa [Option.isSome_iff_ne_none] using hlow j hj⟩

/-- R25: no slot is EMPTY. -/
theorem State.emptySlot_eq_none {s : State} {p : PositionId} {t : Transaction} (ht : (s.ctx p).transaction = some t)
    (hfull : ∀ k, (tget t k).isSome = true) : s.emptySlot p = none := by
  simp only [State.emptySlot, State.item_of_transaction ht, ← Fin.find?_eq_find?_finRange, Fin.find?_eq_none_iff]
  exact fun k => by simpa [Option.isSome_iff_ne_none] using hfull k

/-- Settles O15: the slot that ADD finds is the lowest EMPTY one. -/
theorem addFillsLowestEmptySlot : Obligations.AddFillsLowestEmptySlot := by
  intro p tag rest t s hw hst ht
  have hserved : addForm.served (s.ctx p).state = true := by rw [hst]; rfl
  have ht' : ((s.afterRequest p rest []).ctx p).transaction = some t := ht
  refine ⟨fun k hk hlow => ?_, fun hfull => ?_⟩
  · have hserve : serveAdd p () (s.afterRequest p rest []) =
        ((s.afterRequest p rest []).setCtx p { s.ctx p with transaction := some (tset t k (some .fresh)) },
          .taken [BitVec.ofNat 8 k.val]) := by
      simp only [serveAdd, State.emptySlot_eq_some ht' hk hlow, State.setItem_of_transaction ht']
      rfl
    exact State.running_request_answered hw rfl hserved nofun hserve
  · have hserve : serveAdd p () (s.afterRequest p rest []) = (s.afterRequest p rest [], .refuse .transactionFull) := by
      simp only [serveAdd, State.emptySlot_eq_none ht' hfull]
    exact State.running_request_answered hw rfl hserved nofun hserve

/-! ### DROP -/

theorem ItemState.free_iff (st : ItemState) : st.free = true ↔ st = .draft ∨ st = .weighed ∨ st = .quoted ∨ st = .stale := by
  cases st <;> simp [ItemState.free]

/-- Settles O17, by whether the item is one that may be discarded. -/
theorem dropByItemState : Obligations.DropByItemState := by
  intro p tag k rest t i s hw
  obtain ⟨-, -, ht, hi⟩ := id hw
  have ht' : ((s.afterRequest p rest []).ctx p).transaction = some t := ht
  have hitem : (s.afterRequest p rest []).item p k = some i := (State.item_of_transaction ht' k).trans hi
  split
  · next hf =>
    have hserve : serveDrop p k (s.afterRequest p rest []) =
        ({ s.afterRequest p rest [] with
            tariffs := s.tariffsWithout i
            positions := tset s.positions p { s.ctx p with transaction := some (tset t k none) } },
          .taken [BitVec.ofNat 8 k.val]) := by
      simp only [serveDrop, hitem, if_pos ((ItemState.free_iff _).mpr hf)]
      rw [State.releaseQuote_setItem ht', State.afterRequest_tariffsWithout]
      rfl
    exact State.running_slotRequest_answered hw hserve
  · next hf =>
    have hserve : serveDrop p k (s.afterRequest p rest []) = (s.afterRequest p rest [], .refuse .state) := by
      simp only [serveDrop, hitem, if_neg (mt (ItemState.free_iff _).mp hf)]
    exact State.running_slotRequest_answered hw hserve

end Sys2Proof.Machine
end

section
/-! SUPPORT. The references of a bank (R116, R117) after quotes have given theirs back, one by one or a whole transaction's. -/

namespace Sys2Proof.Machine

theorem Bank.blank_lessRefs (n : Nat) : Bank.blank.lessRefs n = .blank := by
  simp [Bank.lessRefs, Bank.blank]

/-- R116, R117: references given back in two parts. -/
theorem Bank.lessRefs_lessRefs (m n : Nat) (bk : Bank) : (bk.lessRefs m).lessRefs n = bk.lessRefs (m + n) := by
  by_cases hm : m = 0
  · simp [Bank.lessRefs, hm]
  by_cases hn : n = 0
  · simp [Bank.lessRefs, hn]
  by_cases h : bk.state = .retiring ∧ bk.refs ≤ m
  · have hmn : bk.lessRefs (m + n) = .blank := by
      rw [Bank.lessRefs, if_neg (by omega), if_pos ⟨h.1, by omega⟩]
    rw [hmn, Bank.lessRefs.eq_def m, if_neg hm, if_pos h, Bank.blank_lessRefs]
  · have hle : bk.state = .retiring ∧ bk.refs - m ≤ n ↔ bk.state = .retiring ∧ bk.refs ≤ m + n := by
      simp only [Nat.sub_le_iff_le_add, Nat.add_comm]
    simp only [Bank.lessRefs, hm, hn, if_false, h, hle, Nat.sub_sub, Nat.add_eq_zero_iff, false_and]

theorem BankId.eq_or_eq_other (b c : BankId) : c = b ∨ c = b.other := by
  cases b <;> cases c <;> simp [BankId.other]

@[simp] theorem BankId.other_ne (b : BankId) : b.other ≠ b := by cases b <;> simp [BankId.other]

@[simp] theorem BankId.other_other (b : BankId) : b.other.other = b := by cases b <;> rfl

theorem State.setBank_bank (b c : BankId) (bk : Bank) (s : State) :
    (s.setBank b bk).bank c = if c = b then bk else s.bank c := by
  cases b <;> cases c <;> rfl

theorem State.release_bank (b c : BankId) (s : State) :
    (s.release b).bank c = if c = b then (s.bank c).lessRefs 1 else s.bank c := by
  rw [State.release, State.setBank_bank, Bank.release_one]
  split
  · next h => rw [h]
  · rfl

/-- R27: a quote holds a reference on a bank exactly when its item is QUOTED and it names the bank. -/
theorem Item.claim_eq_some_iff (i : Item) (b : BankId) :
    i.claim = some b ↔ i.state = .quoted ∧ ∃ q, i.quote = some q ∧ q.bank = b := by
  unfold Item.claim
  split
  · next q hs hq => simp [hs, hq]
  · next h => simpa using fun hs q hq _ => h q hs hq

theorem State.releaseQuote_bank (i : Item) (c : BankId) (s : State) :
    (s.releaseQuote i).bank c = (s.bank c).lessRefs (if i.claim = some c then 1 else 0) := by
  unfold State.releaseQuote
  split
  · next b h =>
    rw [State.release_bank, h]
    by_cases hc : c = b
    · simp [hc]
    · simp [hc, Ne.symm hc, Bank.lessRefs]
  · next h => simp [h, Bank.lessRefs]

/-- R32: the claims of a transaction on a bank. -/
theorem quotesOf_eq (t : Transaction) (b : BankId) :
    quotesOf t b = t.toList.countP fun o => o.any fun i => decide (i.claim = some b) := by
  have h : ∀ i : Item, (decide (i.state = .quoted) && i.quote.any fun q => decide (q.bank = b)) = decide (i.claim = some b) := by
    intro i
    rw [Bool.eq_iff_iff, decide_eq_true_iff, Item.claim_eq_some_iff]
    simp [Option.any_eq_true]
  simp only [quotesOf, h]

/-- R32: a whole transaction's quotes give their references back. -/
theorem State.releaseAll_bank (t : Transaction) (b : BankId) (s : State) :
    (s.releaseAll t).bank b = (s.bank b).lessRefs (quotesOf t b) := by
  rw [quotesOf_eq]
  unfold State.releaseAll
  induction t.toList generalizing s with
  | nil => simp [Bank.lessRefs]
  | cons o os ih =>
    rw [List.foldl_cons, ih, List.countP_cons, Nat.add_comm, ← Bank.lessRefs_lessRefs]
    cases o with
    | none => simp [Bank.lessRefs]
    | some i => simp [State.releaseQuote_bank]

/-- R105, R107: giving references back leaves the generation counter and the last-loaded bank alone. -/
theorem State.releaseQuote_counters (i : Item) (s : State) :
    (s.releaseQuote i).tariffs.counter = s.tariffs.counter ∧ (s.releaseQuote i).tariffs.lastLoaded = s.tariffs.lastLoaded := by
  unfold State.releaseQuote
  split
  · exact ⟨State.setBank_counter _ _ _, State.setBank_lastLoaded _ _ _⟩
  · exact ⟨rfl, rfl⟩

theorem State.releaseAll_counters (t : Transaction) (s : State) :
    (s.releaseAll t).tariffs.counter = s.tariffs.counter ∧ (s.releaseAll t).tariffs.lastLoaded = s.tariffs.lastLoaded := by
  unfold State.releaseAll
  induction t.toList generalizing s with
  | nil => exact ⟨rfl, rfl⟩
  | cons o os ih =>
    rw [List.foldl_cons]
    cases o with
    | none => exact ih s
    | some i =>
      obtain ⟨hc, hl⟩ := ih (s.releaseQuote i)
      obtain ⟨hc', hl'⟩ := State.releaseQuote_counters i s
      exact ⟨hc.trans hc', hl.trans hl'⟩

end Sys2Proof.Machine
end

section
/-! ANSWERS. FINISH (O18). -/

namespace Sys2Proof.Machine

theorem readFinish_bytes {n total : Nat} (hn : n ≤ 8) (ht : total ≤ 79999992) :
    readFinish (BitVec.ofNat 8 n :: leBytes 4 total) = some (n, total) := by
  have hv : leNat (leBytes 4 total) = total := by rw [leNat_leBytes]; omega
  have hb : (BitVec.ofNat 8 n).toNat = n := by rw [BitVec.toNat_ofNat]; omega
  simp only [leBytes] at hv ⊢
  simp only [readFinish, hv, hb, hn, ht, and_self, if_true]

/-- R42: the count of the items in a state. -/
theorem Transaction.inState_length (st : ItemState) (t : Transaction) : (Transaction.inState st t).length = itemsIn st t := by
  simp only [Transaction.inState, itemsIn, List.length_filterMap_eq_countP, Option.isSome_filter]

/-- R42: the sum of the postage of the ACCEPTED items. -/
theorem Transaction.acceptedTotal_eq (t : Transaction) : Transaction.acceptedTotal t = acceptedPostage t := by
  unfold Transaction.acceptedTotal Transaction.inState acceptedPostage
  induction t.toList with
  | nil => rfl
  | cons o os ih =>
    rw [List.map_cons, List.sum_cons, ← ih]
    cases o with
    | none => simp
    | some i =>
      by_cases h : i.state = .accepted
      · cases hq : i.quote <;> simp [Option.filter, h, hq]
      · simp [h]

/-- Settles O18, by the checks of FINISH in their order. -/
theorem finishClosesTransaction : Obligations.FinishClosesTransaction := by
  intro p tag n total payload rest t s hn htot hp hw hst ht f count sum
  have hread : finishForm.read payload = some (n, total) := by rw [hp]; exact readFinish_bytes hn htot
  have hserved : finishForm.served (s.ctx p).state = true := by rw [hst]; rfl
  have hserve : serveFinish p (n, total) (s.afterRequest p rest []) =
      if (s.ctx p).weigh.isSome ∨ (s.ctx p).rating = true then (s.afterRequest p rest [], .busy)
      else if n = count ∧ total = sum then
        (((s.afterRequest p rest []).releaseAll t).setCtx p { s.ctx p with state := .attached, transaction := none },
          .taken (BitVec.ofNat 8 count :: leBytes 4 sum ++ [BitVec.ofNat 8 (itemsIn .voided t)]))
      else (s.afterRequest p rest [], .reported .mismatch sum count) := by
    simp only [serveFinish, State.afterRequest_ctx, ht, Transaction.inState_length, Transaction.acceptedTotal_eq]
    rfl
  refine ⟨fun hbusy => ?_, fun hwn hrn hne => ?_, fun hwn hrn hc hs => ?_⟩
  · rw [if_pos hbusy] at hserve
    exact State.running_request_answered hw hread hserved nofun hserve
  · rw [if_neg (by simp [hwn, hrn]), if_neg hne] at hserve
    exact State.running_request_answered hw hread hserved nofun hserve
  · rw [if_neg (by simp [hwn, hrn]), if_pos ⟨hc, hs⟩] at hserve
    obtain ⟨ts, hts⟩ := State.releaseAll_shape t (s.afterRequest p rest [])
    have hbank : ∀ b, ((s.afterRequest p rest []).releaseAll t).bank b = (s.bank b).lessRefs (quotesOf t b) := fun b => by
      rw [State.releaseAll_bank, State.afterRequest_bank]
    obtain ⟨hcounter, hlast⟩ := State.releaseAll_counters t (s.afterRequest p rest [])
    rw [hts] at hserve hcounter hlast hbank
    refine ⟨_, State.running_request_answered hw hread hserved nofun hserve, ⟨fun b => ?_, hcounter, hlast⟩, rfl⟩
    exact Eq.trans (by cases b <;> rfl) (hbank b)

end Sys2Proof.Machine
end

section
/-! ANSWERS. AMEND (O16): what its payload spells, and what the five actions make of the facts. -/

namespace Sys2Proof.Machine

/-- R28: what an action byte makes of a fact: 00H leaves what is held, 01H sets the value of the field, 02H clears. -/
def amendedFact {α : Type} (action : Nat) (held value cleared : α) : α :=
  if action = 0 then held else if action = 1 then value else cleared

/-- R28, section 11.2: the facts that the payload of an AMEND makes of `f`, byte by byte. -/
def amendedFacts (payload : List Byte) (f : Facts) : Facts :=
  let twoDigits (n : Nat) : Nat := 10 * (byteAt payload n / 16) + byteAt payload n % 16
  let extra (n : Nat) : Bool := decide (byteAt payload 14 / 2 ^ n % 2 = 1)
  { service := amendedFact (byteAt payload 1) f.service (Fin.ofNat 8 (byteAt payload 6)) 0
    destination :=
      amendedFact (byteAt payload 2) f.destination (some (10000 * twoDigits 7 + 100 * twoDigits 8 + twoDigits 9)) none
    declared := amendedFact (byteAt payload 3) f.declared (some (numAt payload 10 4)) none
    extras :=
      amendedFact (byteAt payload 4) f.extras ⟨extra 0, extra 1, extra 2, extra 3⟩ ⟨false, false, false, false⟩
    dimensions :=
      amendedFact (byteAt payload 5) f.dimensions
        (some { length := numAt payload 15 2, width := numAt payload 17 2, height := numAt payload 19 2 }) none }

/-- Section 11.2: an action byte with a value that is in range where it is looked at. -/
theorem readAction_fits {α : Type} {action : Byte} {value : Option α} {x : α} (ha : action.toNat ≤ 2)
    (hv : action.toNat = 1 → value = some x) :
    ∃ act, readAction action value = some act ∧ (act = .leave ↔ action.toNat = 0) ∧
      (∀ held cleared, act.onValue cleared held = amendedFact action.toNat held x cleared) ∧
      ∀ held, act.onOption held = amendedFact action.toNat held (some x) none := by
  obtain h | h | h : action = 0 ∨ action = 1 ∨ action = 2 := by bv_omega
  · subst h; exact ⟨.leave, rfl, by simp, fun _ _ => rfl, fun _ => rfl⟩
  · subst h; rw [hv rfl]; exact ⟨.set x, rfl, by simp, fun _ _ => rfl, fun _ => rfl⟩
  · subst h; exact ⟨.clear, rfl, by simp, fun _ _ => rfl, fun _ => rfl⟩

theorem readFin_fits {b : Byte} (h : b.toNat < 8) : readFin 8 b = some (Fin.ofNat 8 b.toNat) := by
  rw [readFin, dif_pos h]
  exact congrArg some (Fin.ext (Nat.mod_eq_of_lt h).symm)

theorem bcdNat_fits {d0 d1 d2 : Byte} (h0 : d0.toNat / 16 ≤ 9 ∧ d0.toNat % 16 ≤ 9) (h1 : d1.toNat / 16 ≤ 9 ∧ d1.toNat % 16 ≤ 9)
    (h2 : d2.toNat / 16 ≤ 9 ∧ d2.toNat % 16 ≤ 9) :
    bcdNat [d0, d1, d2] =
      some (10000 * (10 * (d0.toNat / 16) + d0.toNat % 16) + 100 * (10 * (d1.toNat / 16) + d1.toNat % 16) +
        (10 * (d2.toNat / 16) + d2.toNat % 16)) := by
  simp only [← Nat.lt_succ_iff] at h0 h1 h2
  simp only [bcdNat, List.foldl, h0, h1, h2, and_self, if_true, Option.some.injEq]
  omega

theorem readExtras_fits {b : Byte} (h : b.toNat < 16) :
    readExtras b =
      some ⟨decide (b.toNat / 2 ^ 0 % 2 = 1), decide (b.toNat / 2 ^ 1 % 2 = 1), decide (b.toNat / 2 ^ 2 % 2 = 1),
        decide (b.toNat / 2 ^ 3 % 2 = 1)⟩ := by
  simp only [readExtras, if_pos h, BitVec.getLsbD, Nat.testBit_eq_decide_div_mod_eq]

/-- R28, section 11.2: a payload that fits AMEND is read, and its actions make of the facts what its bytes say. -/
theorem readAmend_fits {x : List Byte} (h : amendFits x = true) :
    ∃ m, readAmend x = some m ∧ m.slot.val = byteAt x 0 ∧ (m.idle = true ↔ ∀ n : Fin 5, byteAt x (1 + n.val) = 0) ∧
      ∀ f, m.apply f = amendedFacts x f := by
  simp only [amendFits, decide_eq_true_eq] at h
  obtain ⟨hlen, hslot, hact, hservice, hdest, hdecl, hextras, hdim⟩ := h
  match x, hlen with
  | [k, aS, aD, aV, aE, aM, service, d0, d1, d2, v0, v1, v2, v3, extras, l0, l1, w0, w1, h0, h1], _ =>
    obtain ⟨actS, hS, leaveS, valS, -⟩ := readAction_fits (action := aS) (value := readFin 8 service) (hact 0) fun hs => readFin_fits (hservice hs)
    obtain ⟨actD, hD, leaveD, -, optD⟩ := readAction_fits (action := aD) (value := bcdNat [d0, d1, d2]) (hact 1) fun hs =>
      bcdNat_fits (hdest hs 0) (hdest hs 1) (hdest hs 2)
    obtain ⟨actV, hV, leaveV, -, optV⟩ := readAction_fits (action := aV)
      (value := readDeclared (leNat [v0, v1, v2, v3])) (hact 2) fun hs => if_pos (hdecl hs)
    obtain ⟨actE, hE, leaveE, valE, -⟩ := readAction_fits (action := aE) (value := readExtras extras) (hact 3) fun hs => readExtras_fits (hextras hs)
    obtain ⟨actM, hM, leaveM, -, optM⟩ := readAction_fits (action := aM)
      (value := readDimensions (leNat [l0, l1]) (leNat [w0, w1]) (leNat [h0, h1])) (hact 4) fun hs =>
        if_pos ⟨(hdim hs 0).1, (hdim hs 0).2, (hdim hs 1).1, (hdim hs 1).2, (hdim hs 2).1, (hdim hs 2).2⟩
    refine ⟨⟨⟨k.toNat, hslot⟩, actS, actD, actV, actE, actM⟩, ?_, rfl, ?_, fun f => ?_⟩
    · have hk : readFin 8 k = some ⟨k.toNat, hslot⟩ := dif_pos hslot
      simp only [readAmend, hk, hS, hD, hV, hE, hM]
    · rw [Amendment.idle, decide_eq_true_iff, leaveS, leaveD, leaveV, leaveE, leaveM]
      exact ⟨fun ⟨e0, e1, e2, e3, e4⟩ n => by fin_cases n <;> assumption, fun e => ⟨e 0, e 1, e 2, e 3, e 4⟩⟩
    · simp only [Amendment.apply, valS, valE, optD, optV, optM]
      rfl

/-- R9: the slot byte of a request whose payload begins with its slot. -/
theorem firstSlotByte_fits {code : Byte} {n : Nat} {payload : List Byte} {k : Slot} (hlen : payload.length = n + 1)
    (hk : byteAt payload 0 = k.val) : firstSlotByte code (n + 1) payload = BitVec.ofNat 8 k.val := by
  cases payload with
  | nil => simp at hlen
  | cons b bytes =>
    have hb : b.toNat = k.val := hk
    simp only [firstSlotByte, hlen, hb, k.isLt, and_self, if_true]
    exact BitVec.eq_of_toNat_eq (by rw [hb, BitVec.toNat_ofNat, Nat.mod_eq_of_lt (by omega)])

/-- Settles O16, by the checks of AMEND in their order. -/
theorem amendByItemState : Obligations.AmendByItemState := by
  intro p tag payload k rest t i s hfits hslot hw f idle made twoDigits extra facts
  obtain ⟨m, hm, hk, hidle, hfacts⟩ := readAmend_fits hfits
  obtain ⟨hwaits, hst, ht, hi⟩ := hw
  have ht' : ((s.afterRequest p rest []).ctx p).transaction = some t := ht
  have hmk : m.slot = k := Fin.ext (hk.trans hslot)
  have hitem : (s.afterRequest p rest []).item p k = some i := (State.item_of_transaction ht' k).trans hi
  have hbyte : amendForm.slotByte payload = BitVec.ofNat 8 k.val :=
    firstSlotByte_fits (of_decide_eq_true (p := _ ∧ _) hfits).1 hslot
  have hserve : serveAmend p m (s.afterRequest p rest []) =
      if i.state.free = false then (s.afterRequest p rest [], .refuse .state)
      else if m.idle then (s.afterRequest p rest [], .taken [i.state.code])
      else if i.state = .quoted ∨ i.state = .stale then
        ({ s.afterRequest p rest [] with
            tariffs := s.tariffsWithout i
            positions :=
              tset s.positions p
                { s.ctx p with
                  transaction := some (tset t k (some { i with facts := facts, state := .weighed, quote := none })) } },
          .taken [ItemState.weighed.code])
      else
        ({ s.afterRequest p rest [] with
            positions := tset s.positions p { s.ctx p with transaction := some (tset t k (some { i with facts := facts })) } },
          .taken [i.state.code]) := by
    simp only [serveAmend, hitem, hmk, hfacts, State.releaseQuote_setItem ht', State.setItem_of_transaction ht',
      State.afterRequest_tariffsWithout]
    rfl
  have answered {u : State} {result : Answer} (h : serveAmend p m (s.afterRequest p rest []) = (u, result)) :
      exec (.amend p tag payload) s =
        .next { u with sent := responseTo p f (result.payload 0x05 (BitVec.ofNat 8 k.val)) :: u.sent } := by
    rw [← hbyte]
    exact State.running_request_answered hwaits hm (by rw [hst]; rfl) (fun j hj => by cases hj; rw [hmk]; exact hitem ▸ rfl) h
  have hfree := ItemState.free_iff i.state
  refine ⟨fun hs => ?_, fun hs hleave => ?_, fun hs hset => ?_, fun hs hset => ?_⟩
  · rw [if_pos (by rcases hs with h | h | h | h | h <;> rw [h] <;> rfl)] at hserve
    exact answered hserve
  · rw [if_neg (by simpa using hfree.mpr hs), if_pos (hidle.mpr hleave)] at hserve
    exact answered hserve
  · rw [if_neg (by simpa using hfree.mpr (by tauto)), if_neg (mt hidle.mp hset),
      if_neg (by rcases hs with h | h <;> simp [h])] at hserve
    exact answered hserve
  · rw [if_neg (by simpa using hfree.mpr (by tauto)), if_neg (mt hidle.mp hset), if_pos hs] at hserve
    exact answered hserve

end Sys2Proof.Machine
end

section
/-! SUPPORT. The bank references of the module (R27, R106, R116), read off a sheet: for every item its state and its quote. `Balanced` is the invariant of the tariff store over a sheet, with references that are still to be given back; each change of a sheet, of the banks or of the evaluator is one lemma about it. -/

namespace Sys2Proof.Machine

/-- What R116 reads of the items: the state and the quote in each slot of each position. -/
abbrev Sheet := PositionId → Slot → Option (ItemState × Option Quote)

/-- What R116 reads of one slot. -/
def sheetEntry (o : Option Item) : Option (ItemState × Option Quote) := o.map fun i => (i.state, i.quote)

/-- What R116 reads of the module's items. -/
def State.sheet (s : State) : Sheet := fun p k => sheetEntry (s.item p k)

/-- R27: the bank on which an entry of a sheet holds a reference. -/
def entryClaim : Option (ItemState × Option Quote) → Option BankId
  | some (.quoted, some q) => some q.bank
  | _ => none

/-- R116: the references of one position's quotes on a bank. -/
def slotClaims (f : Slot → Option (ItemState × Option Quote)) (b : BankId) : Nat :=
  ∑ k, if entryClaim (f k) = some b then 1 else 0

/-- R116: the references of all quotes on a bank. -/
def Sheet.claims (f : Sheet) (b : BankId) : Nat := ∑ p, slotClaims (f p) b

/-- R116: the references of an evaluator state on a bank. -/
def EvaluatorState.claims (e : EvaluatorState) (b : BankId) : Nat :=
  match e with
  | .evaluating _ ev => if ev.bank = b then 1 else 0
  | .idle | .chaining _ => 0

/-! ### Sums over tables -/

theorem toList_eq_ofFn {α : Type} {n : Nat} (v : Vector α n) : v.toList = List.ofFn (tget v) := by
  apply List.ext_getElem
  · simp
  · intro i h1 h2
    simp [tget]

theorem sum_toList_map {α : Type} {n : Nat} (v : Vector α n) (g : α → Nat) : (v.toList.map g).sum = ∑ i, g (tget v i) := by
  rw [toList_eq_ofFn, List.map_ofFn, List.sum_ofFn]
  rfl

theorem countP_toList {α : Type} {n : Nat} (v : Vector α n) (g : α → Bool) :
    v.toList.countP g = ∑ i, if g (tget v i) = true then 1 else 0 := by
  have h : ∀ l : List α, l.countP g = (l.map fun x => if g x = true then 1 else 0).sum := by
    intro l
    induction l with
    | nil => rfl
    | cons x xs ih => rw [List.countP_cons, List.map_cons, List.sum_cons, ih, Nat.add_comm]
  rw [h, sum_toList_map]

/-! ### A sheet and the module's items -/

theorem entryClaim_sheetEntry (o : Option Item) : entryClaim (sheetEntry o) = o.bind Item.claim := by
  cases o with
  | none => rfl
  | some i =>
    obtain ⟨st, facts, weight, previous, quote, number, label⟩ := i
    cases st <;> cases quote <;> rfl

/-- R116: the claims of an open transaction on a bank. -/
theorem slotClaims_transaction (t : Transaction) (b : BankId) : slotClaims (fun k => sheetEntry (tget t k)) b = quotesOf t b := by
  rw [quotesOf_eq, countP_toList]
  refine Finset.sum_congr rfl fun k _ => if_congr ?_ rfl rfl
  rw [entryClaim_sheetEntry]
  cases tget t k <;> simp

theorem State.sheet_of_transaction {s : State} {p : PositionId} {t : Transaction} (h : (s.ctx p).transaction = some t) :
    s.sheet p = fun k => sheetEntry (tget t k) :=
  funext fun k => congrArg sheetEntry (State.item_of_transaction h k)

theorem State.sheet_closed {s : State} {p : PositionId} (h : (s.ctx p).transaction = none) : s.sheet p = fun _ => none := by
  funext k
  simp only [State.sheet, State.item, h]
  rfl

theorem slotClaims_none (b : BankId) : slotClaims (fun _ => none) b = 0 := by
  simp [slotClaims, entryClaim]

/-- R116: the count of quotes on a bank is the sheet's. -/
theorem State.quotesOn_eq (s : State) (b : BankId) : s.quotesOn b = s.sheet.claims b := by
  rw [State.quotesOn, sum_toList_map]
  refine Finset.sum_congr rfl fun p _ => ?_
  cases ht : (s.ctx p).transaction with
  | none =>
    rw [State.sheet_closed ht, slotClaims_none]
    simp only [State.ctx] at ht
    rw [ht]
  | some t =>
    rw [State.sheet_of_transaction ht, slotClaims_transaction, quotesOf_eq]
    simp only [State.ctx] at ht
    rw [ht]

theorem State.evaluationsOn_eq (s : State) (b : BankId) : s.evaluationsOn b = s.evaluator.state.claims b := by
  unfold State.evaluationsOn EvaluatorState.claims
  cases s.evaluator.state <;> rfl

/-! ### The balance of references -/

/-- R106: a bank that quotes and evaluations may refer to, with its generation. -/
def Bank.holds (bk : Bank) (g : Word16) : Prop := (bk.state = .active ∨ bk.state = .retiring) ∧ bk.generation = some g

/-- R27, R33, R106, R116: the references of the banks over a sheet and an evaluator state, `owed` of them being still to be given back. -/
structure Balanced (owed : BankId → Nat) (f : Sheet) (bank : BankId → Bank) (e : EvaluatorState) : Prop where
  counted : ∀ b, (bank b).refs = f.claims b + e.claims b + owed b
  quoted : ∀ p k quote, f p k = some (.quoted, quote) → ∃ q, quote = some q ∧ (bank q.bank).holds q.generation
  evaluated : ∀ op ev, e = .evaluating op ev →
    (bank ev.bank).holds ev.generation ∧ (ev.halt ≠ some .abandoned → ∃ quote, f op.position op.slot = some (.rating, quote))
  generation : ∀ b, (bank b).state = .loaded ∨ (bank b).state = .active ∨ (bank b).state = .retiring →
    (bank b).generation.isSome = true
  retiring : ∀ b, (bank b).state = .retiring → (bank b.other).state = .active
  single : ¬((bank .A).state = .active ∧ (bank .B).state = .active)

/-- The invariant of the statement is the balance of the module's own sheet, with nothing owed. -/
theorem referencesCounted_iff (s : State) :
    ReferencesCounted s ↔ Balanced (fun _ => 0) s.sheet s.bank s.evaluator.state := by
  have hentry : ∀ (p : PositionId) (k : Slot) (st : ItemState) (quote : Option Quote),
      s.sheet p k = some (st, quote) ↔ ∃ i, s.item p k = some i ∧ i.state = st ∧ i.quote = quote := by
    intro p k st quote
    simp [State.sheet, sheetEntry]
  constructor
  · rintro ⟨hcount, hquoted, heval, hgen, hret, hone⟩
    refine ⟨fun b => ?_, fun p k quote h => ?_, fun op ev h => ?_, hgen, hret, hone⟩
    · rw [hcount b, State.quotesOn_eq, State.evaluationsOn_eq, Nat.add_zero]
    · obtain ⟨i, hi, hst, rfl⟩ := (hentry p k _ _).mp h
      exact hquoted p k i hi hst
    · obtain ⟨hholds, hitem⟩ := heval op ev h
      refine ⟨hholds, fun hne => ?_⟩
      obtain ⟨i, hi, hst⟩ := hitem hne
      exact ⟨i.quote, (hentry _ _ _ _).mpr ⟨i, hi, hst, rfl⟩⟩
  · rintro ⟨hcount, hquoted, heval, hgen, hret, hone⟩
    refine ⟨fun b => ?_, fun p k i hi hst => ?_, fun op ev h => ?_, hgen, hret, hone⟩
    · rw [hcount b, State.quotesOn_eq, State.evaluationsOn_eq, Nat.add_zero]
    · exact hquoted p k i.quote ((hentry p k _ _).mpr ⟨i, hi, hst, rfl⟩)
    · obtain ⟨hholds, hitem⟩ := heval op ev h
      refine ⟨hholds, fun hne => ?_⟩
      obtain ⟨quote, hq⟩ := hitem hne
      obtain ⟨i, hi, hst, -⟩ := (hentry _ _ _ _).mp hq
      exact ⟨i, hi, hst⟩

/-! ### Changes of a sheet -/

/-- A sheet with one slot replaced. -/
def Sheet.write (f : Sheet) (p : PositionId) (k : Slot) (v : Option (ItemState × Option Quote)) : Sheet :=
  fun q m => if q = p ∧ m = k then v else f q m

/-- A sheet with one position replaced. -/
def Sheet.writeAll (f : Sheet) (p : PositionId) (v : Slot → Option (ItemState × Option Quote)) : Sheet :=
  fun q => if q = p then v else f q

theorem Sheet.claims_writeAll (f : Sheet) (p : PositionId) (v : Slot → Option (ItemState × Option Quote)) (b : BankId) :
    (f.writeAll p v).claims b + slotClaims (f p) b = f.claims b + slotClaims v b := by
  have h : ∀ g : Sheet, g.claims b = slotClaims (g p) b + ∑ q ∈ Finset.univ.erase p, slotClaims (g q) b := fun g =>
    (Finset.add_sum_erase _ _ (Finset.mem_univ p)).symm
  have hrest : ∑ q ∈ Finset.univ.erase p, slotClaims (f.writeAll p v q) b = ∑ q ∈ Finset.univ.erase p, slotClaims (f q) b :=
    Finset.sum_congr rfl fun q hq => by rw [Sheet.writeAll, if_neg (Finset.ne_of_mem_erase hq)]
  rw [h f, h (f.writeAll p v), hrest, Sheet.writeAll, if_pos rfl]
  omega

theorem Sheet.claims_write (f : Sheet) (p : PositionId) (k : Slot) (v : Option (ItemState × Option Quote)) (b : BankId) :
    (f.write p k v).claims b + (if entryClaim (f p k) = some b then 1 else 0) =
      f.claims b + (if entryClaim v = some b then 1 else 0) := by
  have hw : f.write p k v = f.writeAll p (fun m => if m = k then v else f p m) := by
    funext q m
    by_cases hq : q = p
    · subst hq; simp [Sheet.write, Sheet.writeAll]
    · simp [Sheet.write, Sheet.writeAll, hq]
  have hall := Sheet.claims_writeAll f p (fun m => if m = k then v else f p m) b
  have h : ∀ g : Slot → Option (ItemState × Option Quote),
      slotClaims g b = (if entryClaim (g k) = some b then 1 else 0) +
        ∑ m ∈ Finset.univ.erase k, if entryClaim (g m) = some b then 1 else 0 := fun g =>
    (Finset.add_sum_erase _ _ (Finset.mem_univ k)).symm
  have hrest : (∑ m ∈ Finset.univ.erase k, if entryClaim (if m = k then v else f p m) = some b then 1 else 0) =
      ∑ m ∈ Finset.univ.erase k, if entryClaim (f p m) = some b then 1 else 0 :=
    Finset.sum_congr rfl fun m hm => by rw [if_neg (Finset.ne_of_mem_erase hm)]
  rw [h (f p), h (fun m => if m = k then v else f p m), hrest, if_pos rfl] at hall
  rw [hw]
  omega

/-- R116: an entry that claims a bank is counted there. -/
theorem Sheet.claims_pos {f : Sheet} {p : PositionId} {k : Slot} {b : BankId} (h : entryClaim (f p k) = some b) : 0 < f.claims b := by
  have hw := Sheet.claims_write f p k none b
  rw [if_pos h, if_neg (by simp [entryClaim])] at hw
  omega

/-! ### Changes that keep the balance -/

theorem entryClaim_eq_some {v : Option (ItemState × Option Quote)} {b : BankId} :
    entryClaim v = some b ↔ ∃ q, v = some (.quoted, some q) ∧ q.bank = b := by
  unfold entryClaim
  split
  · next q => simp
  · next h => simpa using fun q hq _ => h q hq

/-- R116, R117: what giving `n` references back may make of a bank: a RETIRING bank with no more than these is blank, any other keeps its state and its generation. -/
def Bank.GivenBack (n : Nat) (bk bk' : Bank) : Prop :=
  (bk.state = .retiring ∧ bk.refs ≤ n ∧ bk' = .blank) ∨
    (bk'.refs = bk.refs - n ∧ bk'.state = bk.state ∧ bk'.generation = bk.generation)

theorem Bank.lessRefs_givenBack (n : Nat) (bk : Bank) : bk.GivenBack n (bk.lessRefs n) := by
  unfold Bank.lessRefs
  split
  · next h => exact .inr ⟨by omega, rfl, rfl⟩
  · split
    · next h => exact .inl ⟨h.1, h.2, rfl⟩
    · exact .inr ⟨rfl, rfl, rfl⟩

theorem Bank.GivenBack.refs {n : Nat} {bk bk' : Bank} (h : bk.GivenBack n bk') : bk'.refs = bk.refs - n := by
  rcases h with ⟨-, hle, rfl⟩ | ⟨hr, -, -⟩
  · exact (Nat.sub_eq_zero_of_le hle).symm
  · exact hr

theorem Bank.GivenBack.holds {n : Nat} {bk bk' : Bank} {g : Word16} (h : bk.GivenBack n bk') (hn : n < bk.refs) (hg : bk.holds g) :
    bk'.holds g := by
  rcases h with ⟨-, hle, -⟩ | ⟨-, hs, hgen⟩
  · omega
  · rwa [Bank.holds, hs, hgen]

/-- R117: a bank that is not blank after references were given back is in its old state. -/
theorem Bank.GivenBack.state {n : Nat} {bk bk' : Bank} (h : bk.GivenBack n bk') (hne : bk'.state ≠ .empty) :
    bk'.state = bk.state ∧ bk'.generation = bk.generation := by
  rcases h with ⟨-, -, rfl⟩ | ⟨-, hs, hgen⟩
  · exact absurd rfl hne
  · exact ⟨hs, hgen⟩

theorem Bank.GivenBack.active {n : Nat} {bk bk' : Bank} (h : bk.GivenBack n bk') (ha : bk.state = .active) : bk'.state = .active := by
  rcases h with ⟨hr, -, -⟩ | ⟨-, hs, -⟩
  · rw [ha] at hr; cases hr
  · rw [hs, ha]

theorem EvaluatorState.claims_evaluating (op : Operation) (ev : Evaluation) :
    (EvaluatorState.evaluating op ev).claims ev.bank = 1 := if_pos rfl

/-- R116, R117: what is owed is given back. -/
theorem Balanced.settle {owed : BankId → Nat} {f : Sheet} {bank bank' : BankId → Bank} {e : EvaluatorState}
    (h : Balanced owed f bank e) (hback : ∀ b, (bank b).GivenBack (owed b) (bank' b)) : Balanced (fun _ => 0) f bank' e := by
  have hholds : ∀ b g, (bank b).holds g → 0 < f.claims b + e.claims b → (bank' b).holds g :=
    fun b g hb hpos => (hback b).holds (by have := h.counted b; omega) hb
  refine ⟨fun b => ?_, fun p k quote hq => ?_, fun op ev he => ?_, fun b hb => ?_, fun b hb => ?_, fun ⟨hA, hB⟩ => ?_⟩
  · rw [(hback b).refs, h.counted b]; omega
  · obtain ⟨q, rfl, hb⟩ := h.quoted p k quote hq
    exact ⟨q, rfl, hholds _ _ hb (Nat.add_pos_left (Sheet.claims_pos (entryClaim_eq_some.mpr ⟨q, hq, rfl⟩)) _)⟩
  · obtain ⟨hb, hitem⟩ := h.evaluated op ev he
    refine ⟨hholds _ _ hb (Nat.add_pos_right _ ?_), hitem⟩
    rw [he, EvaluatorState.claims_evaluating]; exact Nat.one_pos
  · obtain ⟨hs, hg⟩ := (hback b).state (by rcases hb with hb | hb | hb <;> simp [hb])
    rw [hg]; exact h.generation b (hs ▸ hb)
  · obtain ⟨hs, -⟩ := (hback b).state (by simp [hb])
    exact (hback _).active (h.retiring b (hs ▸ hb))
  · obtain ⟨hsA, -⟩ := (hback .A).state (by simp [hA])
    obtain ⟨hsB, -⟩ := (hback .B).state (by simp [hB])
    exact h.single ⟨hsA ▸ hA, hsB ▸ hB⟩

/-- R27, R33: a slot takes an entry that is not QUOTED, RATING where an evaluation stands; the claim that the old one held is owed. -/
theorem Balanced.write {f : Sheet} {bank : BankId → Bank} {e : EvaluatorState} {owed : BankId → Nat} (h : Balanced owed f bank e)
    (p : PositionId) (k : Slot) (v : Option (ItemState × Option Quote)) (hv : ∀ quote, v ≠ some (.quoted, quote))
    (he : ∀ op ev, e = .evaluating op ev → ev.halt ≠ some .abandoned → op.position = p → op.slot = k → ∃ quote, v = some (.rating, quote)) :
    Balanced (fun b => owed b + if entryClaim (f p k) = some b then 1 else 0) (f.write p k v) bank e := by
  refine ⟨fun b => ?_, fun q m quote hq => ?_, fun op ev hev => ?_, h.generation, h.retiring, h.single⟩
  · have hw := Sheet.claims_write f p k v b
    rw [if_neg (show entryClaim v ≠ some b from fun hc => by
      obtain ⟨q, rfl, -⟩ := entryClaim_eq_some.mp hc; exact hv _ rfl)] at hw
    have hc := h.counted b
    omega
  · by_cases hqm : q = p ∧ m = k
    · rw [Sheet.write, if_pos hqm] at hq; exact absurd hq (hv quote)
    · rw [Sheet.write, if_neg hqm] at hq; exact h.quoted q m quote hq
  · obtain ⟨hb, hitem⟩ := h.evaluated op ev hev
    refine ⟨hb, fun hne => ?_⟩
    by_cases hqm : op.position = p ∧ op.slot = k
    · rw [Sheet.write, if_pos hqm]; exact he op ev hev hne hqm.1 hqm.2
    · rw [Sheet.write, if_neg hqm]; exact hitem hne

/-- R14, R32, R42: a position loses its items, none of which is under an evaluation that still counts; their claims are owed. -/
theorem Balanced.clear {f : Sheet} {bank : BankId → Bank} {e : EvaluatorState} (h : Balanced (fun _ => 0) f bank e) (p : PositionId)
    (he : ∀ op ev, e = .evaluating op ev → op.position = p → ev.halt = some .abandoned) :
    Balanced (slotClaims (f p)) (f.writeAll p fun _ => none) bank e := by
  refine ⟨fun b => ?_, fun q m quote hq => ?_, fun op ev hev => ?_, h.generation, h.retiring, h.single⟩
  · have hw := Sheet.claims_writeAll f p (fun _ => none) b
    rw [slotClaims_none] at hw
    have hc := h.counted b
    omega
  · by_cases hqp : q = p
    · simp [Sheet.writeAll, hqp] at hq
    · rw [Sheet.writeAll, if_neg hqp] at hq; exact h.quoted q m quote hq
  · obtain ⟨hb, hitem⟩ := h.evaluated op ev hev
    refine ⟨hb, fun hne => ?_⟩
    rw [Sheet.writeAll, if_neg fun hp => hne (he op ev hev hp)]
    exact hitem hne

/-- R98, R102: an evaluation ends; its reference is owed. -/
theorem Balanced.endEvaluation {f : Sheet} {bank : BankId → Bank} {e e' : EvaluatorState} (h : Balanced (fun _ => 0) f bank e)
    (he : ∀ op ev, e' ≠ .evaluating op ev) : Balanced e.claims f bank e' := by
  refine ⟨fun b => ?_, h.quoted, fun op ev hev => absurd hev (he op ev), h.generation, h.retiring, h.single⟩
  have hc := h.counted b
  have hz : e'.claims b = 0 := by
    cases e' with
    | idle => rfl
    | chaining op => rfl
    | evaluating op ev => exact absurd rfl (he op ev)
  omega

/-- R83, R101 to R104: an evaluation goes on, on its bank and generation; once abandoned it stays so. -/
theorem Balanced.stepEvaluation {f : Sheet} {bank : BankId → Bank} {op : Operation} {ev ev' : Evaluation}
    (h : Balanced (fun _ => 0) f bank (.evaluating op ev)) (hb : ev'.bank = ev.bank) (hg : ev'.generation = ev.generation)
    (hh : ev'.halt ≠ some .abandoned → ev.halt ≠ some .abandoned) : Balanced (fun _ => 0) f bank (.evaluating op ev') := by
  refine ⟨fun b => ?_, h.quoted, fun op' ev'' heq => ?_, h.generation, h.retiring, h.single⟩
  · rw [h.counted b]; simp only [EvaluatorState.claims, hb]
  · cases heq
    obtain ⟨hholds, hitem⟩ := h.evaluated op ev rfl
    exact ⟨hb ▸ hg ▸ hholds, fun hne => hitem (hh hne)⟩

/-- R98: the reference of an evaluation that ends stays for the quote it delivers. -/
theorem Balanced.deliver {f : Sheet} {bank : BankId → Bank} {op : Operation} {ev : Evaluation} {e' : EvaluatorState}
    (h : Balanced (fun _ => 0) f bank (.evaluating op ev)) (hhalt : ev.halt ≠ some .abandoned) (he : ∀ op ev, e' ≠ .evaluating op ev)
    (q : Quote) (hb : q.bank = ev.bank) (hg : q.generation = ev.generation) :
    Balanced (fun _ => 0) (f.write op.position op.slot (some (.quoted, some q))) bank e' := by
  obtain ⟨hholds, hitem⟩ := h.evaluated op ev rfl
  obtain ⟨quote, hrating⟩ := hitem hhalt
  have hend := h.endEvaluation he
  refine ⟨fun b => ?_, fun p k quote' hq => ?_, fun op ev hev => absurd hev (he op ev), h.generation, h.retiring, h.single⟩
  · have hw := Sheet.claims_write f op.position op.slot (some (.quoted, some q)) b
    have hc := hend.counted b
    rw [hrating] at hw
    simp only [entryClaim, reduceCtorEq, if_false, Option.some.injEq, hb] at hw
    rw [show (EvaluatorState.evaluating op ev).claims b = if ev.bank = b then 1 else 0 from rfl] at hc
    omega
  · by_cases hqm : p = op.position ∧ k = op.slot
    · rw [Sheet.write, if_pos hqm] at hq
      cases hq
      exact ⟨q, rfl, by rw [hb, hg]; exact hholds⟩
    · rw [Sheet.write, if_neg hqm] at hq; exact h.quoted p k quote' hq

/-- R106, R116: a bank that nothing may refer to has no claims on it. -/
theorem Balanced.unclaimed {owed : BankId → Nat} {f : Sheet} {bank : BankId → Bank} {e : EvaluatorState} (h : Balanced owed f bank e)
    {b : BankId} (hb : ∀ g, ¬(bank b).holds g) : f.claims b = 0 ∧ e.claims b = 0 := by
  constructor
  · refine Finset.sum_eq_zero fun p _ => Finset.sum_eq_zero fun k _ => if_neg fun hc => ?_
    obtain ⟨q, hq, rfl⟩ := entryClaim_eq_some.mp hc
    obtain ⟨q', hq', hholds⟩ := h.quoted p k _ hq
    cases hq'
    exact hb _ hholds
  · cases e with
    | idle => rfl
    | chaining op => rfl
    | evaluating op ev => exact if_neg fun hev => hb _ (hev ▸ (h.evaluated op ev rfl).1)

/-! ### Changes of the banks and of the evaluator -/

/-- R106, R108 to R112: a bank that nothing may refer to is replaced by another such bank, without references. -/
theorem Balanced.setBank {f : Sheet} {bank bank' : BankId → Bank} {e : EvaluatorState} (h : Balanced (fun _ => 0) f bank e) (b : BankId)
    (hold : (bank b).state ≠ .active ∧ (bank b).state ≠ .retiring) (hnew : (bank' b).state ≠ .active ∧ (bank' b).state ≠ .retiring)
    (hrefs : (bank' b).refs = 0 ∨ (bank' b).refs = (bank b).refs)
    (hgen : (bank' b).state = .loaded → (bank' b).generation.isSome = true) (hother : bank' b.other = bank b.other) :
    Balanced (fun _ => 0) f bank' e := by
  have hno : ∀ g, ¬(bank b).holds g := fun g hb => hb.1.elim hold.1 hold.2
  obtain ⟨hf, he⟩ := h.unclaimed hno
  have hcount := h.counted b
  have hne : ∀ c g, (bank c).holds g → bank' c = bank c := by
    intro c g hc
    rcases BankId.eq_or_eq_other b c with rfl | rfl
    · exact absurd hc (hno g)
    · exact hother
  refine ⟨fun c => ?_, fun p k quote hq => ?_, fun op ev hev => ?_, fun c hc => ?_, fun c hc => ?_, fun ⟨hA, hB⟩ => ?_⟩
  · rcases BankId.eq_or_eq_other b c with rfl | rfl
    · omega
    · rw [hother]; exact h.counted _
  · obtain ⟨q, rfl, hb⟩ := h.quoted p k quote hq
    exact ⟨q, rfl, by rw [hne _ _ hb]; exact hb⟩
  · obtain ⟨hb, hitem⟩ := h.evaluated op ev hev
    exact ⟨by rw [hne _ _ hb]; exact hb, hitem⟩
  · rcases BankId.eq_or_eq_other b c with rfl | rfl
    · exact hgen (hc.resolve_right fun hc => hc.elim hnew.1 hnew.2)
    · rw [hother] at hc ⊢; exact h.generation _ hc
  · rcases BankId.eq_or_eq_other b c with rfl | rfl
    · exact absurd hc hnew.2
    · rw [hother] at hc
      have hact := h.retiring _ hc
      rw [BankId.other_other] at hact
      exact absurd hact hold.1
  · cases b with
    | A => exact hnew.1 hA
    | B => exact hnew.1 hB

/-- R114: what an activation may make of the other bank, when that is not RETIRING. -/
def Bank.SupersededAs (bk bk' : Bank) : Prop :=
  (bk.state ≠ .active ∧ bk' = bk) ∨ ((bk.state = .active → bk.refs = 0) ∧ bk' = .blank) ∨
    (bk.state = .active ∧ bk'.state = .retiring ∧ bk'.refs = bk.refs ∧ bk'.generation = bk.generation)

theorem Bank.superseded_as (minutes : Nat) (effective : Option Word32) (bk : Bank) :
    bk.SupersededAs (bk.superseded minutes effective) := by
  unfold Bank.superseded Bank.SupersededAs
  cases hst : bk.state with
  | active => by_cases hr : bk.refs = 0 <;> simp [hr]
  | loaded =>
    dsimp only
    split
    · split <;> simp
    · simp
  | empty => simp
  | loading => simp
  | retiring => simp

/-- R114: a LOADED bank is activated; the other, which cannot be RETIRING, is superseded. -/
theorem Balanced.activate {f : Sheet} {bank bank' : BankId → Bank} {e : EvaluatorState} (h : Balanced (fun _ => 0) f bank e)
    (b : BankId) (hb : (bank b).state = .loaded) (hnew : bank' b = { bank b with state := .active })
    (hother : (bank b.other).SupersededAs (bank' b.other)) : Balanced (fun _ => 0) f bank' e := by
  have hno : ∀ g, ¬(bank b).holds g := fun g hh => by rw [Bank.holds, hb] at hh; simp at hh
  have hnr : (bank b.other).state ≠ .retiring := fun hr => by
    have hact := h.retiring _ hr
    rw [BankId.other_other, hb] at hact
    cases hact
  have hcount : ∀ c, (bank' c).refs = (bank c).refs := by
    intro c
    rcases BankId.eq_or_eq_other b c with rfl | rfl
    · rw [hnew]
    · rcases hother with ⟨-, heq⟩ | ⟨hz, heq⟩ | ⟨-, -, hr, -⟩
      · rw [heq]
      · rw [heq]
        by_cases ha : (bank b.other).state = .active
        · exact (hz ha).symm
        · have hun := h.unclaimed (b := b.other) fun g hg => hg.1.elim ha hnr
          rw [h.counted, hun.1, hun.2]; rfl
      · exact hr
  have hholds : ∀ c g, (bank c).holds g → 0 < f.claims c + e.claims c → (bank' c).holds g := by
    intro c g hc hpos
    rcases BankId.eq_or_eq_other b c with rfl | rfl
    · exact absurd hc (hno g)
    · have ha : (bank b.other).state = .active := hc.1.resolve_right hnr
      rcases hother with ⟨hna, -⟩ | ⟨hz, -⟩ | ⟨-, hs, -, hg⟩
      · exact absurd ha hna
      · have := h.counted b.other; have := hz ha; omega
      · exact ⟨.inr hs, hg.trans hc.2⟩
  have hactive : (bank' b).state = .active := by rw [hnew]
  have hothers : (bank' b.other).state ≠ .active := by
    rcases hother with ⟨hna, heq⟩ | ⟨-, heq⟩ | ⟨-, hs, -⟩
    · rwa [heq]
    · rw [heq]; simp [Bank.blank]
    · simp [hs]
  refine ⟨fun c => by rw [hcount c]; exact h.counted c, fun p k quote hq => ?_, fun op ev he => ?_, fun c hc => ?_, fun c hc => ?_,
    fun ⟨hA, hB⟩ => ?_⟩
  · obtain ⟨q, rfl, hc⟩ := h.quoted p k quote hq
    exact ⟨q, rfl, hholds _ _ hc (Nat.add_pos_left (Sheet.claims_pos (entryClaim_eq_some.mpr ⟨q, hq, rfl⟩)) _)⟩
  · obtain ⟨hc, hitem⟩ := h.evaluated op ev he
    refine ⟨hholds _ _ hc (Nat.add_pos_right _ ?_), hitem⟩
    rw [he, EvaluatorState.claims_evaluating]; exact Nat.one_pos
  · rcases BankId.eq_or_eq_other b c with rfl | rfl
    · rw [hnew]; exact h.generation c (.inl hb)
    · rcases hother with ⟨-, heq⟩ | ⟨-, heq⟩ | ⟨ha, -, -, hg⟩
      · rw [heq] at hc ⊢; exact h.generation _ hc
      · rw [heq] at hc; simp [Bank.blank] at hc
      · rw [hg]; exact h.generation _ (.inr (.inl ha))
  · rcases BankId.eq_or_eq_other b c with rfl | rfl
    · rw [hactive] at hc; cases hc
    · rw [BankId.other_other]; exact hactive
  · cases b with
    | A => exact hothers hB
    | B => exact hothers hA

/-- R82, R116: an evaluation starts on the ACTIVE bank, whose count rises by one; its item becomes RATING. -/
theorem Balanced.start {f : Sheet} {bank bank' : BankId → Bank} {e : EvaluatorState} (h : Balanced (fun _ => 0) f bank e)
    (he : ∀ op ev, e ≠ .evaluating op ev) (op : Operation) (ev : Evaluation) (hnew : bank' ev.bank = { bank ev.bank with refs := (bank ev.bank).refs + 1 })
    (hother : bank' ev.bank.other = bank ev.bank.other) (hholds : (bank ev.bank).holds ev.generation)
    (hclaim : entryClaim (f op.position op.slot) = none) (quote : Option Quote) :
    Balanced (fun _ => 0) (f.write op.position op.slot (some (.rating, quote))) bank' (.evaluating op ev) := by
  have hsame : ∀ c, (bank' c).state = (bank c).state ∧ (bank' c).generation = (bank c).generation := by
    intro c
    rcases BankId.eq_or_eq_other ev.bank c with rfl | rfl
    · rw [hnew]; exact ⟨rfl, rfl⟩
    · rw [hother]; exact ⟨rfl, rfl⟩
  have hw := h.write op.position op.slot (some (.rating, quote)) (by simp) fun o v hv => absurd hv (he o v)
  simp only [hclaim, reduceCtorEq, if_false, Nat.add_zero] at hw
  have hidle : ∀ c, e.claims c = 0 := fun c => by
    cases e with
    | idle => rfl
    | chaining o => rfl
    | evaluating o v => exact absurd rfl (he o v)
  refine ⟨fun c => ?_, fun p k quote hq => ?_, fun o v hv => ?_, fun c hc => ?_, fun c hc => ?_, ?_⟩
  · have hc := hw.counted c
    rw [hidle] at hc
    rcases BankId.eq_or_eq_other ev.bank c with rfl | rfl
    · rw [hnew, EvaluatorState.claims_evaluating]; dsimp only; omega
    · rw [hother, show (EvaluatorState.evaluating op ev).claims ev.bank.other = 0 from if_neg (BankId.other_ne _).symm]; omega
  · obtain ⟨q, rfl, hc⟩ := hw.quoted p k quote hq
    exact ⟨q, rfl, by rwa [Bank.holds, (hsame _).1, (hsame _).2]⟩
  · cases hv
    exact ⟨by rwa [Bank.holds, (hsame _).1, (hsame _).2], fun _ => ⟨quote, if_pos ⟨rfl, rfl⟩⟩⟩
  · rw [(hsame c).1] at hc; rw [(hsame c).2]; exact h.generation c hc
  · rw [(hsame c).1] at hc; rw [(hsame _).1]; exact h.retiring c hc
  · rw [(hsame _).1, (hsame _).1]; exact h.single

/-! ### The grace expiry (R38, R104, R119) -/

/-- R38: the stale mark of a bank at an entry of a sheet. -/
def staleEntry (b : BankId) (v : Option (ItemState × Option Quote)) : Option (ItemState × Option Quote) :=
  if entryClaim v = some b then v.map fun x => (.stale, x.2.map fun q => { q with stale := true }) else v

theorem staleEntry_quoted {b : BankId} {v : Option (ItemState × Option Quote)} {quote : Option Quote}
    (h : staleEntry b v = some (.quoted, quote)) : v = some (.quoted, quote) ∧ entryClaim v ≠ some b := by
  unfold staleEntry at h
  split at h
  · simp at h
  · next hc => exact ⟨h, hc⟩

/-- R38: the mark leaves a bank's quotes without a claim, and every other claim as it was. -/
theorem Sheet.claims_stale (f : Sheet) (b c : BankId) :
    Sheet.claims (fun p k => staleEntry b (f p k)) c = if c = b then 0 else f.claims c := by
  have hentry : ∀ v, entryClaim (staleEntry b v) = some c ↔ c ≠ b ∧ entryClaim v = some c := by
    intro v
    unfold staleEntry
    split
    · next hc =>
      obtain ⟨q, rfl, hq⟩ := entryClaim_eq_some.mp hc
      rw [hc, Option.some.injEq]
      exact ⟨fun h => by simp [entryClaim] at h, fun ⟨hne, h⟩ => absurd h.symm hne⟩
    · next hc => exact ⟨fun h => ⟨fun hcb => hc (hcb ▸ h), h⟩, fun h => h.2⟩
  by_cases hcb : c = b
  · rw [if_pos hcb]
    exact Finset.sum_eq_zero fun p _ => Finset.sum_eq_zero fun k _ => if_neg fun h => ((hentry _).mp h).1 hcb
  · rw [if_neg hcb]
    exact Finset.sum_congr rfl fun p _ => Finset.sum_congr rfl fun k _ =>
      if_congr ((hentry _).trans ⟨fun h => h.2, fun h => ⟨hcb, h⟩⟩) rfl rfl

/-- R38, R119: the quotes on a bank become STALE; their references are owed. -/
theorem Balanced.stale {f : Sheet} {bank : BankId → Bank} {e : EvaluatorState} (h : Balanced (fun _ => 0) f bank e) (b : BankId) :
    Balanced (fun c => if c = b then f.claims b else 0) (fun p k => staleEntry b (f p k)) bank e := by
  refine ⟨fun c => ?_, fun p k quote hq => ?_, fun op ev hev => ?_, h.generation, h.retiring, h.single⟩
  · have hc := h.counted c
    rw [Sheet.claims_stale]
    split
    · next hcb => rw [← hcb]; omega
    · exact hc
  · exact h.quoted p k quote (staleEntry_quoted hq).1
  · obtain ⟨hholds, hitem⟩ := h.evaluated op ev hev
    refine ⟨hholds, fun hne => ?_⟩
    obtain ⟨quote, hq⟩ := hitem hne
    refine ⟨quote, ?_⟩
    rw [hq]
    rfl

end Sys2Proof.Machine
end

section
/-! SUPPORT. The bank references under the shared operations of Ops.lean: most leave the sheet, the tariff store and the evaluator state alone; the others keep the balance. -/

namespace Sys2Proof.Machine

/-! ### Operations that leave the references alone -/

/-- Between the two states no item's state or quote, no bank and no evaluation has changed. -/
def SameRefs (s u : State) : Prop := u.sheet = s.sheet ∧ u.tariffs = s.tariffs ∧ u.evaluator.state = s.evaluator.state

theorem SameRefs.refl (s : State) : SameRefs s s := ⟨rfl, rfl, rfl⟩

theorem SameRefs.trans {s u v : State} (h : SameRefs s u) (h' : SameRefs u v) : SameRefs s v :=
  ⟨h'.1.trans h.1, h'.2.1.trans h.2.1, h'.2.2.trans h.2.2⟩

theorem State.bank_congr {s u : State} (h : u.tariffs = s.tariffs) : u.bank = s.bank := by
  funext b
  cases b
  · exact congrArg TariffStore.bankA h
  · exact congrArg TariffStore.bankB h

theorem SameRefs.counted {s u : State} (h : SameRefs s u) (hs : ReferencesCounted s) : ReferencesCounted u := by
  rw [referencesCounted_iff] at hs ⊢
  rwa [h.1, State.bank_congr h.2.1, h.2.2]

theorem State.setPrinter_sameRefs (l : PrinterId) (pr : Printer) (s : State) : SameRefs s (s.setPrinter l pr) := ⟨rfl, rfl, rfl⟩

theorem State.saveQueue_sameRefs (l : PrinterId) (s : State) : SameRefs s (s.saveQueue l) := ⟨rfl, rfl, rfl⟩

theorem State.updateAccount_sameRefs (a : AccountId) (x : Account) (s : State) : SameRefs s (s.updateAccount a x) := ⟨rfl, rfl, rfl⟩

theorem State.appendEntry_sameRefs (a : AccountId) (e : JournalEvent) (s : State) : SameRefs s (s.appendEntry a e) := ⟨rfl, rfl, rfl⟩

theorem State.saveAllocator_sameRefs (al : Allocator) (s : State) : SameRefs s (State.saveAllocator { s with allocator := al }) :=
  ⟨rfl, rfl, rfl⟩

/-- What R116 reads of a position's context. -/
def PositionContext.sheet (c : PositionContext) (k : Slot) : Option (ItemState × Option Quote) :=
  sheetEntry (c.transaction.bind fun t => tget t k)

theorem PositionContext.sheet_of_transaction {c : PositionContext} {t : Transaction} (h : c.transaction = some t) :
    c.sheet = fun k => sheetEntry (tget t k) := by
  funext k
  rw [PositionContext.sheet, h]
  rfl

theorem PositionContext.sheet_closed {c : PositionContext} (h : c.transaction = none) : c.sheet = fun _ => none := by
  funext k
  rw [PositionContext.sheet, h]
  rfl

theorem State.sheet_eq (s : State) (p : PositionId) : s.sheet p = (s.ctx p).sheet := by
  funext k
  simp only [State.sheet, State.item, PositionContext.sheet]
  cases (s.ctx p).transaction <;> rfl

theorem State.sheet_setCtx (p : PositionId) (c : PositionContext) (s : State) :
    (s.setCtx p c).sheet = s.sheet.writeAll p c.sheet := by
  funext q
  rw [State.sheet_eq, Sheet.writeAll]
  split
  · next h => rw [h, State.setCtx_ctx_self]
  · next h => rw [State.setCtx_ctx_ne _ _ _ _ h, State.sheet_eq]

theorem Sheet.writeAll_self (f : Sheet) (p : PositionId) : f.writeAll p (f p) = f := by
  funext q
  rw [Sheet.writeAll]
  split
  · next h => rw [h]
  · rfl

/-- A context written back with the same entries of its sheet. -/
theorem SameRefs.setCtx {p : PositionId} {c : PositionContext} {s : State} (h : c.sheet = (s.ctx p).sheet) :
    SameRefs s (s.setCtx p c) :=
  ⟨by rw [State.sheet_setCtx, h, ← State.sheet_eq, Sheet.writeAll_self], rfl, rfl⟩

theorem SameRefs.setCtx_transaction {p : PositionId} {c : PositionContext} {s : State} (h : c.transaction = (s.ctx p).transaction) :
    SameRefs s (s.setCtx p c) := .setCtx (by funext k; rw [PositionContext.sheet, h]; rfl)

theorem State.handCompletion_sameRefs (p : PositionId) (r : Completion) (s : State) : SameRefs s (s.handCompletion p r) := by
  unfold State.handCompletion
  split
  · dsimp only
    have h := SameRefs.setCtx_transaction (p := p) (s := s)
      (c := { s.ctx p with completions := (s.ctx p).completions ++ [r] }) rfl
    split
    · exact h.trans ⟨rfl, rfl, rfl⟩
    · exact h
  · exact .refl s

theorem State.handRateDone_sameRefs (op : Operation) (last : Slot) (status : Reason) (s : State) :
    SameRefs s (s.handRateDone op last status) :=
  (SameRefs.setCtx_transaction (c := { s.ctx op.position with rating := false }) rfl).trans (State.handCompletion_sameRefs _ _ _)

theorem Item.relabel_entry (num : Nat) (st : LabelState) (o : Option Item) : sheetEntry (o.map (Item.relabel num st)) = sheetEntry o := by
  cases o with
  | none => rfl
  | some i =>
    simp only [sheetEntry, Option.map_some, Item.relabel]
    split <;> rfl

/-- R41: a label report changes no item's state or quote. -/
theorem State.reportLabel_sameRefs (p : PositionId) (num : Nat) (st : LabelState) (s : State) :
    SameRefs s (s.reportLabel p num st) := by
  unfold State.reportLabel
  split
  · next t ht =>
    refine .setCtx (funext fun k => ?_)
    simp only [PositionContext.sheet, ht, Option.bind_some, tget_tbuild, Item.relabel_entry]
  · exact .refl s

theorem State.sendHead_sameRefs (l : PrinterId) (s : State) : SameRefs s (s.sendHead l) := by
  unfold State.sendHead
  split
  · exact SameRefs.trans ⟨rfl, rfl, rfl⟩ (State.reportLabel_sameRefs _ _ _ _)
  · exact .refl s

theorem State.returnHead_sameRefs (l : PrinterId) (st : PrinterState) (s : State) : SameRefs s (s.returnHead l st) := by
  unfold State.returnHead
  split
  · exact SameRefs.trans ⟨rfl, rfl, rfl⟩ (State.reportLabel_sameRefs _ _ _ _)
  · exact ⟨rfl, rfl, rfl⟩

theorem State.finishHead_sameRefs (l : PrinterId) (s : State) : SameRefs s (s.finishHead l) := by
  unfold State.finishHead
  split
  · refine SameRefs.trans ?_ (State.sendHead_sameRefs _ _)
    refine SameRefs.trans ?_ (State.handCompletion_sameRefs _ _ _)
    exact SameRefs.trans ⟨rfl, rfl, rfl⟩ (State.reportLabel_sameRefs _ _ _ _)
  · exact ⟨rfl, rfl, rfl⟩

theorem State.withdrawJob_sameRefs (num : Nat) (s : State) : SameRefs s (s.withdrawJob num).1 := by
  unfold State.withdrawJob
  split
  · split
    · split
      · exact SameRefs.trans ⟨rfl, rfl, rfl⟩ (State.sendHead_sameRefs _ _)
      · exact .refl s
    · exact .refl s
  · exact .refl s

theorem State.queueJob_sameRefs (l : PrinterId) (j : Job) (s : State) : SameRefs s (s.queueJob l j) :=
  SameRefs.trans ⟨rfl, rfl, rfl⟩ (State.sendHead_sameRefs _ _)

theorem State.sendHeads_sameRefs (s : State) : SameRefs s s.sendHeads :=
  (((State.sendHead_sameRefs 0 s).trans (State.sendHead_sameRefs 1 _)).trans (State.sendHead_sameRefs 2 _)).trans
    (State.sendHead_sameRefs 3 _)

theorem State.reportMoved_sameRefs (jobs : List Job) (s : State) : SameRefs s (s.reportMoved jobs) := by
  unfold State.reportMoved
  induction jobs generalizing s with
  | nil => exact .refl s
  | cons j js ih => exact (State.reportLabel_sameRefs _ _ _ s).trans (ih _)

/-! ### Items written (R33) -/

theorem State.transaction_of_item {s : State} {p : PositionId} {k : Slot} {i : Item} (h : s.item p k = some i) :
    ∃ t, (s.ctx p).transaction = some t := by
  unfold State.item at h
  split at h
  · next t ht => exact ⟨t, ht⟩
  · cases h

theorem State.sheet_setItem {s : State} {p : PositionId} {t : Transaction} (ht : (s.ctx p).transaction = some t) (k : Slot)
    (o : Option Item) : (s.setItem p k o).sheet = s.sheet.write p k (sheetEntry o) := by
  rw [State.setItem_of_transaction ht, State.sheet_setCtx, PositionContext.sheet_of_transaction rfl]
  funext q m
  simp only [Sheet.writeAll, Sheet.write, tget_tset]
  by_cases hq : q = p
  · subst hq
    simp only [if_true, true_and, State.sheet_of_transaction ht]
    split <;> rfl
  · simp [hq]

theorem State.sheet_of_item {s : State} {p : PositionId} {k : Slot} {i : Item} (h : s.item p k = some i) :
    s.sheet p k = some (i.state, i.quote) := by
  simp only [State.sheet, h]
  rfl

theorem sheetEntry_not_quoted {o : Option Item} (h : ∀ j, o = some j → j.state ≠ .quoted) (quote : Option Quote) :
    sheetEntry o ≠ some (.quoted, quote) := by
  cases o with
  | none => simp [sheetEntry]
  | some j => simpa [sheetEntry] using fun hj => absurd hj (h j rfl)

theorem State.setItem_tariffs (p : PositionId) (k : Slot) (o : Option Item) (s : State) : (s.setItem p k o).tariffs = s.tariffs := by
  obtain ⟨ps, h⟩ := State.setItem_shape p k o s
  rw [h]

theorem State.setItem_evaluator (p : PositionId) (k : Slot) (o : Option Item) (s : State) :
    (s.setItem p k o).evaluator = s.evaluator := by
  obtain ⟨ps, h⟩ := State.setItem_shape p k o s
  rw [h]

theorem State.releaseQuote_sheet (i : Item) (s : State) : (s.releaseQuote i).sheet = s.sheet := by
  rw [State.releaseQuote_eq]
  rfl

/-- R27, R33: an item not under evaluation gives its quote's reference back, and its slot takes another content, not QUOTED. -/
theorem ReferencesCounted.replaceItem {s : State} (h : ReferencesCounted s) {p : PositionId} {k : Slot} {i : Item}
    (hi : s.item p k = some i) (hr : i.state ≠ .rating) {o : Option Item} (ho : ∀ j, o = some j → j.state ≠ .quoted) :
    ReferencesCounted ((s.releaseQuote i).setItem p k o) := by
  rw [referencesCounted_iff] at h ⊢
  obtain ⟨t, ht⟩ := State.transaction_of_item hi
  have ht' : ((s.releaseQuote i).ctx p).transaction = some t := by rw [State.releaseQuote_eq]; exact ht
  have hw := h.write p k (sheetEntry o) (sheetEntry_not_quoted ho) fun op ev he hne hp hk => by
    obtain ⟨quote, hq⟩ := (h.evaluated op ev he).2 hne
    rw [hp, hk, State.sheet_of_item hi] at hq
    exact absurd (congrArg Prod.fst (Option.some.inj hq)) hr
  rw [State.sheet_setItem ht', State.releaseQuote_sheet, State.setItem_evaluator, State.bank_congr (State.setItem_tariffs _ _ _ _)]
  have hev : (s.releaseQuote i).evaluator = s.evaluator := by rw [State.releaseQuote_eq]
  rw [hev]
  refine hw.settle fun b => ?_
  rw [State.releaseQuote_bank, Nat.zero_add, State.sheet, entryClaim_sheetEntry, hi, Option.bind_some]
  exact Bank.lessRefs_givenBack _ _

/-- R33: an item without a claim, not under evaluation, is replaced by another that is not QUOTED. -/
theorem ReferencesCounted.setItem {s : State} (h : ReferencesCounted s) {p : PositionId} {k : Slot} {i : Item}
    (hi : s.item p k = some i) (hr : i.state ≠ .rating) (hq : i.state ≠ .quoted) {o : Option Item}
    (ho : ∀ j, o = some j → j.state ≠ .quoted) : ReferencesCounted (s.setItem p k o) := by
  have hclaim : i.claim = none := by
    rw [Option.eq_none_iff_forall_not_mem]
    exact fun b hb => hq ((Item.claim_eq_some_iff i b).mp hb).1
  have h' := h.replaceItem hi hr ho
  rwa [State.releaseQuote, hclaim] at h'

/-- R34, R36: the item takes a state other than QUOTED and loses its quote. -/
theorem ReferencesCounted.requote {s : State} (h : ReferencesCounted s) (p : PositionId) (k : Slot) {st : ItemState}
    (hst : st ≠ .quoted) (hr : ∀ i, s.item p k = some i → i.state ≠ .rating) : ReferencesCounted (s.requote p k st) := by
  unfold State.requote
  split
  · next i hi => exact h.replaceItem hi (hr i hi) fun j hj => by cases hj; exact hst
  · exact h

/-! ### The end of a weigh, of a rating, and the forced detach -/

theorem Item.weighEnded_state (status : Reason) (reading : Nat) (i : Item) : (i.weighEnded status reading).state ≠ .quoted := by
  unfold Item.weighEnded
  split
  · simp
  · dsimp only; split <;> simp

/-- R35, R56, R57. -/
theorem ReferencesCounted.finishWeigh {s : State} (h : ReferencesCounted s) (p : PositionId) (k : Slot) (status : Reason) (reading : Nat) :
    ReferencesCounted (s.finishWeigh p k status reading) := by
  have happly : ReferencesCounted (s.applyWeighEnd p k status reading) := by
    unfold State.applyWeighEnd
    split
    · next i hi =>
      split
      · next hw => exact h.setItem hi (by simp [hw]) (by simp [hw]) fun j hj => by cases hj; exact Item.weighEnded_state _ _ _
      · exact h
    · exact h
  unfold State.finishWeigh
  generalize s.applyWeighEnd p k status reading = s1 at happly ⊢
  exact ((SameRefs.setCtx_transaction (c := { s1.ctx p with weigh := none }) rfl).trans
    (State.handCompletion_sameRefs _ _ _)).counted happly

/-- R57. -/
theorem ReferencesCounted.endWeigh {s : State} (h : ReferencesCounted s) (c : ChannelId) (status : Reason) (reading : Nat) :
    ReferencesCounted (s.endWeigh c status reading) := by
  unfold State.endWeigh
  split
  · exact ReferencesCounted.finishWeigh (s := s.setChannel c (s.channel c).freed) h _ _ _ _
  · exact h

/-- R37: the return of an item that no evaluation which still counts stands at. -/
theorem Balanced.returnItem {owed : BankId → Nat} {s : State} {bank : BankId → Bank} {e : EvaluatorState}
    (h : Balanced owed s.sheet bank e) (p : PositionId) (k : Slot)
    (he : ∀ op ev, e = .evaluating op ev → op.position = p → ev.halt = some .abandoned) :
    Balanced owed (s.returnItem p k).sheet bank e := by
  unfold State.returnItem
  split
  · next i hi =>
    split
    · next hst =>
      obtain ⟨t, ht⟩ := State.transaction_of_item hi
      rw [State.sheet_setItem ht]
      have hw := h.write p k (sheetEntry (some { i with state := .weighed, quote := none })) (by simp [sheetEntry])
        fun op ev hev hne hp _ => absurd (he op ev hev hp) hne
      have hclaim : entryClaim (s.sheet p k) = none := by
        rw [State.sheet_of_item hi]
        rcases hst with hst | hst <;> rw [hst] <;> rfl
      simpa only [hclaim, reduceCtorEq, if_false, Nat.add_zero] using hw
    · exact h
  · exact h

theorem State.returnItem_tariffs (p : PositionId) (k : Slot) (s : State) : (s.returnItem p k).tariffs = s.tariffs := by
  obtain ⟨ps, h⟩ := State.returnItem_shape p k s
  rw [h]

/-- R87, R102: an operation ends at its slot: what was owed is given back by `bank'`. -/
theorem ReferencesCounted.endRating {owed : BankId → Nat} {s : State} {bank : BankId → Bank} (h : Balanced owed s.sheet bank .idle)
    (hback : ∀ b, (bank b).GivenBack (owed b) (s.bank b)) (op : Operation) (status : Reason) :
    ReferencesCounted (s.endRating op status) := by
  refine (State.handRateDone_sameRefs _ _ _ _).counted ((referencesCounted_iff _).mpr ?_)
  have hr := h.returnItem op.position op.slot fun _ _ he => nomatch he
  refine hr.settle fun b => ?_
  rw [show ((s.returnItem op.position op.slot).setEvaluatorState .idle).bank = s.bank from
    State.bank_congr (State.returnItem_tariffs _ _ s)]
  exact hback b

/-- R103: what the abandonment of a position's rating makes of the evaluator state keeps the balance, and leaves no evaluation of the position that counts. -/
theorem Balanced.abandon {f : Sheet} {bank : BankId → Bank} {e : Evaluator} (h : Balanced (fun _ => 0) f bank e.state) (p : PositionId) :
    Balanced (fun _ => 0) f bank (e.abandon p).state ∧
      ∀ op ev, (e.abandon p).state = .evaluating op ev → op.position = p → ev.halt = some .abandoned := by
  obtain ⟨queue, state⟩ := e
  cases state with
  | idle => exact ⟨h, fun _ _ he => by cases he⟩
  | chaining op =>
    simp only [Evaluator.abandon]
    split
    · exact ⟨h.endEvaluation (e' := .idle) (fun _ _ he => by cases he), fun _ _ he => by cases he⟩
    · exact ⟨h, fun _ _ he => by cases he⟩
  | evaluating op ev =>
    simp only [Evaluator.abandon]
    split
    · exact ⟨h.stepEvaluation rfl rfl fun hne => absurd rfl hne, fun _ _ he _ => by cases he; rfl⟩
    · next hp => exact ⟨h, fun _ _ he hpos => by cases he; exact absurd hpos hp⟩

/-- R14: the forced detach gives the references of the position's quotes back. -/
theorem ReferencesCounted.forcedDetach {s : State} (h : ReferencesCounted s) (p : PositionId) :
    ReferencesCounted (s.forcedDetach p) := by
  unfold State.forcedDetach
  split
  · rw [referencesCounted_iff] at h ⊢
    obtain ⟨hab, hhalt⟩ := h.abandon p
    have hclear := hab.clear p hhalt
    dsimp only
    rw [State.sheet_setCtx, PositionContext.sheet_closed rfl]
    split
    · next t ht =>
      rw [State.sheet_of_transaction ht, funext (slotClaims_transaction t)] at hclear
      obtain ⟨ts, hts⟩ := State.releaseAll_shape t
        { s with channels := tbuild 8 fun c => (s.channel c).dropOwner p, evaluator := s.evaluator.abandon p }
      have hbank := fun b => State.releaseAll_bank t b
        { s with channels := tbuild 8 fun c => (s.channel c).dropOwner p, evaluator := s.evaluator.abandon p }
      rw [hts] at hbank ⊢
      exact hclear.settle fun b => (hbank b) ▸ Bank.lessRefs_givenBack _ _
    · next ht =>
      rw [State.sheet_closed ht, funext slotClaims_none] at hclear
      exact hclear
  · exact h

end Sys2Proof.Machine
end

section
/-! SUPPORT. The bank references under the tariff store's own operations: activation, the grace timers and their expiry, and the rebuilding from the store. -/

namespace Sys2Proof.Machine

/-- R38: under the balance every quote on a bank carries the bank's generation, so that the stale mark reaches all of them. -/
theorem Balanced.onGeneration {owed : BankId → Nat} {s : State} {e : EvaluatorState} (h : Balanced owed s.sheet s.bank e)
    {p : PositionId} {k : Slot} {i : Item} (hi : s.item p k = some i) (b : BankId) :
    i.onGeneration b (s.bank b).generation = decide (i.claim = some b) := by
  rw [Item.onGeneration_eq, Bool.eq_iff_iff, decide_eq_true_iff, Item.claim_eq_some_iff, Bool.and_eq_true, decide_eq_true_iff]
  refine and_congr_right fun hst => ?_
  rw [Option.any_eq_true]
  refine exists_congr fun q => and_congr_right fun hq => ?_
  rw [decide_eq_true_iff, and_iff_left_iff_imp]
  rintro rfl
  obtain ⟨q', hq', hholds⟩ := h.quoted p k (some q) (by rw [State.sheet_of_item hi, hst, hq])
  cases hq'
  exact hholds.2.symm

theorem State.item_ctx {s : State} {p : PositionId} {t : Transaction} (ht : (s.ctx p).transaction = some t) {k : Slot} {i : Item}
    (hi : tget t k = some i) : s.item p k = some i := (State.item_of_transaction ht k).trans hi

/-- R38: the stale mark at one entry of the sheet. -/
theorem Item.markStale_entry {b : BankId} {g : Option Word16} {o : Option Item}
    (h : ∀ i, o = some i → i.onGeneration b g = decide (i.claim = some b)) :
    sheetEntry (o.map (Item.markStale b g)) = staleEntry b (sheetEntry o) := by
  cases o with
  | none => rfl
  | some i =>
    simp only [staleEntry, entryClaim_sheetEntry, Option.bind_some, Option.map_some, Item.markStale, h i rfl, decide_eq_true_iff]
    split <;> rfl

/-- R38: how many items of a position the stale mark reaches. -/
theorem PositionContext.claims_eq {b : BankId} {g : Option Word16} {c : PositionContext}
    (h : ∀ t k i, c.transaction = some t → tget t k = some i → i.onGeneration b g = decide (i.claim = some b)) :
    c.claims b g = slotClaims c.sheet b := by
  unfold PositionContext.claims
  split
  · next t ht =>
    rw [PositionContext.sheet_of_transaction ht, slotClaims_transaction, quotesOf_eq, countP_toList, countP_toList]
    refine Finset.sum_congr rfl fun k _ => if_congr ?_ rfl rfl
    cases hk : tget t k with
    | none => rfl
    | some i => rw [Option.any_some, Option.any_some, h t k i ht hk]
  · next ht => rw [PositionContext.sheet_closed ht, slotClaims_none]

/-- R104: the expiry notice at the evaluator keeps the balance. -/
theorem Balanced.notice {owed : BankId → Nat} {f : Sheet} {bank : BankId → Bank} {e : Evaluator} (h : Balanced owed f bank e.state)
    (b : BankId) (g : Option Word16) : Balanced owed f bank (e.notice b g).state := by
  obtain ⟨queue, state⟩ := e
  cases state with
  | idle => exact h
  | chaining op => exact h
  | evaluating op ev =>
    simp only [Evaluator.notice]
    split
    · next hn =>
      refine ⟨h.counted, h.quoted, fun op' ev' heq => ?_, h.generation, h.retiring, h.single⟩
      cases heq
      obtain ⟨hholds, hitem⟩ := h.evaluated op ev rfl
      exact ⟨hholds, fun _ => hitem (by simp [hn.2.2])⟩
    · exact h

theorem Bank.release_givenBack (n : Nat) (bk : Bank) (timer : GraceTimer) :
    bk.GivenBack n (Bank.release n { bk with graceTimer := timer }) := by
  unfold Bank.release
  split
  · next h => exact .inl ⟨h.1, Nat.sub_eq_zero_iff_le.mp h.2, rfl⟩
  · exact .inr ⟨rfl, rfl, rfl⟩

/-- R38, R104, R119. -/
theorem ReferencesCounted.expireGrace {s : State} (h : ReferencesCounted s) (b : BankId) : ReferencesCounted (s.expireGrace b) := by
  rw [referencesCounted_iff] at h ⊢
  have hgen : ∀ p t k i, (s.ctx p).transaction = some t → tget t k = some i →
      i.onGeneration b (s.bank b).generation = decide (i.claim = some b) := fun p t k i ht hi => h.onGeneration (State.item_ctx ht hi) b
  have hsheet : (s.expireGrace b).sheet = fun p k => staleEntry b (s.sheet p k) := by
    funext p k
    rw [State.sheet_eq, State.sheet_eq]
    have hctx : (s.expireGrace b).ctx p = (s.ctx p).markStale b (s.bank b).generation := by
      simp only [State.expireGrace, State.ctx, State.setBank_positions, tget_tbuild]
    rw [hctx]
    cases ht : (s.ctx p).transaction with
    | none =>
      rw [PositionContext.sheet_closed ht, PositionContext.sheet_closed (by rw [PositionContext.markStale_eq, ht]; rfl)]
      rfl
    | some t =>
      rw [PositionContext.sheet_of_transaction ht,
        PositionContext.sheet_of_transaction (t := t.map fun o => o.map (Item.markStale b (s.bank b).generation))
          (by rw [PositionContext.markStale_eq, ht]; rfl)]
      dsimp only
      rw [tget_map]
      exact Item.markStale_entry fun i hi => hgen p t k i ht hi
  have hn : (s.positions.toList.map (PositionContext.claims b (s.bank b).generation)).sum = s.sheet.claims b := by
    rw [sum_toList_map]
    refine Finset.sum_congr rfl fun p _ => ?_
    rw [State.sheet_eq]
    exact PositionContext.claims_eq fun t k i => hgen p t k i
  have hev : (s.expireGrace b).evaluator = s.evaluator.notice b (s.bank b).generation := by
    rw [State.expireGrace, State.setBank_evaluator]
  rw [hsheet, hev]
  refine ((h.stale b).notice b _).settle fun c => ?_
  rw [State.expireGrace, State.setBank_bank, hn]
  split
  · next hc => rw [hc]; exact Bank.release_givenBack _ _ _
  · cases c <;> exact .inr ⟨rfl, rfl, rfl⟩

/-- R113 to R115: the activation of a LOADED bank. -/
theorem ReferencesCounted.activate {s : State} (h : ReferencesCounted s) {b : BankId} (hb : (s.bank b).state = .loaded) :
    ReferencesCounted (s.activate b) := by
  have h1 : ReferencesCounted
      (((s.setBank b { s.bank b with state := .active }).setBank b.other
        ((s.bank b.other).superseded ((s.bank b).grace.getD 0) (s.bank b).effective)).saveTariffs) := by
    rw [referencesCounted_iff] at h ⊢
    cases b with
    | A => exact h.activate .A hb rfl (Bank.superseded_as _ _ _)
    | B => exact h.activate .B hb rfl (Bank.superseded_as _ _ _)
  unfold State.activate
  dsimp only
  split
  · exact h1.expireGrace _
  · exact h1

/-- R118. -/
theorem ReferencesCounted.tickGrace {s : State} (h : ReferencesCounted s) (b : BankId) : ReferencesCounted (s.tickGrace b) := by
  unfold State.tickGrace
  split
  · split
    · exact h.expireGrace b
    · rw [referencesCounted_iff] at h ⊢
      cases b <;> exact h.settle fun c => by cases c <;> exact .inr ⟨rfl, rfl, rfl⟩
  · exact h

/-- R106, R108 to R112: a bank that nothing may refer to is replaced by another such bank, without references. -/
theorem ReferencesCounted.setBank {s : State} (h : ReferencesCounted s) {b : BankId} {bk : Bank}
    (hold : (s.bank b).state ≠ .active ∧ (s.bank b).state ≠ .retiring) (hnew : bk.state ≠ .active ∧ bk.state ≠ .retiring)
    (hrefs : bk.refs = 0 ∨ bk.refs = (s.bank b).refs) (hgen : bk.state = .loaded → bk.generation.isSome = true) :
    ReferencesCounted (s.setBank b bk) := by
  rw [referencesCounted_iff] at h ⊢
  cases b with
  | A => exact h.setBank .A hold hnew hrefs hgen rfl
  | B => exact h.setBank .B hold hnew hrefs hgen rfl

/-- R123, R124: a bank that the store keeps comes back in its state with its generation, without references; any other is blank. -/
theorem Bank.rebuilt_keptOf (bk : Bank) :
    (Bank.rebuilt (keptOf bk)).refs = 0 ∧
      ((Bank.rebuilt (keptOf bk)).state = .empty ∨
        ((Bank.rebuilt (keptOf bk)).state = .loaded ∨ (Bank.rebuilt (keptOf bk)).state = .active) ∧
          (Bank.rebuilt (keptOf bk)).state = bk.state ∧ (Bank.rebuilt (keptOf bk)).generation = bk.generation) := by
  unfold keptOf
  split
  · next h => rcases h with h | h <;> simp [Bank.rebuilt, h]
  · exact ⟨rfl, .inl rfl⟩

/-- R123, R177: a module rebuilt from a store that matched it has no items and no evaluation, and its banks are LOADED, ACTIVE or blank. -/
theorem ReferencesCounted.rebuild {s : State} (h : ReferencesCounted s) (hA : s.nvs.bankA = keptOf s.tariffs.bankA)
    (hB : s.nvs.bankB = keptOf s.tariffs.bankB) : ReferencesCounted s.rebuild := by
  rw [referencesCounted_iff] at h ⊢
  have hbank : ∀ b, s.rebuild.bank b = Bank.rebuilt (keptOf (s.bank b)) := fun b => by
    cases b
    · exact congrArg Bank.rebuilt hA
    · exact congrArg Bank.rebuilt hB
  have hsheet : s.rebuild.sheet = fun _ _ => none := by
    funext p
    refine State.sheet_closed ?_
    rw [State.ctx, State.rebuild, tget_tbuild]
    rfl
  have hstate : ∀ b, (s.rebuild.bank b).state ≠ .empty →
      ((s.rebuild.bank b).state = .loaded ∨ (s.rebuild.bank b).state = .active) ∧
        (s.rebuild.bank b).state = (s.bank b).state ∧ (s.rebuild.bank b).generation = (s.bank b).generation := fun b hb => by
    rw [hbank b] at hb ⊢
    exact (Bank.rebuilt_keptOf (s.bank b)).2.resolve_left hb
  rw [hsheet]
  refine ⟨fun b => ?_, fun p k quote hq => (by cases hq), fun op ev he => (by cases he), fun b hb => ?_, fun b hb => ?_,
    fun ⟨hactA, hactB⟩ => ?_⟩
  · have hnone : Sheet.claims (fun _ _ => none) b = 0 := Finset.sum_eq_zero fun p _ => slotClaims_none b
    rw [hbank b, (Bank.rebuilt_keptOf _).1, hnone]
    rfl
  · obtain ⟨-, hs, hg⟩ := hstate b (by rcases hb with hb | hb | hb <;> simp [hb])
    rw [hg]
    exact h.generation b (hs ▸ hb)
  · obtain ⟨hs, -⟩ := hstate b (by simp [hb])
    rw [hb] at hs
    simp at hs
  · obtain ⟨-, hsA, -⟩ := hstate .A (by simp [hactA])
    obtain ⟨-, hsB, -⟩ := hstate .B (by simp [hactB])
    exact h.single ⟨hsA ▸ hactA, hsB ▸ hactB⟩

end Sys2Proof.Machine
end

section
/-! SUPPORT. The bank references under each command: what every meaning needs of the state it starts from, and that it keeps the count. -/

namespace Sys2Proof.Machine

/-- What the commands need for the references to stay counted: no transaction in ATTACHED (R23), at most one place in the rating work to a position, with its rating marked (R78), and the count itself (R116). -/
def RefsReady (s : State) : Prop :=
  (∀ p, (s.ctx p).state = .attached → (s.ctx p).transaction = none) ∧
    (∀ p, s.ratingsOf p ≤ if (s.ctx p).rating then 1 else 0) ∧ ReferencesCounted s

theorem RefsReady.counted {s : State} (h : RefsReady s) : ReferencesCounted s := h.2.2

/-- R78: an evaluation that is not abandoned marks its position's rating in flight. -/
theorem RefsReady.rating_of_evaluating {s : State} (h : RefsReady s) {op : Operation} {ev : Evaluation}
    (he : s.evaluator.state = .evaluating op ev) (hne : ev.halt ≠ some .abandoned) : (s.ctx op.position).rating = true := by
  have hone := h.2.1 op.position
  have hpos : 1 ≤ s.ratingsOf op.position := by
    simp only [State.ratingsOf, he, hne, ne_eq, not_false_eq_true, and_self, if_true]
    omega
  by_contra hr
  rw [if_neg hr] at hone
  omega

/-- R78: a position with an entry in the queue has no evaluation that counts. -/
theorem abandoned_of_queued {s : State} {p : PositionId} (h : s.ratingsOf p ≤ 1) {op : Operation} (hop : op ∈ s.evaluator.queue)
    (hp : op.position = p) (op' : Operation) (ev : Evaluation) (he : s.evaluator.state = .evaluating op' ev) (hp' : op'.position = p) :
    ev.halt = some .abandoned := by
  by_contra hne
  have hq : 0 < s.evaluator.queue.countP fun o => decide (o.position = p) := List.countP_pos_iff.mpr ⟨op, hop, by simp [hp]⟩
  simp only [State.ratingsOf, he, hp', hne, ne_eq, not_false_eq_true, and_self, if_true] at h
  omega

/-! ### Taking a request or a command -/

theorem running_counted {f : State → State} {s u : State} (h : RefsReady s) (hf : ∀ s, RefsReady s → ReferencesCounted (f s))
    (hu : s.running f = .next u) : ReferencesCounted u := by
  by_cases hp : s.power = .running
  · rw [State.running_on f s hp] at hu
    cases hu
    exact hf _ h
  · rw [State.running_off f s hp] at hu
    cases hu
    exact h.counted

theorem request_counted {α : Type} (form : RequestForm α) (p : PositionId) (tag : Byte) (payload : List Byte)
    (serve : α → State → State × Answer) (hserve : ∀ a s, RefsReady s → ReferencesCounted (serve a s).1) (s : State)
    (h : RefsReady s) : ReferencesCounted (s.request form p tag payload serve) := by
  unfold State.request
  split
  · next s1 h1 =>
    have hs1 : RefsReady s1 := by
      unfold State.takeRequest at h1
      split at h1
      · split at h1
        · cases h1; exact h
        · cases h1
      · cases h1
    change ReferencesCounted (s1.judge form p payload serve).1
    unfold State.judge
    split
    · exact hs1.counted
    · split
      · exact hs1.counted
      · next a _ =>
        split
        · exact hs1.counted
        · split
          · exact hserve a s1 hs1
          · split
            · exact hs1.counted
            · exact hserve a s1 hs1
  · exact h.counted

theorem command_counted {α : Type} (code : Byte) (read : List Byte → Option α) (tag : Byte) (payload : List Byte)
    (serve : α → State → State × OfficeAnswer) (hserve : ∀ a s, RefsReady s → ReferencesCounted (serve a s).1) (s : State)
    (h : RefsReady s) : ReferencesCounted (s.command code read tag payload serve) := by
  unfold State.command
  split
  · next s1 h1 =>
    have hs1 : RefsReady s1 := by
      unfold State.takeCommand at h1
      split at h1
      · split at h1
        · cases h1; exact h
        · cases h1
      · cases h1
    split
    · next a _ => exact hserve a s1 hs1
    · exact hs1.counted
  · exact h.counted

/-! ### Positions and lines -/

/-- A context written back with its transaction. -/
theorem ReferencesCounted.setCtx {s : State} (h : ReferencesCounted s) {p : PositionId} {c : PositionContext}
    (hc : c.transaction = (s.ctx p).transaction) : ReferencesCounted (s.setCtx p c) := (SameRefs.setCtx_transaction hc).counted h

theorem lineDown_counted (p : PositionId) (s : State) (h : RefsReady s) : ReferencesCounted (s.lineDown p) := by
  have h0 : ReferencesCounted { s with ports := tset s.ports p .quiet } := h.counted
  have h1 : ReferencesCounted (State.setCtx p { s.ctx p with linePresent := false } { s with ports := tset s.ports p .quiet }) :=
    h0.setCtx rfl
  exact (h1.forcedDetach p).setCtx rfl

theorem receivePosition_counted (p : PositionId) (bytes : List Byte) (s : State) (h : RefsReady s) :
    ReferencesCounted (s.receivePosition p bytes) := by
  obtain ⟨ports, hs⟩ := State.receivePosition_shape p bytes s
  rw [hs]
  exact h.counted

theorem serveAttach_counted (p : PositionId) (x : AccountId × Fin 16) (s : State) (h : RefsReady s) :
    ReferencesCounted (serveAttach p x s).1 := by
  unfold serveAttach
  dsimp only
  split
  · exact h.counted
  · split
    · exact h.counted
    · split
      · exact h.counted
      · exact h.counted.setCtx rfl

theorem serveDetach_counted (p : PositionId) (x : Unit) (s : State) (h : RefsReady s) : ReferencesCounted (serveDetach p x s).1 := by
  unfold serveDetach
  split
  · exact (h.counted.forcedDetach p).setCtx rfl
  · exact h.counted

theorem serveCollect_counted (p : PositionId) (x : Unit) (s : State) (h : RefsReady s) : ReferencesCounted (serveCollect p x s).1 := by
  unfold serveCollect
  split
  · exact h.counted.setCtx rfl
  · exact h.counted

theorem servePosition_counted (x : PositionId × PositionConfig) (s : State) (h : RefsReady s) :
    ReferencesCounted (servePosition x s).1 := by
  unfold servePosition
  split
  · exact h.counted
  · dsimp only
    have h1 : ReferencesCounted (if (s.ctx x.1).config.enabled ∧ x.2.enabled = false then s.forcedDetach x.1 else s) := by
      split
      · exact h.counted.forcedDetach x.1
      · exact h.counted
    exact h1.setCtx (p := x.1) (c := PositionContext.configured x.2 _) rfl

/-! ### Transactions and items -/

theorem serveBegin_counted (p : PositionId) (x : Unit) (s : State) (h : RefsReady s) : ReferencesCounted (serveBegin p x s).1 := by
  unfold serveBegin
  split
  · next hst =>
    refine (SameRefs.setCtx (s := s) (funext fun k => ?_)).counted h.counted
    rw [PositionContext.sheet_closed (h.1 p hst), PositionContext.sheet_of_transaction rfl]
    simp [emptyTransaction, sheetEntry]
  · exact h.counted

theorem serveAdd_counted (p : PositionId) (x : Unit) (s : State) (h : RefsReady s) : ReferencesCounted (serveAdd p x s).1 := by
  unfold serveAdd
  split
  · next k hk =>
    have hempty : s.item p k = none := by simpa using List.find?_some hk
    have hcounted := h.counted
    cases ht : (s.ctx p).transaction with
    | none => simpa only [State.setItem, ht] using hcounted
    | some t =>
      rw [referencesCounted_iff] at hcounted ⊢
      have hentry : s.sheet p k = none := congrArg sheetEntry hempty
      have hw := hcounted.write p k (sheetEntry (some .fresh)) (by simp [sheetEntry, Item.fresh]) fun op ev he hne hp hk => by
        obtain ⟨quote, hq⟩ := (hcounted.evaluated op ev he).2 hne
        rw [hp, hk, hentry] at hq
        cases hq
      rw [hentry] at hw
      dsimp only
      rwa [State.sheet_setItem ht, State.setItem_evaluator, State.bank_congr (State.setItem_tariffs _ _ _ _)]
  · exact h.counted

theorem ItemState.ne_rating_of_free {st : ItemState} (h : st.free = true) : st ≠ .rating := by
  rintro rfl; cases h

theorem ItemState.ne_rating_of_fit {st : ItemState} (h : st.fit = true) : st ≠ .rating := by
  rintro rfl; cases h

theorem serveAmend_counted (p : PositionId) (m : Amendment) (s : State) (h : RefsReady s) : ReferencesCounted (serveAmend p m s).1 := by
  unfold serveAmend
  split
  · next i hi =>
    split
    · exact h.counted
    · next hfree =>
      have hr : i.state ≠ .rating := ItemState.ne_rating_of_free (by simpa using hfree)
      split
      · exact h.counted
      · split
        · exact h.counted.replaceItem hi hr fun j hj => by cases hj; simp
        · next hq =>
          rw [not_or] at hq
          exact h.counted.setItem hi hr hq.1 fun j hj => by cases hj; exact hq.1
  · exact h.counted

theorem serveDrop_counted (p : PositionId) (k : Slot) (s : State) (h : RefsReady s) : ReferencesCounted (serveDrop p k s).1 := by
  unfold serveDrop
  split
  · next i hi =>
    split
    · next hfree => exact h.counted.replaceItem hi (ItemState.ne_rating_of_free hfree) fun j hj => by cases hj
    · exact h.counted
  · exact h.counted

theorem serveDetail_counted (p : PositionId) (k : Slot) (s : State) (h : RefsReady s) : ReferencesCounted (serveDetail p k s).1 := by
  unfold serveDetail
  split <;> exact h.counted

theorem serveFinish_counted (p : PositionId) (x : Nat × Nat) (s : State) (h : RefsReady s) : ReferencesCounted (serveFinish p x s).1 := by
  unfold serveFinish
  split
  · next t ht =>
    split
    · exact h.counted
    · next hbusy =>
      dsimp only
      split
      · have hcounted := h.counted
        rw [referencesCounted_iff] at hcounted ⊢
        have hclear := hcounted.clear p fun op ev he hp => by
          by_contra hne
          have hrating := h.rating_of_evaluating he hne
          rw [hp] at hrating
          exact hbusy (.inr hrating)
        rw [State.sheet_of_transaction ht, funext (slotClaims_transaction t)] at hclear
        obtain ⟨ts, hts⟩ := State.releaseAll_shape t s
        have hbank := fun b => State.releaseAll_bank t b s
        dsimp only
        rw [State.sheet_setCtx, PositionContext.sheet_closed rfl]
        rw [hts] at hbank ⊢
        exact hclear.settle fun b => hbank b ▸ Bank.lessRefs_givenBack _ _
      · exact h.counted
  · exact h.counted

end Sys2Proof.Machine
end

section
/-! SUPPORT. The bank references under the commands of the scales, the rating, the acceptance and the label spool. -/

namespace Sys2Proof.Machine

/-! ### Weighing and scales -/

theorem serveWeigh_counted (p : PositionId) (k : Slot) (s : State) (h : RefsReady s) : ReferencesCounted (serveWeigh p k s).1 := by
  unfold serveWeigh
  split
  · exact h.counted
  · exact h.counted
  · next c i _ hi =>
    dsimp only
    split
    · exact h.counted
    · next hfree =>
      have hstart : ReferencesCounted (s.startWeigh p k) :=
        (h.counted.requote p k (st := .weighing) (by simp) fun j hj => by
          rw [hi] at hj; cases hj; exact ItemState.ne_rating_of_free (by simpa using hfree)).setCtx rfl
      split
      · exact h.counted
      · split
        · exact h.counted
        · split
          · exact h.counted
          · split
            · exact h.counted
            · unfold State.takeWeigh
              dsimp only
              split
              · exact hstart.finishWeigh _ _ _ _
              · exact hstart

theorem serveZero_counted (p : PositionId) (x : Unit) (s : State) (h : RefsReady s) : ReferencesCounted (serveZero p x s).1 := by
  obtain ⟨cs, hcs⟩ : ∃ cs, (serveZero p x s).1 = { s with channels := cs } := by
    unfold serveZero
    split
    · exact ⟨_, rfl⟩
    · dsimp only
      split
      · exact ⟨_, rfl⟩
      · split
        · exact ⟨_, rfl⟩
        · split
          · exact ⟨_, rfl⟩
          · split
            · split <;> exact ⟨_, rfl⟩
            · exact ⟨_, rfl⟩
  rw [hcs]
  exact h.counted

theorem ReferencesCounted.takeArrival {s : State} (h : ReferencesCounted s) (c : ChannelId) (a : Arrival) :
    ReferencesCounted (s.takeArrival c a) := by
  unfold State.takeArrival
  dsimp only
  split
  · exact h
  · exact h
  · exact h
  · split
    · exact ReferencesCounted.endWeigh (s := s.setChannel c (s.channel c).failed) h c _ _
    · exact h

theorem receiveSamples_counted (c : ChannelId) (bytes : List Byte) (s : State) (h : RefsReady s) :
    ReferencesCounted (s.receiveSamples c bytes) := by
  have hfold : ∀ (l : List Arrival) (u : State), ReferencesCounted u → ReferencesCounted (l.foldl (State.takeArrival c) u) := by
    intro l
    induction l with
    | nil => exact fun u hu => hu
    | cons a l ih => exact fun u hu => ih _ (hu.takeArrival c a)
  exact hfold _ _ h.counted

theorem settle_counted (c : ChannelId) (s : State) (h : RefsReady s) : ReferencesCounted (s.settle c) := by
  unfold State.settle
  dsimp only
  split
  · split
    · exact ReferencesCounted.endWeigh (s := s.setChannel c { s.channel c with state := .stable, settleTimer := none }) h.counted _ _ _
    · exact h.counted
  · exact h.counted

theorem weighTimer_counted (c : ChannelId) (s : State) (h : RefsReady s) :
    ReferencesCounted (if (s.channel c).weighTimer.isSome then s.endWeigh c .unstable 0 else s) := by
  split
  · exact h.counted.endWeigh _ _ _
  · exact h.counted

theorem serveScale_counted (x : ChannelId × ScaleConfig) (s : State) (h : RefsReady s) : ReferencesCounted (serveScale x s).1 :=
  ReferencesCounted.endWeigh (s := (s.setChannel x.1 ((s.channel x.1).configured x.2)).saveChannel x.1) h.counted _ _ _

/-! ### Rating -/

theorem serveRate_counted (p : PositionId) (x : Slot × Scope) (s : State) (h : RefsReady s) : ReferencesCounted (serveRate p x s).1 := by
  unfold serveRate
  split
  · exact h.counted
  · next i hi =>
    split
    · exact h.counted
    · next hfit =>
      have htake : ReferencesCounted (s.takeRate p x.1 x.2) := by
        have h1 : ReferencesCounted (s.requote p x.1 .rateQueued) := h.counted.requote p x.1 (by simp) fun j hj => by
          rw [hi] at hj; cases hj; exact ItemState.ne_rating_of_fit (by simpa using hfit)
        have h2 := h1.setCtx (p := p) (c := { (s.requote p x.1 .rateQueued).ctx p with rating := true }) rfl
        exact h2
      split
      · exact h.counted
      · split
        · exact h.counted
        · split
          · exact h.counted
          · split
            · exact h.counted
            · exact htake

/-- R82: the bank in force is ACTIVE, and its generation is the one it is answered with. -/
theorem State.inForce_active {s : State} {b : BankId} {g : Word16} (h : s.inForce = some (b, g)) :
    (s.bank b).state = .active ∧ g = (s.bank b).generation.getD 0 := by
  unfold State.inForce at h
  split at h
  · next hA => cases h; exact ⟨hA, rfl⟩
  · split at h
    · next hB => cases h; exact ⟨hB, rfl⟩
    · cases h

theorem startEvaluation_counted (s : State) (h : RefsReady s) : ReferencesCounted s.startEvaluation := by
  have hcounted := (referencesCounted_iff s).mp h.counted
  unfold State.startEvaluation
  split
  · next op rest hidle _ =>
    have h1 : ReferencesCounted { s with evaluator := { s.evaluator with queue := rest } } := h.counted
    generalize hs1 : ({ s with evaluator := { s.evaluator with queue := rest } } : State) = s1 at h1
    have hidle1 : s1.evaluator.state = .idle := by rw [← hs1]; exact hidle
    have hb1 := (referencesCounted_iff s1).mp h1
    rw [hidle1] at hb1
    dsimp only
    split
    · next i hi =>
      split
      · next hst =>
        split
        · next b g hg =>
          obtain ⟨hact, rfl⟩ := State.inForce_active hg
          obtain ⟨t, ht⟩ := State.transaction_of_item hi
          obtain ⟨g, hgen⟩ := Option.isSome_iff_exists.mp (hb1.generation b (.inr (.inl hact)))
          rw [referencesCounted_iff]
          have hclaim : entryClaim (s1.sheet op.position op.slot) = none := by rw [State.sheet_of_item hi, hst]; rfl
          have hsheet : (s1.reference b).sheet = s1.sheet := by cases b <;> rfl
          have ht' : ((s1.reference b).ctx op.position).transaction = some t := by
            rw [State.reference, State.ctx, State.setBank_positions]; exact ht
          have hstart := hb1.start (bank' := (s1.reference b).bank) (fun _ _ he => by cases he) op
            (.begun b ((s1.bank b).generation.getD 0) s.flags i) (State.setBank_bank_self _ _ _) (State.setBank_bank_other _ _ _)
            ⟨.inl hact, show (s1.bank b).generation = some ((s1.bank b).generation.getD 0) by rw [hgen]; rfl⟩ hclaim i.quote
          rw [← hsheet, ← State.bank_congr (State.setItem_tariffs op.position op.slot (some { i with state := .rating }) _)] at hstart
          have hwrite := State.sheet_setItem ht' op.slot (some { i with state := .rating })
          change Balanced _ ((s1.reference b).setItem op.position op.slot (some { i with state := .rating })).sheet _ _
          rw [hwrite]
          exact hstart
        · exact ReferencesCounted.endRating hb1 (fun b => .inr ⟨rfl, rfl, rfl⟩) _ _
      · exact h1
    · exact h1
  · exact h.counted

/-- R116: the reference of an evaluation is given back on its bank alone. -/
theorem State.release_givenBack (op : Operation) (ev : Evaluation) (s : State) (b : BankId) :
    (s.bank b).GivenBack ((EvaluatorState.evaluating op ev).claims b) ((s.release ev.bank).bank b) := by
  rw [State.release_bank]
  by_cases hb : b = ev.bank
  · rw [if_pos hb, hb, EvaluatorState.claims_evaluating]
    exact Bank.lessRefs_givenBack _ _
  · rw [if_neg hb]
    have hz : (EvaluatorState.evaluating op ev).claims b = 0 := if_neg (Ne.symm hb)
    exact .inr ⟨by rw [hz]; rfl, rfl, rfl⟩

theorem State.release_sheet (b : BankId) (s : State) : (s.release b).sheet = s.sheet := by
  rw [State.release_eq]
  rfl

/-- R87, R102: an evaluation that ends without a quote gives its reference back. -/
theorem ReferencesCounted.endEvaluation {s : State} (h : ReferencesCounted s) {op : Operation} {ev : Evaluation}
    (he : s.evaluator.state = .evaluating op ev) (status : Reason) : ReferencesCounted ((s.release ev.bank).endRating op status) := by
  rw [referencesCounted_iff, he] at h
  have hend := h.endEvaluation (e' := .idle) fun _ _ he => by cases he
  rw [← State.release_sheet ev.bank s] at hend
  exact ReferencesCounted.endRating hend (State.release_givenBack op ev s) op status

/-- R83, R101 to R104: the evaluation goes on. -/
theorem ReferencesCounted.stepEvaluation {s : State} (h : ReferencesCounted s) {op : Operation} {ev ev' : Evaluation}
    (he : s.evaluator.state = .evaluating op ev) (hb : ev'.bank = ev.bank) (hg : ev'.generation = ev.generation)
    (hh : ev'.halt ≠ some .abandoned → ev.halt ≠ some .abandoned) :
    ReferencesCounted (s.setEvaluatorState (.evaluating op ev')) := by
  rw [referencesCounted_iff, he] at h
  exact (referencesCounted_iff _).mpr (h.stepEvaluation hb hg hh)

theorem checkStep_counted (s : State) (h : RefsReady s) : ReferencesCounted s.checkStep := by
  unfold State.checkStep
  split
  · next op ev he =>
    split
    · next hh _ =>
      split
      · exact h.counted.stepEvaluation he rfl rfl fun hne => hne
      · exact h.counted.endEvaluation he _
    · exact h.counted
  · exact h.counted
  · exact h.counted

/-- R94: a term changes neither the bank and the generation of an evaluation nor its halt reason. -/
theorem Evaluation.takeTerm_keeps (t : RateTerm) (k : Nat) (w : Working) (ev : Evaluation) :
    (ev.takeTerm t k w).bank = ev.bank ∧ (ev.takeTerm t k w).generation = ev.generation ∧ (ev.takeTerm t k w).halt = ev.halt := by
  unfold Evaluation.takeTerm
  dsimp only
  split <;> exact ⟨rfl, rfl, rfl⟩

theorem termStep_counted (s : State) (h : RefsReady s) : ReferencesCounted s.termStep := by
  unfold State.termStep
  split
  · next op ev he =>
    split
    · next k w _ _ =>
      obtain ⟨hb, hg, hh⟩ := Evaluation.takeTerm_keeps (termOf (s.bank ev.bank).image ev.facts.service.val k) k w ev
      exact h.counted.stepEvaluation he hb hg fun hne => hh ▸ hne
    · exact h.counted
  · exact h.counted
  · exact h.counted

theorem deliveryStep_counted (s : State) (h : RefsReady s) : ReferencesCounted s.deliveryStep := by
  unfold State.deliveryStep
  split
  · next op ev he =>
    split
    · next w hhalt _ =>
      dsimp only
      generalize hq : ev.quote (s.bank ev.bank).image w = q
      have hcounted := (referencesCounted_iff s).mp h.counted
      rw [he] at hcounted
      have hne : ev.halt ≠ some .abandoned := by rw [hhalt]; simp
      obtain ⟨-, -, heval, -⟩ := h.counted
      obtain ⟨i, hi, hst⟩ := (heval op ev he).2 hne
      obtain ⟨t, ht⟩ := State.transaction_of_item hi
      have hstore : s.storeQuote op.position op.slot q =
          s.setItem op.position op.slot (some { i with state := .quoted, quote := some q }) := by
        simp only [State.storeQuote, hi, if_pos hst]
      have hstored : ∀ e' : EvaluatorState, (∀ o v, e' ≠ .evaluating o v) →
          ReferencesCounted ((s.storeQuote op.position op.slot q).setEvaluatorState e') := by
        intro e' he'
        have hdel := hcounted.deliver hne he' q (by rw [← hq]; rfl) (by rw [← hq]; rfl)
        rw [hstore, referencesCounted_iff]
        have hsheet := State.sheet_setItem ht op.slot (some { i with state := .quoted, quote := some q })
        change Balanced _ (s.setItem op.position op.slot (some { i with state := .quoted, quote := some q })).sheet _ _
        rw [hsheet]
        rw [← State.bank_congr (State.setItem_tariffs op.position op.slot (some { i with state := .quoted, quote := some q }) s)] at hdel
        exact hdel
      split
      · exact hstored _ fun _ _ he => by cases he
      · exact (State.handRateDone_sameRefs _ _ _ _).counted (hstored .idle fun _ _ he => by cases he)
    · exact h.counted
  · exact h.counted
  · exact h.counted

theorem chainStep_counted (s : State) (h : RefsReady s) : ReferencesCounted s.chainStep := by
  unfold State.chainStep
  split
  · next op he =>
    dsimp only
    have hidle : ∀ u : State, ReferencesCounted u → u.evaluator.state = .chaining op → ReferencesCounted (u.setEvaluatorState .idle) :=
      fun u hu hue => (referencesCounted_iff _).mpr
        (((hue ▸ (referencesCounted_iff u).mp hu).endEvaluation (e' := .idle) fun _ _ he => by cases he))
    split
    · next hk =>
      have hreq : ReferencesCounted (s.requote op.position (slotAfter op.slot) .rateQueued) :=
        h.counted.requote _ _ (by simp) fun i hi => by
          rw [hi] at hk; exact ItemState.ne_rating_of_fit hk.2
      refine hidle _ hreq ?_
      obtain ⟨ts, ps, hs⟩ := State.requote_shape op.position (slotAfter op.slot) .rateQueued s
      rw [hs]; exact he
    · exact (State.handRateDone_sameRefs _ _ _ _).counted (hidle s h.counted he)
  · exact h.counted
  · exact h.counted

theorem haltEvaluation_counted (s : State) (h : RefsReady s) : ReferencesCounted s.haltEvaluation := by
  unfold State.haltEvaluation
  split
  · next op ev he =>
    split
    · exact h.counted.endEvaluation he _
    · exact h.counted.endEvaluation he _
    · have hcounted := (referencesCounted_iff s).mp h.counted
      rw [he] at hcounted
      have hend := hcounted.endEvaluation (e' := .idle) fun _ _ he => by cases he
      rw [← State.release_sheet ev.bank s] at hend
      exact (referencesCounted_iff _).mpr (hend.settle (State.release_givenBack op ev s))
    · exact h.counted
  · exact h.counted
  · exact h.counted

/-! ### CANCEL -/

theorem cancelWeigh_counted (p : PositionId) (target : Option Slot) (s : State) (h : ReferencesCounted s) :
    ReferencesCounted (s.cancelWeigh p target).1 ∧ (s.cancelWeigh p target).1.evaluator = s.evaluator := by
  unfold State.cancelWeigh
  split
  · next c _ _ =>
    split
    · obtain ⟨cs, ps, se, hs⟩ := State.endWeigh_shape c .cancelled 0 s
      exact ⟨h.endWeigh _ _ _, by rw [hs]⟩
    · exact ⟨h, rfl⟩
  · exact ⟨h, rfl⟩

/-- R101, R102: a cancelled entry's item is not under an evaluation that counts, since its position has one place in the rating work. -/
theorem cancelOperation_counted (p : PositionId) (target : Option Slot) (s : State) (h : ReferencesCounted s)
    (hone : s.ratingsOf p ≤ 1) : ReferencesCounted (s.cancelOperation p target) := by
  unfold State.cancelOperation
  split
  · next op hop =>
    have hp : op.position = p := by
      have := List.find?_some hop
      simp only [Bool.and_eq_true, decide_eq_true_iff] at this
      exact this.1
    refine (State.handRateDone_sameRefs _ _ _ _).counted ((referencesCounted_iff _).mpr ?_)
    generalize hs1 : ({ s with evaluator := { s.evaluator with
      queue := s.evaluator.queue.eraseP fun op => decide (op.position = p) && targets target op.slot } } : State) = s1
    have h1 : Balanced (fun _ => 0) s1.sheet s1.bank s.evaluator.state := by
      subst hs1; exact (referencesCounted_iff s).mp h
    have hr := h1.returnItem p op.slot fun op' ev he hp' =>
      abandoned_of_queued hone (List.mem_of_find?_eq_some hop) hp op' ev he hp'
    obtain ⟨ps, hps⟩ := State.returnItem_shape p op.slot s1
    have hev : (s1.returnItem p op.slot).evaluator.state = s.evaluator.state := by rw [hps]; subst hs1; rfl
    rwa [State.bank_congr (State.returnItem_tariffs _ _ s1), hev]
  · split
    · next op ev he =>
      split
      · next hc =>
        exact h.stepEvaluation he rfl rfl fun _ => by simp [hc.2.2]
      · exact h
    · next op he =>
      split
      · refine (State.handRateDone_sameRefs _ _ _ _).counted ((referencesCounted_iff _).mpr ?_)
        exact ((he ▸ (referencesCounted_iff s).mp h).endEvaluation (e' := .idle) fun _ _ he => by cases he)
      · exact h
    · exact h

theorem serveCancel_counted (p : PositionId) (target : Option Slot) (s : State) (h : RefsReady s) :
    ReferencesCounted (serveCancel p target s).1 := by
  obtain ⟨hw, hev⟩ := cancelWeigh_counted p target s h.counted
  unfold serveCancel
  dsimp only
  split
  · refine cancelOperation_counted p target _ hw ?_
    have hone : s.ratingsOf p ≤ 1 := (h.2.1 p).trans (by split <;> omega)
    rwa [State.ratingsOf, hev]
  · exact hw

/-! ### Acceptance, void and labels -/

theorem serveAccept_counted (p : PositionId) (k : Slot) (s : State) (h : RefsReady s) : ReferencesCounted (serveAccept p k s).1 := by
  unfold serveAccept
  split
  · exact h.counted
  · split
    · exact h.counted
    · split
      · exact h.counted
      · next i hi =>
        split
        · exact h.counted
        · split
          · exact h.counted
          · next hq =>
            have hquoted : i.state = .quoted := not_not.mp hq
            have haccept : ∀ a l office serial q, ReferencesCounted (s.acceptItem p k a l office serial i q) := by
              intro a l office serial q
              unfold State.acceptItem
              dsimp only
              refine (State.queueJob_sameRefs _ _ _).counted ?_
              generalize hs3 : State.appendEntry a (.accept (saleOf p (itemNumber office serial) i q))
                (State.saveAllocator { s.updateAccount a ((s.account a).debited q.postage) with
                  allocator := (s.updateAccount a ((s.account a).debited q.postage)).allocator.taken }) = s3
              have h3 : ReferencesCounted s3 := by
                subst hs3
                exact (((State.updateAccount_sameRefs _ _ s).trans (State.saveAllocator_sameRefs _ _)).trans
                  (State.appendEntry_sameRefs _ _ _)).counted h.counted
              have hi3 : s3.item p k = some i := by subst hs3; exact hi
              exact h3.replaceItem hi3 (by simp [hquoted]) fun j hj => by cases hj; simp [Item.acceptedAs]
            split
            · unfold State.acceptChecked
              dsimp only
              split
              · exact h.counted
              · split
                · exact h.counted
                · split
                  · exact h.counted
                  · split
                    · split
                      · exact h.counted
                      · split
                        · exact h.counted
                        · split
                          · exact h.counted
                          · exact haccept _ _ _ _ _
                    · exact h.counted
            · exact h.counted

theorem serveVoid_counted (p : PositionId) (k : Slot) (s : State) (h : RefsReady s) : ReferencesCounted (serveVoid p k s).1 := by
  unfold serveVoid
  split
  · exact h.counted
  · split
    · exact h.counted
    · next i hi =>
      split
      · exact h.counted
      · next hacc =>
        have haccepted : i.state = .accepted := not_not.mp hacc
        have hvoid : ∀ a num q, ReferencesCounted (s.voidItem p k a num i q) := by
          intro a num q
          unfold State.voidItem
          dsimp only
          generalize hs2 : State.appendEntry a (.void (saleOf p num i q))
            (s.updateAccount a ((s.account a).refundedBy q.postage)) = s2
          have h2 : ReferencesCounted s2 := by
            subst hs2
            exact ((State.updateAccount_sameRefs _ _ s).trans (State.appendEntry_sameRefs _ _ _)).counted h.counted
          have hsheet : s2.sheet p k = some (.accepted, i.quote) := by
            subst hs2; exact haccepted ▸ State.sheet_of_item hi
          have hw := State.withdrawJob_sameRefs num s2
          rw [← hw.1] at hsheet
          obtain ⟨j, hj, hentry⟩ := Option.map_eq_some_iff.mp hsheet
          have hst : j.state = .accepted := congrArg Prod.fst hentry
          exact (hw.counted h2).setItem hj (by simp [hst]) (by simp [hst]) fun o ho => by cases ho; simp [Item.voidedWith]
        split
        · dsimp only
          split
          · exact h.counted
          · split
            · exact h.counted
            · split
              · exact h.counted
              · exact hvoid _ _ _
        · exact h.counted

theorem SameRefs.takePrinterAnswer (l : PrinterId) (a : PrinterAnswer) (s : State) : SameRefs s (s.takePrinterAnswer l a) := by
  cases a with
  | done n =>
    simp only [State.takePrinterAnswer, State.takeDone]
    split
    · exact State.finishHead_sameRefs l s
    · exact .refl s
  | fault n reason =>
    simp only [State.takePrinterAnswer, State.takeFault]
    split
    · split
      · exact State.returnHead_sameRefs _ _ _
      · exact .refl s
    · exact ⟨rfl, rfl, rfl⟩
    · exact ⟨rfl, rfl, rfl⟩
    · exact .refl s
  | ready =>
    simp only [State.takePrinterAnswer, State.takeReady]
    split
    · exact SameRefs.trans ⟨rfl, rfl, rfl⟩ (State.sendHead_sameRefs _ _)
    · exact (State.returnHead_sameRefs _ _ _).trans (State.sendHead_sameRefs _ _)
    · exact .refl s
    · exact .refl s

theorem receiveAnswers_counted (l : PrinterId) (bytes : List Byte) (s : State) (h : RefsReady s) :
    ReferencesCounted (s.receiveAnswers l bytes) := by
  have hfold : ∀ (answers : List PrinterAnswer) (u : State), SameRefs u (answers.foldl (State.takePrinterAnswer l) u) := by
    intro answers
    induction answers with
    | nil => exact .refl
    | cons a answers ih => exact fun u => (SameRefs.takePrinterAnswer l a u).trans (ih _)
  exact (hfold _ _).counted (s := { s with printerLines := _ }) h.counted

theorem printTimeout_counted (l : PrinterId) (s : State) (h : RefsReady s) :
    ReferencesCounted (if (s.printer l).state = .printing ∧ (s.printer l).timer.isSome then s.returnHead l (.faulted .timeout) else s) := by
  split
  · exact (State.returnHead_sameRefs _ _ _).counted h.counted
  · exact h.counted

theorem SameRefs.setEnabled (l : PrinterId) (enabled : Bool) (s : State) : SameRefs s (s.setEnabled l enabled) := by
  unfold State.setEnabled
  split
  · exact State.returnHead_sameRefs _ _ _
  · exact ⟨rfl, rfl, rfl⟩
  · exact ⟨rfl, rfl, rfl⟩
  · exact .refl s
  · exact SameRefs.trans ⟨rfl, rfl, rfl⟩ (State.sendHead_sameRefs _ _)
  · exact .refl s
  · exact .refl s
  · exact .refl s

theorem servePrinter_counted (x : PrinterId × Bool) (s : State) (h : RefsReady s) : ReferencesCounted (servePrinter x s).1 :=
  (SameRefs.setEnabled _ _ _).counted
    (s := (s.setPrinter x.1 { s.printer x.1 with enabled := x.2 }).savePrinter x.1) h.counted

theorem serveRedirect_counted (x : PrinterId × PrinterId) (s : State) (h : RefsReady s) : ReferencesCounted (serveRedirect x s).1 := by
  unfold serveRedirect
  dsimp only
  split
  · exact h.counted
  · split
    · exact h.counted
    · split
      · exact h.counted
      · refine SameRefs.counted (SameRefs.trans ?_ (State.sendHead_sameRefs _ _)) h.counted
        refine SameRefs.trans ?_ (State.reportMoved_sameRefs _ _)
        exact (((State.setPrinter_sameRefs _ _ s).trans (State.setPrinter_sameRefs _ _ _)).trans
          (State.saveQueue_sameRefs _ _)).trans (State.saveQueue_sameRefs _ _)

end Sys2Proof.Machine
end

section
/-! SUPPORT. The bank references under the commands of the office, the tariff store, start-up and the supply. -/

namespace Sys2Proof.Machine

/-! ### Office commands that leave the references alone -/

theorem serveTime_counted (x : Word32) (s : State) (h : RefsReady s) : ReferencesCounted (serveTime x s).1 := h.counted

theorem serveFlags_counted (x : List FlagAction) (s : State) (h : RefsReady s) : ReferencesCounted (serveFlags x s).1 := by
  unfold serveFlags
  dsimp only
  split <;> exact h.counted

theorem serveAccount_counted (x : AccountChange) (s : State) (h : RefsReady s) : ReferencesCounted (serveAccount x s).1 := by
  unfold serveAccount
  dsimp only
  split <;> exact h.counted

theorem serveCredit_counted (x : AccountId × Nat) (s : State) (h : RefsReady s) : ReferencesCounted (serveCredit x s).1 := by
  unfold serveCredit
  dsimp only
  split
  · exact h.counted
  · split
    · exact h.counted
    · split
      · exact h.counted
      · split <;> exact h.counted

theorem serveBlock_counted (x : Nat × Nat) (s : State) (h : RefsReady s) : ReferencesCounted (serveBlock x s).1 := by
  unfold serveBlock
  dsimp only
  split
  · exact h.counted
  · split
    · exact h.counted
    · split <;> exact h.counted

theorem serveJournalRelease_counted (x : Word32) (s : State) (h : RefsReady s) : ReferencesCounted (serveJournalRelease x s).1 := by
  unfold serveJournalRelease
  dsimp only
  split <;> exact h.counted

theorem serveRestart_counted (x : Option Nat) (s : State) (h : RefsReady s) : ReferencesCounted (serveRestart x s).1 := by
  unfold serveRestart
  split
  · exact h.counted
  · exact h.counted
  · split <;> exact h.counted

/-! ### The tariff store -/

theorem State.loadingBank_loading {s : State} {b : BankId} (h : s.loadingBank = some b) : (s.bank b).state = .loading := by
  unfold State.loadingBank at h
  split at h
  · next hA => cases h; exact hA
  · split at h
    · next hB => cases h; exact hB
    · cases h

theorem State.emptyBank_empty {s : State} {b : BankId} (h : s.emptyBank = some b) : (s.bank b).state = .empty := by
  unfold State.emptyBank at h
  split at h
  · next hA => cases h; exact hA
  · split at h
    · next hB => cases h; exact hB
    · cases h

/-- R110 to R112: a bank that nothing refers to becomes EMPTY. -/
theorem ReferencesCounted.blankBank {s : State} (h : ReferencesCounted s) {b : BankId}
    (hb : (s.bank b).state ≠ .active ∧ (s.bank b).state ≠ .retiring) : ReferencesCounted (s.setBank b .blank) :=
  h.setBank hb (by simp [Bank.blank]) (.inl rfl) (by simp [Bank.blank])

theorem serveLoadBegin_counted (x : LoadDeclaration) (s : State) (h : RefsReady s) : ReferencesCounted (serveLoadBegin x s).1 := by
  unfold serveLoadBegin
  split
  · exact h.counted
  · split
    · next b hb =>
      exact h.counted.setBank (by simp [State.emptyBank_empty hb]) (by simp [Bank.loadingOf]) (.inl rfl) (by simp [Bank.loadingOf])
    · exact h.counted

theorem serveLoadPart_counted (x : Nat × List Byte) (s : State) (h : RefsReady s) : ReferencesCounted (serveLoadPart x s).1 := by
  unfold serveLoadPart
  split
  · exact h.counted
  · next b hb =>
    have hl := State.loadingBank_loading hb
    dsimp only
    split_ifs
    · exact h.counted
    · exact h.counted
    · exact h.counted.setBank (b := b) (by simp [hl]) (by simp [hl]) (.inr rfl) (by simp [hl])

/-- R107, R111: the bank of an admitted image is LOADED. -/
theorem State.admitImage_loaded (b : BankId) (s : State) : ((s.admitImage b).bank b).state = .loaded := by
  cases b <;> rfl

theorem ReferencesCounted.admitImage {s : State} (h : ReferencesCounted s) {b : BankId} (hb : (s.bank b).state = .loading) :
    ReferencesCounted (s.admitImage b) := by
  have h1 := h.setBank (b := b) (bk := (s.bank b).loadedWith (s.tariffs.counter + 1)) (by simp [hb]) (by simp [Bank.loadedWith])
    (.inr rfl) (fun _ => rfl)
  rw [referencesCounted_iff] at h1 ⊢
  have hbank : (s.admitImage b).bank = (s.setBank b ((s.bank b).loadedWith (s.tariffs.counter + 1))).bank := by
    funext c
    cases c <;> rfl
  rw [hbank]
  exact h1

theorem serveLoadEnd_counted (x : Unit) (s : State) (h : RefsReady s) : ReferencesCounted (serveLoadEnd x s).1 := by
  unfold serveLoadEnd
  split
  · exact h.counted
  · next b hb =>
    have hl := State.loadingBank_loading hb
    split
    · exact h.counted.blankBank (by simp [hl])
    · dsimp only
      split
      · exact (h.counted.admitImage hl).activate (State.admitImage_loaded b s)
      · exact h.counted.admitImage hl

theorem serveLoadAbandon_counted (b : BankId) (s : State) (h : RefsReady s) : ReferencesCounted (serveLoadAbandon b s).1 := by
  unfold serveLoadAbandon
  split
  · next hb => exact h.counted.blankBank (by simp [hb])
  · next hb => exact h.counted.blankBank (b := b) (by simp [hb])
  · exact h.counted
  · exact h.counted
  · exact h.counted

theorem serveActivate_counted (b : BankId) (s : State) (h : RefsReady s) : ReferencesCounted (serveActivate b s).1 := by
  unfold serveActivate
  split
  · next hb => exact h.counted.activate hb
  · exact h.counted

theorem Bank.due_loaded {now : Word32} {bk : Bank} (h : bk.due now = true) : bk.state = .loaded := by
  unfold Bank.due at h
  exact of_decide_eq_true (Bool.and_eq_true_iff.mp h).1

/-- R113: the bank that a tick activates is LOADED. -/
theorem State.dueBank_loaded {s : State} {b : BankId} (h : s.dueBank = some b) : (s.bank b).state = .loaded := by
  unfold State.dueBank at h
  split at h
  · cases h
  · split at h
    · next hA _ => cases h; exact Bank.due_loaded hA
    · next _ hB => cases h; exact Bank.due_loaded hB
    · cases h
    · next hA hB =>
      cases b
      · exact Bank.due_loaded hA
      · exact Bank.due_loaded hB

theorem tickTariffs_counted (s : State) (h : RefsReady s) : ReferencesCounted s.tickTariffs := by
  have h1 := (h.counted.tickGrace .A).tickGrace .B
  unfold State.tickTariffs
  dsimp only
  split
  · next b hb => exact h1.activate (State.dueBank_loaded hb)
  · exact h1

theorem graceExpiry_counted (b : BankId) (s : State) (h : RefsReady s) {u : State} (hu : execGraceExpiry b s = .next u) :
    ReferencesCounted u := by
  refine running_counted h (fun s h => ?_) hu
  split
  · exact h.counted.expireGrace b
  · exact h.counted

theorem loadIdle_counted (b : BankId) (s : State) (h : RefsReady s) :
    ReferencesCounted (if (s.bank b).state = .loading ∧ (s.bank b).idleTimer.isSome then s.setBank b .blank else s) := by
  split
  · next hb => exact h.counted.blankBank (by simp [hb.1])
  · exact h.counted

theorem unknownRequest_counted (p : PositionId) (code tag : Byte) (payload : List Byte) (s : State) (h : RefsReady s) {u : State}
    (hu : execUnknownRequestCode p code tag payload s = .next u) : ReferencesCounted u := by
  refine running_counted h (fun s h => ?_) hu
  split
  · exact h.counted
  · exact request_counted _ p tag payload _ nofun s h

theorem unknownCommand_counted (code tag : Byte) (payload : List Byte) (s : State) (h : RefsReady s) {u : State}
    (hu : execUnknownCommandCode code tag payload s = .next u) : ReferencesCounted u := by
  refine running_counted h (fun s h => ?_) hu
  split
  · exact h.counted
  · exact command_counted _ _ tag payload _ nofun s h

/-! ### Every command -/

/-- R106, R116: every command keeps the references counted, when the store holds the banks. -/
theorem exec_counted {s u : State} (h : RefsReady s) (hA : s.nvs.bankA = keptOf s.tariffs.bankA)
    (hB : s.nvs.bankB = keptOf s.tariffs.bankB) (c : Instr) (hu : exec c s = .next u) : ReferencesCounted u := by
  have hsame : ReferencesCounted s := h.counted
  have hrebuild : ReferencesCounted s.rebuild := h.counted.rebuild hA hB
  cases c with
  | linkUp p => exact running_counted (f := fun s => s.setCtx p (s.ctx p).lineUp) h (fun s h => h.counted.setCtx rfl) hu
  | linkDown p => exact running_counted h (lineDown_counted p) hu
  | positionFrameReceived p bytes => exact running_counted h (receivePosition_counted p bytes) hu
  | attach p tag payload => exact running_counted h (request_counted _ p tag payload _ (serveAttach_counted p)) hu
  | detach p tag payload => exact running_counted h (request_counted _ p tag payload _ (serveDetach_counted p)) hu
  | beginTransaction p tag payload => exact running_counted h (request_counted _ p tag payload _ (serveBegin_counted p)) hu
  | add p tag payload => exact running_counted h (request_counted _ p tag payload _ (serveAdd_counted p)) hu
  | amend p tag payload => exact running_counted h (request_counted _ p tag payload _ (serveAmend_counted p)) hu
  | drop p tag payload => exact running_counted h (request_counted _ p tag payload _ (serveDrop_counted p)) hu
  | weigh p tag payload => exact running_counted h (request_counted _ p tag payload _ (serveWeigh_counted p)) hu
  | zero p tag payload => exact running_counted h (request_counted _ p tag payload _ (serveZero_counted p)) hu
  | rate p tag payload => exact running_counted h (request_counted _ p tag payload _ (serveRate_counted p)) hu
  | detail p tag payload => exact running_counted h (request_counted _ p tag payload _ (serveDetail_counted p)) hu
  | accept p tag payload => exact running_counted h (request_counted _ p tag payload _ (serveAccept_counted p)) hu
  | void p tag payload => exact running_counted h (request_counted _ p tag payload _ (serveVoid_counted p)) hu
  | cancel p tag payload => exact running_counted h (request_counted _ p tag payload _ (serveCancel_counted p)) hu
  | collect p tag payload => exact running_counted h (request_counted _ p tag payload _ (serveCollect_counted p)) hu
  | finish p tag payload => exact running_counted h (request_counted _ p tag payload _ (serveFinish_counted p)) hu
  | query p tag payload => exact running_counted h (request_counted _ p tag payload _ fun _ _ h => h.counted) hu
  | sampleFrame c bytes => exact running_counted h (receiveSamples_counted c bytes) hu
  | settleTimerExpiry c => exact running_counted h (settle_counted c) hu
  | weighTimerExpiry c => exact running_counted h (weighTimer_counted c) hu
  | evaluationStart => exact running_counted h startEvaluation_counted hu
  | checkStep => exact running_counted h checkStep_counted hu
  | termStep => exact running_counted h termStep_counted hu
  | deliveryStep => exact running_counted h deliveryStep_counted hu
  | chainStep => exact running_counted h chainStep_counted hu
  | evaluationHalt => exact running_counted h haltEvaluation_counted hu
  | officeFrameReceived input => exact running_counted (f := State.receiveOffice input) h (fun s h => h.counted) hu
  | status tag payload => exact running_counted h (command_counted _ _ tag payload _ fun _ _ h => h.counted) hu
  | time tag payload => exact running_counted h (command_counted _ _ tag payload _ serveTime_counted) hu
  | flags tag payload => exact running_counted h (command_counted _ _ tag payload _ serveFlags_counted) hu
  | position tag payload => exact running_counted h (command_counted _ _ tag payload _ servePosition_counted) hu
  | scale tag payload => exact running_counted h (command_counted _ _ tag payload _ serveScale_counted) hu
  | printer tag payload => exact running_counted h (command_counted _ _ tag payload _ servePrinter_counted) hu
  | redirect tag payload => exact running_counted h (command_counted _ _ tag payload _ serveRedirect_counted) hu
  | account tag payload => exact running_counted h (command_counted _ _ tag payload _ serveAccount_counted) hu
  | credit tag payload => exact running_counted h (command_counted _ _ tag payload _ serveCredit_counted) hu
  | block tag payload => exact running_counted h (command_counted _ _ tag payload _ serveBlock_counted) hu
  | loadBegin tag payload => exact running_counted h (command_counted _ _ tag payload _ serveLoadBegin_counted) hu
  | loadPart tag payload => exact running_counted h (command_counted _ _ tag payload _ serveLoadPart_counted) hu
  | loadEnd tag payload => exact running_counted h (command_counted _ _ tag payload _ serveLoadEnd_counted) hu
  | loadAbandon tag payload => exact running_counted h (command_counted _ _ tag payload _ serveLoadAbandon_counted) hu
  | activate tag payload => exact running_counted h (command_counted _ _ tag payload _ serveActivate_counted) hu
  | journalRead tag payload => exact running_counted h (command_counted _ _ tag payload _ fun _ _ h => h.counted) hu
  | journalRelease tag payload => exact running_counted h (command_counted _ _ tag payload _ serveJournalRelease_counted) hu
  | restart tag payload => exact running_counted h (command_counted _ _ tag payload _ serveRestart_counted) hu
  | restartRebuild =>
    simp only [exec, execRestartRebuild] at hu
    split at hu
    · cases hu
      exact (State.sendHeads_sameRefs _).counted (s := { s.rebuild with power := .running, sent := [] }) hrebuild
    · cases hu; exact hsame
  | powerOn kept =>
    cases hu
    exact (State.sendHeads_sameRefs _).counted
      (s := { s.rebuild with power := .running, supply := .normal, clock := s.clock.afterPower kept, sent := [] }) hrebuild
  | supplyFailure => cases hu; exact hrebuild
  | supplySample microvolts => cases hu; exact hsame
  | tick => exact running_counted (s := { s with clock := s.clock.advanced }) h tickTariffs_counted hu
  | graceExpiry b => exact graceExpiry_counted b s h hu
  | loadIdleTimeout b => exact running_counted h (loadIdle_counted b) hu
  | printerDone l noise n reason check => exact running_counted h (receiveAnswers_counted l _) hu
  | printerFault l noise n reason check => exact running_counted h (receiveAnswers_counted l _) hu
  | printerReady l noise n reason check => exact running_counted h (receiveAnswers_counted l _) hu
  | printTimeout l => exact running_counted h (printTimeout_counted l) hu
  | unknownRequestCode p code tag payload => exact unknownRequest_counted p code tag payload s h hu
  | unknownCommandCode code tag payload => exact unknownCommand_counted code tag payload s h hu

end Sys2Proof.Machine
end

section
/-! ANSWERS. The bank references stay counted (O56). -/

namespace Sys2Proof.Machine

/-- Settles O56: the premises make the state ready for every command, and each command keeps the count. -/
theorem referencesStayCounted : Obligations.ReferencesStayCounted := by
  intro s u hlegal hstore hwork hcounted hstep
  have hready : RefsReady s := by
    refine ⟨fun p hp => ?_, fun p => ?_, hcounted⟩
    · obtain ⟨⟨htransaction, -⟩, -⟩ := hlegal.1 p
      have hnone : ¬(s.ctx p).transaction.isSome = true := fun hsome => by
        have := htransaction.mp hsome
        rw [hp] at this
        cases this
      simpa using hnone
    · obtain ⟨-, -, -, hratings⟩ := hwork.1 p
      exact hratings
  obtain ⟨-, -, -, -, hA, hB, -⟩ := hstore
  unfold step at hstep
  split at hstep
  · next c rest _ => exact exec_counted (s := { s with pending := rest }) hready hA hB c hstep
  · cases hstep; exact hcounted

end Sys2Proof.Machine
end

section
/-! ANSWERS. The evaluator's start, delivery and chain steps (O25, O28, O29). -/

namespace Sys2Proof.Machine

/-! ### Start -/

/-- R82: the bank that alone is ACTIVE is in force. -/
theorem State.inForce_eq_some {s : State} {b : BankId} {g : Word16} (hb : (s.bank b).state = .active)
    (ho : (s.bank b.other).state ≠ .active) (hg : (s.bank b).generation = some g) : s.inForce = some (b, g) := by
  cases b with
  | A =>
    change s.tariffs.bankA.state = .active at hb
    change s.tariffs.bankA.generation = some g at hg
    simp only [State.inForce, hb, hg, if_true, Option.getD_some]
  | B =>
    change s.tariffs.bankB.state = .active at hb
    change s.tariffs.bankA.state ≠ .active at ho
    change s.tariffs.bankB.generation = some g at hg
    simp only [State.inForce, hb, ho, hg, if_true, if_false, Option.getD_some]

theorem State.inForce_eq_none {s : State} (h : ∀ b, (s.bank b).state ≠ .active) : s.inForce = none := by
  have hA : s.tariffs.bankA.state ≠ .active := h .A
  have hB : s.tariffs.bankB.state ≠ .active := h .B
  simp only [State.inForce, hA, hB, if_false]

/-- R82: the start with a bank in force. -/
theorem State.startEvaluation_inForce {s : State} {op : Operation} {behind : List Operation} {t : Transaction} {i : Item} {b : BankId}
    {g : Word16} (he : s.evaluator = { queue := op :: behind, state := .idle }) (ht : (s.ctx op.position).transaction = some t)
    (hi : tget t op.slot = some i) (hst : i.state = .rateQueued) (hf : s.inForce = some (b, g)) :
    s.startEvaluation =
      { s with
        tariffs := (s.reference b).tariffs
        positions :=
          tset s.positions op.position
            { s.ctx op.position with transaction := some (tset t op.slot (some { i with state := .rating })) }
        evaluator := { queue := behind, state := .evaluating op (.begun b g s.flags i) } } := by
  have hitem : State.item { s with evaluator := { s.evaluator with queue := behind } } op.position op.slot = some i :=
    (State.item_of_transaction ht op.slot).trans hi
  have hforce : State.inForce { s with evaluator := { s.evaluator with queue := behind } } = some (b, g) := hf
  unfold State.startEvaluation
  simp only [he] at hitem hforce ⊢
  simp only [hitem, hforce, if_pos hst]
  have hset : ∀ u : State, u.ctx op.position = s.ctx op.position →
      u.setItem op.position op.slot (some { i with state := .rating }) =
        u.setCtx op.position
          { s.ctx op.position with transaction := some (tset t op.slot (some { i with state := .rating })) } := fun u hu => by
    rw [State.setItem_of_transaction (t := t) (by rw [hu]; exact ht), hu]
  cases b <;> rw [hset (State.reference _ _) rfl] <;> rfl

/-- R82, R87: the start without a bank in force. -/
theorem State.startEvaluation_noTariff {s : State} {op : Operation} {behind : List Operation} {i : Item}
    (he : s.evaluator = { queue := op :: behind, state := .idle }) (hi : s.item op.position op.slot = some i)
    (hst : i.state = .rateQueued) (hf : s.inForce = none) :
    s.startEvaluation = State.endRating op .noTariff { s with evaluator := { queue := behind, state := .idle } } := by
  have hitem : State.item { s with evaluator := { s.evaluator with queue := behind } } op.position op.slot = some i := hi
  have hforce : State.inForce { s with evaluator := { s.evaluator with queue := behind } } = none := hf
  unfold State.startEvaluation
  simp only [he] at hitem hforce ⊢
  simp only [hitem, hforce, if_pos hst]

/-- Settles O25, by whether a bank is in force. -/
theorem evaluationStarts : Obligations.EvaluationStarts := by
  intro op behind t i s hp he hst ht hi hq
  refine ⟨fun b g hb ho hg => ?_, fun hno => ?_⟩
  · refine (State.running_on _ s hp).trans (congrArg _ ?_)
    refine (State.startEvaluation_inForce (s := { s with sent := [] }) he ht hi hq
      (State.inForce_eq_some (s := s) hb ho hg)).trans ?_
    cases b <;> rfl
  · refine (State.running_on _ s hp).trans (congrArg _ ?_)
    refine (State.startEvaluation_noTariff (s := { s with sent := [] }) he ((State.item_of_transaction ht _).trans hi) hq
      (State.inForce_eq_none (s := s) hno)).trans ?_
    exact State.endRating_eq (s := { s with evaluator := { queue := behind, state := .idle }, sent := [] }) .noTariff hst ht hi (.inl hq)

/-! ### Delivery step -/

/-- A field of one byte. -/
theorem numAt_one (bytes : List Byte) (k : Nat) : numAt bytes k 1 = (imgByte bytes k).toNat := by
  unfold numAt imgByte
  induction bytes generalizing k with
  | nil => cases k <;> rfl
  | cons b bs ih =>
    cases k with
    | zero => simp [leNat]
    | succ k => simpa using ih k

/-- R69, R96: the postage before the ceiling, by the rounding byte of the schedule. -/
theorem roundedPostage_scheduleOf (img : List Byte) (n : Nat) (accumulator : Int) :
    let granule := numAt img (scheduleOffset n + 16) 1
    let rounding := numAt img (scheduleOffset n + 2) 1
    let g := granule * 100
    let price := accumulator.toNat
    roundedPostage (scheduleOf img n) accumulator =
      if accumulator ≤ 0 then 0
      else if rounding = 0 then (price + g - 1) / g * granule
      else if rounding = 1 then (price + g / 2) / g * granule
      else if rounding = 2 then price / g * granule
      else Config.unknownRounding accumulator granule * granule := by
  have hbyte : ∀ m : Nat, m < 256 → ((imgByte img (scheduleOffset n + 2)).toNat = m ↔
      imgByte img (scheduleOffset n + 2) = BitVec.ofNat 8 m) := fun m hm => by
    rw [← BitVec.toNat_inj, BitVec.toNat_ofNat, Nat.mod_eq_of_lt hm]
  have hround : (scheduleOf img n).rounding = readRounding (imgByte img (scheduleOffset n + 2)) := rfl
  have hgranule : (scheduleOf img n).granule = (imgByte img (scheduleOffset n + 16)).toNat := rfl
  dsimp only
  simp only [numAt_one, hbyte 0 (by decide), hbyte 1 (by decide), hbyte 2 (by decide), roundedPostage, hround, hgranule, readRounding]
  generalize imgByte img (scheduleOffset n + 2) = rounding
  by_cases h0 : rounding = 0#8
  · simp [h0, roundGranules, ceilDiv]
  by_cases h1 : rounding = 1#8
  · simp [h1, roundGranules]
  by_cases h2 : rounding = 2#8
  · simp [h2, roundGranules]
  · simp [h0, h1, h2]

/-- R37: a quote stored in a RATING item. -/
theorem State.storeQuote_eq {p : PositionId} {k : Slot} {t : Transaction} {i : Item} {s : State} (q : Quote)
    (ht : (s.ctx p).transaction = some t) (hi : tget t k = some i) (hr : i.state = .rating) :
    s.storeQuote p k q =
      s.setCtx p { s.ctx p with transaction := some (tset t k (some { i with state := .quoted, quote := some q })) } := by
  simp only [State.storeQuote, State.item_of_transaction ht, hi, if_pos hr, State.setItem_of_transaction ht]

/-- R98: what the delivery step makes of a RATING item. -/
theorem State.deliveryStep_eq {op : Operation} {ev : Evaluation} {w : Working} {t : Transaction} {i : Item} {s : State} {q : Quote}
    (he : s.evaluator.state = .evaluating op ev) (hh : ev.halt = none) (hw : ev.step = .delivery w)
    (hs : (s.ctx op.position).state = .inTransaction) (ht : (s.ctx op.position).transaction = some t)
    (hi : tget t op.slot = some i) (hr : i.state = .rating) (hq : ev.quote (s.bank ev.bank).image w = q) :
    s.deliveryStep =
      if op.scope = .rest ∧ op.slot.val < 7 then
        (s.setCtx op.position
          { s.ctx op.position with
            transaction := some (tset t op.slot (some { i with state := .quoted, quote := some q })) }).setEvaluatorState
          (.chaining (op.delivered q.postage))
      else
        State.withRateDone (op.delivered q.postage) op.slot
          (tset t op.slot (some { i with state := .quoted, quote := some q })) .ok (s.setEvaluatorState .idle) := by
  simp only [State.deliveryStep, he, hh, hw, hq, Operation.chains, decide_eq_true_eq, State.storeQuote_eq q ht hi hr]
  split
  · rfl
  · rw [State.handRateDone_eq (op := op.delivered q.postage)
      (t := tset t op.slot (some { i with state := .quoted, quote := some q }))]
    · simp [State.withRateDone, State.withRecord, State.ctx, State.setCtx, State.setEvaluatorState, Operation.delivered]
    · simpa [State.ctx, State.setCtx, State.setEvaluatorState, Operation.delivered] using hs
    · simp [State.ctx, State.setCtx, State.setEvaluatorState, Operation.delivered]

/-- Settles O28: the step stores the quote that R96 and R97 price. -/
theorem deliveryStoresQuote : Obligations.DeliveryStoresQuote := by
  intro op ev w t i s hp he hh hw hs ht hi hr
  have himg : (State.bank { s with sent := [] } ev.bank).image = (s.bank ev.bank).image := by cases ev.bank <;> rfl
  have hprice := roundedPostage_scheduleOf (s.bank ev.bank).image ev.facts.service.val ev.accumulator
  dsimp only at hprice ⊢
  rw [← hprice]
  refine (State.running_on _ s hp).trans (congrArg _ ?_)
  exact State.deliveryStep_eq (s := { s with sent := [] }) he hh hw hs ht hi hr (by rw [himg]; rfl)

/-! ### Chain step -/

/-- What a discarded quote gives back depends on the tariff store alone. -/
theorem State.tariffsWithout_congr {s u : State} (h : u.tariffs = s.tariffs) (i : Item) : u.tariffsWithout i = s.tariffsWithout i := by
  have hr : ∀ b, u.releasedOn b = s.releasedOn b := fun b => by
    cases b <;> simp only [State.releasedOn, State.setBank, State.bank, h]
  simp only [State.tariffsWithout, hr, h]

theorem ItemState.fit_iff (st : ItemState) : st.fit = true ↔ st = .weighed ∨ st = .quoted ∨ st = .stale := by
  cases st <;> simp [ItemState.fit]

/-- Settles O29, by what the next slot holds. -/
theorem chainStepContinuesOrEnds : Obligations.ChainStepContinuesOrEnds := by
  intro op k t s hp he h7 hk hst ht
  have hnext : slotAfter op.slot = k := Fin.ext (by rw [slotAfter, hk]; simp [Fin.val_add]; omega)
  refine ⟨fun i hi hfit => ?_, fun hnot => ?_⟩
  · refine (State.running_on _ s hp).trans (congrArg _ ?_)
    have hitem : State.item { s with sent := [] } op.position k = some i := (State.item_of_transaction ht k).trans hi
    have hreq := State.requote_eq (s := { s with sent := [] }) .rateQueued ht hi
    simp only [State.chainStep, he, hnext, hitem, h7, Option.any_some, (ItemState.fit_iff _).mpr hfit, and_self, if_true]
    have hgiven : State.tariffsWithout i { s with sent := [] } = s.tariffsWithout i :=
      State.tariffsWithout_congr (s := s) (u := { s with sent := [] }) rfl i
    rw [hreq, hgiven]
    rfl
  · refine (State.running_on _ s hp).trans (congrArg _ ?_)
    have hitem : ¬(State.item { s with sent := [] } op.position k).any (fun i => i.state.fit) = true := by
      rw [show State.item { s with sent := [] } op.position k = tget t k from State.item_of_transaction ht k]
      cases h : tget t k with
      | none => simp
      | some i => simpa [ItemState.fit_iff] using hnot i h
    simp only [State.chainStep, he, hnext, hitem, h7, if_true]
    exact State.handRateDone_eq (s := State.setEvaluatorState .idle { s with sent := [] }) k .ok hst ht

end Sys2Proof.Machine
end

section
/-! ANSWERS. SCALE, PRINTER and REDIRECT (O36, O37, O38). -/

namespace Sys2Proof.Machine

/-! ### SCALE -/

/-- R45, R174: SCALE with no weigh in flight on the channel. -/
theorem serveScale_idle {c : ChannelId} {cfg : ScaleConfig} {s : State} (hw : (s.channel c).weigh = .idle)
    (htimer : (s.channel c).weighTimer = none) :
    serveScale (c, cfg) s =
      ({ s with
          channels := tset s.channels c ((s.channel c).configured cfg).freed
          nvs := { s.nvs with channels := tset s.nvs.channels c cfg } },
        .done [((s.channel c).configured cfg).state.code]) := by
  have hfreed : ((s.channel c).configured cfg).freed = (s.channel c).configured cfg := by
    simp only [Channel.freed, Channel.configured, ← hw, ← htimer]
  have hidle : (((s.setChannel c ((s.channel c).configured cfg)).saveChannel c).channel c).weigh = .idle := by
    simpa [State.saveChannel, State.channel, State.setChannel, Channel.configured] using hw
  simp only [serveScale, State.endWeigh_idle c _ _ _ hidle, hfreed]
  simp [State.saveChannel, State.channel, State.setChannel, Channel.configured]

/-- R45, R57, R174: SCALE with a weigh WAITING on the channel. -/
theorem serveScale_waiting {c : ChannelId} {cfg : ScaleConfig} {p : PositionId} {k : Slot} {t : Transaction} {i : Item} {s : State}
    (hw : (s.channel c).weigh = .waiting p k) (hs : (s.ctx p).state = .inTransaction) (ht : (s.ctx p).transaction = some t)
    (hi : tget t k = some i) (hst : i.state = .weighing) :
    serveScale (c, cfg) s =
      (State.withWeighEnd p k t i .scaleOff 0
          { s with
            channels := tset s.channels c ((s.channel c).configured cfg).freed
            nvs := { s.nvs with channels := tset s.nvs.channels c cfg } },
        .done [((s.channel c).configured cfg).state.code]) := by
  have hwaits : (((s.setChannel c ((s.channel c).configured cfg)).saveChannel c).channel c).weigh = .waiting p k := by
    simpa [State.saveChannel, State.channel, State.setChannel, Channel.configured] using hw
  simp only [serveScale, State.endWeigh_eq .scaleOff 0 hwaits hs ht hi hst]
  simp [State.saveChannel, State.channel, State.setChannel, State.withWeighEnd, State.withRecord, State.ctx, Channel.freed,
    Channel.configured]

/-- Settles O36, by whether a weigh waits on the channel. -/
theorem scaleResetsChannel : Obligations.ScaleResetsChannel := by
  intro tag c cfg payload rest s hr hwaits
  refine ⟨fun hw htimer => ?_, fun p k t i hw hs ht hi hst => ?_⟩
  · exact State.running_command_answered hwaits hr
      (serveScale_idle (c := c) (cfg := cfg) (s := s.afterCommand rest []) hw htimer)
  · exact State.running_command_answered hwaits hr
      (serveScale_waiting (c := c) (cfg := cfg) (s := s.afterCommand rest []) hw hs ht hi hst)

/-! ### PRINTER -/

/-- An answer stands in front of the label frame that a printer sends behind it (log 18). -/
theorem State.withHeadSent_answered (l : PrinterId) (x : Sent) (s : State) :
    State.withHeadSent l { s with sent := x :: s.sent } = { s.withHeadSent l with sent := x :: (s.withHeadSent l).sent } := by
  have hp : State.printer { s with sent := x :: s.sent } l = s.printer l := rfl
  cases hq : (s.printer l).queue with
  | nil => simp only [State.withHeadSent, hp, hq]
  | cons j behind => simp only [State.withHeadSent, hp, hq]; rfl

/-- R164: the setting is written before the printer is treated. -/
def State.withPrinterSetting (l : PrinterId) (pr : Printer) (s : State) : State :=
  { s with
    printers := tset s.printers l pr
    nvs := { s.nvs with printersEnabled := tset s.nvs.printersEnabled l pr.enabled } }

@[simp] theorem State.withPrinterSetting_printer (l : PrinterId) (pr : Printer) (s : State) :
    (s.withPrinterSetting l pr).printer l = pr := by
  simp [State.withPrinterSetting, State.printer]

theorem State.withPrinterSetting_setPrinter (l : PrinterId) (pr pr' : Printer) (h : pr'.enabled = pr.enabled) (s : State) :
    (s.withPrinterSetting l pr).setPrinter l pr' = s.withPrinterSetting l pr' := by
  simp [State.withPrinterSetting, State.setPrinter, h]

theorem servePrinter_eq (l : PrinterId) (enabled : Bool) (s : State) :
    servePrinter (l, enabled) s =
      let u := (s.withPrinterSetting l { s.printer l with enabled := enabled }).setEnabled l enabled
      (u, .done [(u.printer l).state.code]) := by
  have hs : (s.setPrinter l { s.printer l with enabled := enabled }).savePrinter l =
      s.withPrinterSetting l { s.printer l with enabled := enabled } := by
    simp [State.savePrinter, State.withPrinterSetting, State.setPrinter, State.printer]
  simp only [servePrinter, hs]

theorem State.setEnabled_stays {l : PrinterId} {s : State} (h : (s.printer l).state ≠ .off) : s.setEnabled l true = s := by
  cases hst : (s.printer l).state with
  | off => exact absurd hst h
  | ready => simp only [State.setEnabled, hst]
  | printing => simp only [State.setEnabled, hst]
  | faulted r => simp only [State.setEnabled, hst]

theorem State.setEnabled_starts {l : PrinterId} {pr : Printer} (s : State) (h : pr.state = .off) :
    (s.withPrinterSetting l pr).setEnabled l true = (s.withPrinterSetting l { pr with state := .ready }).withHeadSent l := by
  simp only [State.setEnabled, State.withPrinterSetting_printer, h]
  rw [State.withPrinterSetting_setPrinter l pr { pr with state := .ready } rfl, State.sendHead_ready (by simp)]

theorem State.setEnabled_stops {l : PrinterId} {pr : Printer} (s : State) (h : pr.state ≠ .printing) :
    (s.withPrinterSetting l pr).setEnabled l false = s.withPrinterSetting l { pr with state := .off } := by
  have hset := State.withPrinterSetting_setPrinter l pr { pr with state := .off } rfl s
  cases hst : pr.state with
  | printing => exact absurd hst h
  | ready => simpa only [State.setEnabled, State.withPrinterSetting_printer, hst] using hset
  | faulted r => simpa only [State.setEnabled, State.withPrinterSetting_printer, hst] using hset
  | off =>
    have hsame : { pr with state := .off } = pr := by rw [← hst]
    simp only [State.setEnabled, State.withPrinterSetting_printer, hst, hsame]

theorem State.setEnabled_returns {l : PrinterId} {j : Job} {others : List Job} {s : State} (h : (s.printer l).state = .printing)
    (hq : (s.printer l).queue = j :: others) : s.setEnabled l false = s.withHeadReturned l .off j others := by
  simp only [State.setEnabled, h, State.returnHead_eq _ hq]

/-- R156: the state in which a READY printer is left by the send of its head job. -/
theorem State.withHeadSent_state (l : PrinterId) (s : State) :
    ((s.withHeadSent l).printer l).state = if (s.printer l).queue = [] then (s.printer l).state else .printing := by
  cases hq : (s.printer l).queue with
  | nil => simp only [State.withHeadSent, hq, if_true]
  | cons j behind =>
    simp only [State.withHeadSent, hq]
    simp [State.withSend, State.withLabel, State.printer]

theorem State.withHeadReturned_state (l : PrinterId) (st : PrinterState) (j : Job) (others : List Job) (s : State) :
    ((s.withHeadReturned l st j others).printer l).state = st := by
  simp [State.withHeadReturned, State.withLabel, State.printer]

/-- Settles O37, by the setting and the state of the printer. -/
theorem printerEnablesAndDisables : Obligations.PrinterEnablesAndDisables := by
  rintro tag l enabled _ rest s rfl hwaits
  have hr : readPrinter [BitVec.ofNat 8 l.val, boolByte enabled] = some (l, enabled) := by
    cases enabled <;> simp [readPrinter, readYesNo, boolByte]
  have hserve := servePrinter_eq l enabled (s.afterCommand rest [])
  simp only [State.afterCommand_printer] at hserve
  refine ⟨fun he hst => ?_, fun he hst => ?_, fun he hst => ?_, fun j others he hst hq => ?_⟩ <;> subst he
  · rw [State.setEnabled_stays (by simpa using hst), State.withPrinterSetting_printer] at hserve
    exact State.running_command_answered hwaits hr hserve
  · rw [State.setEnabled_starts (pr := { s.printer l with enabled := true }) _ hst, State.withHeadSent_state, State.withPrinterSetting_printer] at hserve
    refine (State.running_command_answered hwaits hr hserve).trans ?_
    rw [← State.withHeadSent_answered]
    dsimp only
    split <;> rfl
  · rw [State.setEnabled_stops (pr := { s.printer l with enabled := false }) _ hst, State.withPrinterSetting_printer] at hserve
    exact State.running_command_answered hwaits hr hserve
  · rw [State.setEnabled_returns (by simpa using hst) (by simpa using hq), State.withHeadReturned_state] at hserve
    exact State.running_command_answered hwaits hr hserve

/-! ### REDIRECT -/

/-- R163, R41: the label reports of a list of jobs. -/
def State.withQueued (jobs : List Job) (s : State) : State :=
  jobs.foldl (fun u j => u.withLabel j.position j.itemNumber .queued) s

theorem State.reportMoved_eq (jobs : List Job) (s : State) : s.reportMoved jobs = s.withQueued jobs := by
  simp only [State.reportMoved, State.withQueued, State.reportLabel_eq]

theorem State.withQueued_printers (jobs : List Job) (s : State) : (s.withQueued jobs).printers = s.printers := by
  induction jobs generalizing s with
  | nil => rfl
  | cons j jobs ih => exact ih _

theorem State.withQueued_answered (jobs : List Job) (x : Sent) (s : State) :
    State.withQueued jobs { s with sent := x :: s.sent } = { s.withQueued jobs with sent := x :: (s.withQueued jobs).sent } := by
  induction jobs generalizing s with
  | nil => rfl
  | cons j jobs ih => exact ih (s.withLabel j.position j.itemNumber .queued)

/-- R41: a label report changes nothing at an item whose label already reads so. -/
theorem labelled_same {num : Nat} {st : LabelState} {t : Transaction}
    (h : ∀ k i, tget t k = some i → i.itemNumber = some num → i.label = st) : labelled num st t = t := by
  refine table_ext fun k => ?_
  rw [labelled, tget_map]
  cases hk : tget t k with
  | none => rfl
  | some i =>
    simp only [Option.map_some]
    split
    · next hn => rw [← h k i hk hn.1]
    · rfl

theorem State.withLabel_ctx_same {p q : PositionId} {num : Nat} {st : LabelState} {s : State}
    (h : ∀ k i, s.item p k = some i → q = p → i.itemNumber = some num → i.label = st) : (s.withLabel q num st).ctx p = s.ctx p := by
  simp only [State.withLabel, State.ctx]
  by_cases hq : p = q
  · subst hq
    rw [tget_tset_self]
    have hmap : (s.ctx p).transaction.map (labelled num st) = (s.ctx p).transaction := by
      cases ht : (s.ctx p).transaction with
      | none => rfl
      | some t =>
        rw [Option.map_some, labelled_same fun k i hi => h k i ((State.item_of_transaction ht k).trans hi) rfl]
    exact congrArg (fun t => { s.ctx p with transaction := t }) hmap
  · rw [tget_tset_ne _ _ _ _ hq]

theorem State.withQueued_ctx_same {p : PositionId} {jobs : List Job} {s : State}
    (h : ∀ k i, s.item p k = some i → ∀ j ∈ jobs, j.position = p → i.itemNumber = some j.itemNumber → i.label = .queued) :
    (s.withQueued jobs).ctx p = s.ctx p := by
  induction jobs generalizing s with
  | nil => rfl
  | cons j jobs ih =>
    have hfirst : (s.withLabel j.position j.itemNumber .queued).ctx p = s.ctx p :=
      State.withLabel_ctx_same fun k i hi => h k i hi j List.mem_cons_self
    refine (ih (s := s.withLabel j.position j.itemNumber .queued) fun k i hi j' hj' => ?_).trans hfirst
    refine h k i ?_ j' (List.mem_cons_of_mem _ hj')
    simpa only [State.item, hfirst] using hi

/-- R163: what a REDIRECT that passes its checks makes of the queues, with what the store keeps of them. -/
def State.withJobsMoved (source target : PrinterId) (kept queue : List Job) (s : State) : State :=
  { s with
    printers :=
      tset (tset s.printers source { s.printer source with queue := kept }) target { s.printer target with queue := queue }
    nvs := { s.nvs with queues := tset (tset s.nvs.queues source (kept.map Job.stored)) target (queue.map Job.stored) } }

theorem serveRedirect_state {source target : PrinterId} {s : State} (h : source = target ∨ (s.printer target).state = .off) :
    serveRedirect (source, target) s = (s, .refused .state []) := by
  obtain heq | hoff := h
  · simp only [serveRedirect, if_pos heq]
  · simp only [serveRedirect, if_pos hoff, ite_self]

theorem serveRedirect_room {source target : PrinterId} {s : State} (hne : source ≠ target) (hon : (s.printer target).state ≠ .off)
    (hroom : 16 - (s.printer target).queue.length < (waitingJobs (s.printer source).queue).length) :
    serveRedirect (source, target) s = (s, .refused .room []) := by
  have hfull : Config.printerQueue - (s.printer target).queue.length < (waitingJobs (s.printer source).queue).length := hroom
  simp only [serveRedirect, if_neg hne, if_neg hon, if_pos hfull]

/-- R163: a REDIRECT that passes its checks. -/
theorem serveRedirect_moves {source target : PrinterId} {s : State} (hne : source ≠ target)
    (hon : (s.printer target).state ≠ .off)
    (hroom : (waitingJobs (s.printer source).queue).length ≤ 16 - (s.printer target).queue.length) :
    serveRedirect (source, target) s =
      let moved := waitingJobs (s.printer source).queue
      let kept := (s.printer source).queue.filter fun j => !decide (j.condition = .waiting)
      let u := (s.withJobsMoved source target kept ((s.printer target).queue ++ moved)).withQueued moved
      (if (s.printer target).state = .ready then u.withHeadSent target else u,
        .done [BitVec.ofNat 8 moved.length, BitVec.ofNat 8 ((s.printer target).queue ++ moved).length]) := by
  have hkept : (fun j : Job => decide (j.condition ≠ .waiting)) = fun j => !decide (j.condition = .waiting) := by
    funext j; exact decide_not
  have hmoved : ∀ kept queue, (((s.setPrinter source { s.printer source with queue := kept }).setPrinter target
      { s.printer target with queue := queue }).saveQueue source).saveQueue target = s.withJobsMoved source target kept queue :=
    fun kept queue => by
      simp [State.saveQueue, State.setPrinter, State.printer, State.withJobsMoved, tget_tset_ne _ _ _ _ hne]
  have hstate : ∀ kept queue jobs,
      (((s.withJobsMoved source target kept queue).withQueued jobs).printer target).state = (s.printer target).state :=
    fun kept queue jobs => by
      simp [State.printer, State.withQueued_printers, State.withJobsMoved]
  simp only [serveRedirect, if_neg hne, if_neg hon, Config.printerQueue, if_neg (Nat.not_lt.mpr hroom), State.reportMoved_eq,
    hkept, hmoved, State.sendHead_eq, hstate, List.length_append]

/-- Settles O38, by the checks of R163 in order. -/
theorem redirectMovesWaitingJobs : Obligations.RedirectMovesWaitingJobs := by
  intro tag source target rest s hwaits
  have hr : readRedirect [BitVec.ofNat 8 source.val, BitVec.ofNat 8 target.val] = some (source, target) := by
    simp [readRedirect]
  refine ⟨fun h => ?_, fun hne hon hroom => ?_, fun hne hon hroom => ⟨?_, fun p hp => ?_⟩⟩
  · exact State.running_command_answered hwaits hr (serveRedirect_state (s := s.afterCommand rest []) h)
  · exact State.running_command_answered hwaits hr (serveRedirect_room (s := s.afterCommand rest []) hne hon hroom)
  · have hserve := serveRedirect_moves (s := s.afterCommand rest []) hne hon hroom
    dsimp only at hserve
    by_cases hready : (s.printer target).state = .ready
    · rw [if_pos (show ((s.afterCommand rest []).printer target).state = .ready from hready)] at hserve
      rw [if_pos hready]
      refine (State.running_command_answered hwaits hr hserve).trans (congrArg _ ?_)
      exact (State.withHeadSent_answered _ _ _).symm.trans
        (congrArg (State.withHeadSent target) (State.withQueued_answered _ _ _).symm)
    · rw [if_neg (show ((s.afterCommand rest []).printer target).state ≠ .ready from hready)] at hserve
      rw [if_neg hready]
      refine (State.running_command_answered hwaits hr hserve).trans (congrArg _ ?_)
      exact (State.withQueued_answered _ _ _).symm
  · exact State.withQueued_ctx_same (s := _) hp

end Sys2Proof.Machine
end

section
/-! ANSWERS. The answers of a printer and the print timeout (O48). -/

namespace Sys2Proof.Machine

/-! ### Answer frames -/

/-- R181: an answer frame that is discarded, behind bytes that hold no answer. -/
theorem State.receiveAnswers_discarded {l : PrinterId} {noise : List Byte} {code n reason check : Byte} {s : State}
    (hq : s.answersQuiet l noise) (hd : AnswerDiscarded code n reason check) :
    s.receiveAnswers l (noise ++ answerWire code n reason check) =
      { s with printerLines := tset s.printerLines l ([code, n, reason, check].dropWhile fun b => decide (b ≠ 0x69)) } := by
  have hscan : scanAnswers (answerWire code n reason check).length (answerWire code n reason check) =
      ([], [code, n, reason, check].dropWhile fun b => decide (b ≠ 0x69)) :=
    (scanAnswers_discarded code n reason check [] 4 hd).trans
      (scanAnswers_short 4 [code, n, reason, check] (by simp) (by simp))
  rw [State.receiveAnswers_quiet _ _ _ _ hq, hscan]
  rfl

/-- R181: an answer frame that is read, behind bytes that hold no answer. -/
theorem State.receiveAnswers_answer {l : PrinterId} {noise : List Byte} {code n reason : Byte} {a : PrinterAnswer} {s : State}
    (hq : s.answersQuiet l noise) (ha : readAnswer code n reason = some a) :
    s.receiveAnswers l (noise ++ answerWire code n reason (code ^^^ n ^^^ reason)) =
      State.takePrinterAnswer l { s with printerLines := tset s.printerLines l [] } a := by
  have hx : code ^^^ n ^^^ reason = xorBytes [code, n, reason] := by simp [xorBytes]
  have hscan : scanAnswers (answerWire code n reason (code ^^^ n ^^^ reason)).length
      (answerWire code n reason (code ^^^ n ^^^ reason)) = ([a], []) := by
    simp only [answerWire, List.length_cons, List.length_nil, scanAnswers, ne_eq, not_true_eq_false, if_false, hx, if_true, ha]
  rw [State.receiveAnswers_quiet _ _ _ _ hq, hscan]
  rfl

/-! ### FAULT and READY by the state of the printer (R158, R159) -/

theorem State.takeFault_idle {l : PrinterId} {n : Byte} {reason : FaultReason} {s : State}
    (h : (s.printer l).state = .ready ∨ ∃ r, (s.printer l).state = .faulted r) :
    s.takeFault l n reason = s.setPrinter l { s.printer l with state := .faulted reason } := by
  obtain h | ⟨r, h⟩ := h <;> simp only [State.takeFault, h]

theorem State.takeFault_ignored {l : PrinterId} {n : Byte} {reason : FaultReason} {s : State}
    (h : (s.printer l).state = .off ∨ (s.printer l).state = .printing ∧ (s.printer l).sendNumber ≠ n) :
    s.takeFault l n reason = s := by
  obtain h | ⟨h, hn⟩ := h
  · simp only [State.takeFault, h]
  · simp only [State.takeFault, h, if_neg hn]

theorem State.takeFault_printing {l : PrinterId} {n : Byte} {reason : FaultReason} {j : Job} {others : List Job} {s : State}
    (h : (s.printer l).state = .printing) (hn : (s.printer l).sendNumber = n) (hq : (s.printer l).queue = j :: others) :
    s.takeFault l n reason = s.withHeadReturned l (.faulted reason) j others := by
  simp only [State.takeFault, h, if_pos hn, State.returnHead_eq _ hq]

theorem State.takeReady_ignored {l : PrinterId} {s : State} (h : (s.printer l).state = .ready ∨ (s.printer l).state = .off) :
    s.takeReady l = s := by
  obtain h | h := h <;> simp only [State.takeReady, h]

theorem State.takeReady_faulted {l : PrinterId} {r : FaultReason} {s : State} (h : (s.printer l).state = .faulted r) :
    s.takeReady l = (s.setPrinter l { s.printer l with state := .ready }).withHeadSent l := by
  simp only [State.takeReady, h]
  exact State.sendHead_ready (by simp)

theorem State.takeReady_printing {l : PrinterId} {j : Job} {others : List Job} {s : State} (h : (s.printer l).state = .printing)
    (hq : (s.printer l).queue = j :: others) : s.takeReady l = (s.withHeadReturned l .ready j others).withHeadSent l := by
  simp only [State.takeReady, h, State.returnHead_eq _ hq]
  exact State.sendHead_ready (State.withHeadReturned_state _ _ _ _ _)

/-- Section 11.9: the reasons of a FAULT. -/
theorem readAnswer_fault {n code : Byte} {reason : FaultReason}
    (h : (code = 0x01 ∧ reason = .media) ∨ (code = 0x02 ∧ reason = .jam) ∨ (code = 0x03 ∧ reason = .head)) :
    readAnswer 0x02 n code = some (.fault n reason) := by
  obtain ⟨rfl, rfl⟩ | ⟨rfl, rfl⟩ | ⟨rfl, rfl⟩ := h <;> rfl

/-- Settles O48, by what the frame spells and the state of the printer. -/
theorem printerFaultReadyTimeout : Obligations.PrinterFaultReadyTimeout := by
  refine ⟨fun l noise code n reason check s hp hq hd => ⟨?_, ?_⟩, fun l noise n code reason s hp hq hcode => ?_,
    fun l noise n reason s hp hq => ?_, fun l j others s hp hst htimer hqueue => ?_⟩
  · rintro rfl
    exact (State.running_on _ s hp).trans (congrArg _ (State.receiveAnswers_discarded (s := { s with sent := [] }) hq hd))
  · rintro rfl
    exact (State.running_on _ s hp).trans (congrArg _ (State.receiveAnswers_discarded (s := { s with sent := [] }) hq hd))
  · have hanswer : exec (.printerFault l noise n code (0x02 ^^^ n ^^^ code)) s =
        .next (State.takeFault l n reason { s with printerLines := tset s.printerLines l [], sent := [] }) :=
      (State.running_on _ s hp).trans
        (congrArg _ (State.receiveAnswers_answer (s := { s with sent := [] }) hq (readAnswer_fault hcode)))
    refine ⟨fun hst => ?_, fun hst => ?_, fun j others hst hn hqueue => ?_⟩
    · exact hanswer.trans (congrArg _ (State.takeFault_idle hst))
    · exact hanswer.trans (congrArg _ (State.takeFault_ignored hst))
    · exact hanswer.trans (congrArg _ (State.takeFault_printing hst hn hqueue))
  · have hanswer : exec (.printerReady l noise n reason (0x03 ^^^ n ^^^ reason)) s =
        .next (State.takeReady l { s with printerLines := tset s.printerLines l [], sent := [] }) :=
      (State.running_on _ s hp).trans
        (congrArg _ (State.receiveAnswers_answer (a := .ready) (s := { s with sent := [] }) hq rfl))
    refine ⟨fun hst => ?_, fun ⟨r, hst⟩ => ?_, fun j others hst hqueue => ?_⟩
    · exact hanswer.trans (congrArg _ (State.takeReady_ignored hst))
    · exact hanswer.trans (congrArg _ (State.takeReady_faulted hst))
    · exact hanswer.trans (congrArg _ (State.takeReady_printing hst hqueue))
  · refine (State.running_on _ s hp).trans (congrArg _ ?_)
    exact (if_pos ⟨hst, htimer⟩).trans (State.returnHead_eq (s := { s with sent := [] }) _ hqueue)

end Sys2Proof.Machine
end

section
/-! ANSWERS. ACCEPT (O31). -/

namespace Sys2Proof.Machine

/-! ### Refusals in order -/

/-- R8, R9: a request is refused with a payload, and its state is as it was. -/
def RefusedWith (code slotByte : Byte) (s : State) (r : State × Answer) (answer : List Byte) : Prop :=
  ∃ ans : Answer, r = (s, ans) ∧ ans.payload code slotByte = answer

/-- One check of a chain of refusals: the model's condition against the rule's. -/
theorem RefusedWith.check {code slotByte : Byte} {s : State} {c c' : Prop} [Decidable c] [Decidable c'] {ans : Answer}
    {rest : State × Answer} {w answer : List Byte} {others : Option (List Byte)}
    (h : (if c' then some w else others) = some answer) (hc : c ↔ c') (hw : ans.payload code slotByte = w)
    (hrest : ¬c → others = some answer → RefusedWith code slotByte s rest answer) :
    RefusedWith code slotByte s (if c then (s, ans) else rest) answer := by
  by_cases hp : c
  · rw [if_pos (hc.mp hp)] at h
    rw [if_pos hp]
    exact ⟨ans, rfl, hw.trans (Option.some.inj h)⟩
  · rw [if_neg (mt hc.mpr hp)] at h
    rw [if_neg hp]
    exact hrest hp h

/-- R6 to R9: the response of a request that names the slot of an item and is refused. -/
theorem State.running_slotRequest_refused {code : Byte} {p : PositionId} {tag : Byte} {k : Slot}
    {serve : Slot → State → State × Answer} {rest : List Frame} {t : Transaction} {i : Item} {s : State} {answer : List Byte}
    (h : s.itemRequestWaits p ⟨code, tag, [BitVec.ofNat 8 k.val]⟩ rest k t i)
    (hserve : RefusedWith code (BitVec.ofNat 8 k.val) (s.afterRequest p rest []) (serve k (s.afterRequest p rest [])) answer) :
    s.running (State.request ⟨code, readSlot, servedInTransaction, some, firstSlotByte code 1⟩ p tag [BitVec.ofNat 8 k.val] serve) =
      .next (s.afterRequest p rest [responseTo p ⟨code, tag, [BitVec.ofNat 8 k.val]⟩ answer]) := by
  obtain ⟨ans, hans, rfl⟩ := hserve
  exact State.running_slotRequest_answered h hans

theorem Journal.hasRoom_eq_false_iff (j : Journal) : j.hasRoom = false ↔ 2048 ≤ j.entries.length := by
  rw [Journal.hasRoom, decide_eq_false_iff_not, Config.journalCapacity, Nat.not_lt]

/-- R20: the budget counts completions, operations in flight and label jobs. -/
theorem State.budget_eq (s : State) (p : PositionId) : s.budget p = s.budgetTotal p := by
  have hweigh : (if (s.ctx p).weigh.isSome then 1 else 0) = (s.ctx p).weigh.toList.length := by
    cases (s.ctx p).weigh <;> rfl
  simp only [State.budget, State.budgetTotal, PositionContext.budget, hweigh, Nat.add_assoc]

/-! ### Effects -/

/-- R135: the state after an acceptance, before a READY printer sends its head job. -/
def State.withAcceptance (p : PositionId) (k : Slot) (t : Transaction) (a : AccountId) (l : PrinterId) (office serial : Nat)
    (i : Item) (q : Quote) (s : State) : State :=
  let num := itemNumber office serial
  let x := ((s.account a).debited q.postage).marked
  let journal : Journal :=
    { entries := s.journal.entries ++ [⟨s.journal.next, s.clock.value, a, .accept (saleOf p num i q)⟩]
      next := s.journal.next + 1 }
  let queue := (s.printer l).queue ++ [jobOf p k (labelOf p num office s.clock.value i q)]
  { s with
    accounts := tset s.accounts a x, allocator := s.allocator.taken, journal := journal, tariffs := s.tariffsWithout i
    positions := tset s.positions p { s.ctx p with transaction := some (tset t k (some (i.acceptedAs num))) }
    printers := tset s.printers l { s.printer l with queue := queue }
    labelCounts := tset s.labelCounts p (tget s.labelCounts p + 1)
    nvs :=
      { s.nvs with
        accounts := tset s.nvs.accounts a x, allocator := s.allocator.taken, journal := journal
        queues := tset s.nvs.queues l (queue.map Job.stored) } }

/-- R155: a label job that joins a queue. -/
theorem State.queueJob_eq (l : PrinterId) (j : Job) (s : State) :
    s.queueJob l j =
      let queue := (s.printer l).queue ++ [j]
      let u : State :=
        { s with
          printers := tset s.printers l { s.printer l with queue := queue }
          labelCounts := tset s.labelCounts j.position (tget s.labelCounts j.position + 1)
          nvs := { s.nvs with queues := tset s.nvs.queues l (queue.map Job.stored) } }
      if (s.printer l).state = .ready then u.withHeadSent l else u := by
  have hsaved : ((s.setPrinter l { s.printer l with queue := (s.printer l).queue ++ [j] }).countLabels j.position
      (tget s.labelCounts j.position + 1)).saveQueue l =
      { s with
        printers := tset s.printers l { s.printer l with queue := (s.printer l).queue ++ [j] }
        labelCounts := tset s.labelCounts j.position (tget s.labelCounts j.position + 1)
        nvs := { s.nvs with queues := tset s.nvs.queues l (((s.printer l).queue ++ [j]).map Job.stored) } } := by
    simp [State.saveQueue, State.countLabels, State.setPrinter, State.printer]
  simp only [State.queueJob, hsaved, State.sendHead_eq]
  simp [State.printer]

theorem State.acceptItem_eq {p : PositionId} {k : Slot} {t : Transaction} {i : Item} {s : State} (a : AccountId) (l : PrinterId)
    (office serial : Nat) (q : Quote) (ht : (s.ctx p).transaction = some t) :
    s.acceptItem p k a l office serial i q =
      if (s.printer l).state = .ready then (s.withAcceptance p k t a l office serial i q).withHeadSent l
      else s.withAcceptance p k t a l office serial i q := by
  unfold State.acceptItem
  dsimp only
  rw [State.releaseQuote_setItem (t := t), State.tariffsWithout_congr (s := s), State.queueJob_eq]
  case ht => exact ht
  case h => rfl
  simp [State.withAcceptance, State.updateAccount, State.setAccount, State.saveAccount, State.saveAllocator, State.appendEntry,
    State.saveJournal, State.account, State.ctx, State.printer, jobOf]

/-- R141: the allocator after a serial of its head block. -/
theorem Allocator.taken_eq {al : Allocator} {serial : Nat} {head : SerialBlock} {blocks : List SerialBlock} (hn : al.next = some serial)
    (hb : al.blocks = head :: blocks) :
    al.taken =
      if serial = head.last then { al with blocks := blocks, next := blocks.head?.map (·.first) }
      else { al with next := some (serial + 1) } := by
  simp only [Allocator.taken, hb, hn]

/-- R134: a QUOTED item whose ACCEPT passes every check. -/
theorem serveAccept_passed {p : PositionId} {k : Slot} {t : Transaction} {i : Item} {q : Quote} {a : AccountId} {l : PrinterId}
    {office serial : Nat} {s : State} (ht : (s.ctx p).transaction = some t) (hi : tget t k = some i) (hsup : s.supply = .normal)
    (hclock : s.clock.valid = true) (hst : i.state = .quoted) (hq : i.quote = some q) (ha : (s.ctx p).account = some a)
    (hkey : (s.ctx p).key = some (s.account a).key) (hopen : (s.account a).status = .opened)
    (hcredit : q.postage ≤ (s.account a).remaining) (hissued : (s.account a).issued + q.postage ≤ 2 ^ 47 - 1)
    (hoffice : s.allocator.officeCode = some office) (hnext : s.allocator.next = some serial)
    (hjournal : s.journal.entries.length < 2048) (hbudget : s.budgetTotal p < 8) (hlabels : tget s.labelCounts p < 4)
    (hl : (s.ctx p).config.printer = some l) (hroom : (s.printer l).queue.length < 16) :
    serveAccept p k s =
      (s.acceptItem p k a l office serial i q,
        .taken (bcdBytes 7 (itemNumber office serial) ++ leBytes 4 q.postage ++
          [boolByte ((s.acceptItem p k a l office serial i q).account a).low])) := by
  have hitem : s.item p k = some i := (State.item_of_transaction ht k).trans hi
  have hjournal' : ¬s.journal.hasRoom = false := fun h => Nat.not_le.mpr hjournal ((Journal.hasRoom_eq_false_iff _).mp h)
  have hcredit' : ¬((s.account a).remaining < q.postage ∨ Config.registerMax < (s.account a).issued + q.postage) := by
    simp only [Config.registerMax, not_or, Nat.not_lt]
    exact ⟨hcredit, hissued⟩
  have hbudget' : ¬(Config.budget ≤ s.budget p ∨ Config.labelJobs ≤ tget s.labelCounts p ∨
      (Option.any (fun l => decide (Config.printerQueue ≤ (s.printer l).queue.length)) (some l)) = true) := by
    rintro (h | h | h)
    · exact Nat.not_le.mpr hbudget (State.budget_eq s p ▸ h)
    · exact Nat.not_le.mpr hlabels h
    · exact Nat.not_le.mpr hroom (of_decide_eq_true h)
  simp only [serveAccept, hsup, hclock, hitem, hst, hq, ha, hkey, State.acceptChecked, hopen, if_neg hcredit', hoffice, hnext,
    if_neg hjournal', hl, if_neg hbudget', reduceCtorEq, if_false, ne_eq, not_true_eq_false, Bool.true_eq_false]

/-- R134: the payload with which an ACCEPT of an item is refused, if it is: the checks in order. -/
def acceptRefusal (p : PositionId) (k : Slot) (i : Item) (q : Quote) (a : AccountId) (key : Fin 16) (s : State) :
    Option (List Byte) :=
  let x := s.account a
  let report (r : Reason) (figure : Nat) : Option (List Byte) := some (reported 0x0B r (BitVec.ofNat 8 k.val) figure 0)
  if s.supply = .hold then some [0x03]
  else if s.clock.valid = false then report .clockUnset 0
  else if i.state = .stale then report .reRate 0
  else if i.state ≠ .quoted then report .state 0
  else if x.status ≠ .opened then report .accountBlocked 0
  else if x.key ≠ key then report .protection 0
  else if x.remaining < q.postage ∨ 2 ^ 47 - 1 < x.issued + q.postage then report .noCredit x.remaining
  else if s.allocator.officeCode = none ∨ s.allocator.next = none then report .noNumbers 0
  else if 2048 ≤ s.journal.entries.length then report .journalFull 0
  else if 8 ≤ s.budgetTotal p ∨ 4 ≤ tget s.labelCounts p ∨
      ((s.ctx p).config.printer.any fun l => decide (16 ≤ (s.printer l).queue.length)) = true then some [0x02]
  else if (s.ctx p).config.printer = none then report .noPrinter 0
  else none

/-- R134: the refusals of ACCEPT are the model's. -/
theorem serveAccept_refused {p : PositionId} {k : Slot} {t : Transaction} {i : Item} {q : Quote} {a : AccountId} {key : Fin 16}
    {s : State} {answer : List Byte} (ht : (s.ctx p).transaction = some t) (hi : tget t k = some i)
    (hq : i.state = .quoted → i.quote = some q) (ha : (s.ctx p).account = some a) (hkey : (s.ctx p).key = some key)
    (h : acceptRefusal p k i q a key s = some answer) :
    RefusedWith 0x0B (BitVec.ofNat 8 k.val) s (serveAccept p k s) answer := by
  have hitem : s.item p k = some i := (State.item_of_transaction ht k).trans hi
  unfold acceptRefusal at h
  dsimp only at h
  unfold serveAccept
  refine RefusedWith.check h Iff.rfl rfl fun _ h => ?_
  refine RefusedWith.check h Iff.rfl rfl fun _ h => ?_
  rw [hitem]
  refine RefusedWith.check h Iff.rfl rfl fun _ h => ?_
  refine RefusedWith.check h Iff.rfl rfl fun hst h => ?_
  rw [hq (not_not.mp hst), ha, hkey]
  dsimp only
  unfold State.acceptChecked
  refine RefusedWith.check h Iff.rfl rfl fun _ h => ?_
  refine RefusedWith.check h Iff.rfl rfl fun _ h => ?_
  refine RefusedWith.check h Iff.rfl rfl fun _ h => ?_
  cases hoffice : s.allocator.officeCode with
  | none =>
    rw [if_pos (.inl hoffice)] at h
    exact ⟨.refuse .noNumbers, rfl, Option.some.inj h⟩
  | some office =>
    cases hnext : s.allocator.next with
    | none =>
      rw [if_pos (.inr hnext)] at h
      exact ⟨.refuse .noNumbers, rfl, Option.some.inj h⟩
    | some serial =>
      rw [if_neg (by simp [hoffice, hnext])] at h
      dsimp only
      refine RefusedWith.check h (Journal.hasRoom_eq_false_iff _) rfl fun _ h => ?_
      refine RefusedWith.check h (by rw [State.budget_eq]; rfl) rfl fun _ h => ?_
      cases hl : (s.ctx p).config.printer with
      | none =>
        rw [if_pos hl] at h
        exact ⟨.refuse .noPrinter, rfl, Option.some.inj h⟩
      | some l =>
        rw [if_neg (by simp [hl])] at h
        cases h

@[simp] theorem State.withAcceptance_account (p : PositionId) (k : Slot) (t : Transaction) (a : AccountId) (l : PrinterId)
    (office serial : Nat) (i : Item) (q : Quote) (s : State) :
    (s.withAcceptance p k t a l office serial i q).account a = ((s.account a).debited q.postage).marked := by
  simp [State.withAcceptance, State.account]

@[simp] theorem State.withHeadSent_account (l : PrinterId) (a : AccountId) (s : State) :
    (s.withHeadSent l).account a = s.account a := by
  cases hq : (s.printer l).queue with
  | nil => simp only [State.withHeadSent, hq]
  | cons j behind => simp only [State.withHeadSent, hq]; rfl

/-- Settles O31: the refusals check by check, and the effects of R135 written out. -/
theorem acceptMakesItsEffects : Obligations.AcceptMakesItsEffects := by
  refine ⟨fun p tag k rest t i q a key s hw hq ha hkey => ?_, ?_⟩
  · intro x report refusal answer h
    obtain ⟨-, -, ht, hi⟩ := id hw
    exact State.running_slotRequest_refused hw
      (serveAccept_refused (s := s.afterRequest p rest []) ht hi hq ha hkey h)
  · intro p tag k rest t i q a l office serial head blocks s hw hsup hclock hst hq ha hkey hopen hcredit hissued hoffice hnext
      hblocks hjournal hbudget hlabels hl hroom
    obtain ⟨-, -, ht, hi⟩ := id hw
    have hserve := serveAccept_passed (s := s.afterRequest p rest []) ht hi hsup hclock hst hq ha hkey hopen hcredit hissued hoffice
      hnext hjournal hbudget hlabels hl hroom
    have hlow : ((s.afterRequest p rest []).acceptItem p k a l office serial i q).account a =
        ((s.account a).debited q.postage).marked := by
      rw [State.acceptItem_eq a l office serial q (s := s.afterRequest p rest []) ht]
      split <;> simp
    rw [hlow, State.acceptItem_eq a l office serial q (s := s.afterRequest p rest []) ht] at hserve
    intro num x x' allocator sale journal label job queue accepted
    have hserial : (s.afterRequest p rest []).allocator.taken = allocator :=
      (Allocator.taken_eq hnext hblocks).trans (by cases blocks <;> rfl)
    have hgiven : (s.afterRequest p rest []).tariffsWithout i = s.releasedOn q.bank :=
      (State.afterRequest_tariffsWithout p i rest [] s).trans (by simp only [State.tariffsWithout, hst, hq])
    have haccepted : State.withAcceptance p k t a l office serial i q (s.afterRequest p rest []) = { accepted with sent := [] } := by
      rw [State.withAcceptance, hgiven, hserial]
      rfl
    rw [haccepted] at hserve
    by_cases hready : (s.printer l).state = .ready
    · rw [if_pos (show ((s.afterRequest p rest []).printer l).state = .ready from hready)] at hserve
      rw [if_pos hready]
      exact (State.running_slotRequest_answered hw hserve).trans
        (congrArg _ (State.withHeadSent_answered l _ { accepted with sent := [] }).symm)
    · rw [if_neg (show ((s.afterRequest p rest []).printer l).state ≠ .ready from hready)] at hserve
      rw [if_neg hready]
      exact State.running_slotRequest_answered hw hserve

end Sys2Proof.Machine
end

section
/-! ANSWERS. VOID (O33). -/

namespace Sys2Proof.Machine

/-! ### The withdrawal of a label job (R162) -/

/-- R162: no WAITING job of the item is there. -/
theorem State.withdrawJob_kept {num : Nat} {s : State}
    (h : ∀ m, ∀ j ∈ (s.printer m).queue, j.itemNumber = num → j.condition = .printing) : s.withdrawJob num = (s, false) := by
  unfold State.withdrawJob
  cases s.jobPrinter num with
  | none => rfl
  | some l =>
    dsimp only
    cases hj : (s.printer l).queue.find? fun j => decide (j.itemNumber = num) with
    | none => rfl
    | some j =>
      have hprinting := h l j (List.mem_of_find?_eq_some hj) (by simpa using List.find?_some hj)
      simp only [hprinting, reduceCtorEq, if_false]

/-- R162: the printer that holds the job of an item. -/
theorem State.jobPrinter_eq {l : PrinterId} {j : Job} {num : Nat} {s : State} (hj : j ∈ (s.printer l).queue)
    (hnum : j.itemNumber = num) (hother : ∀ m, m ≠ l → ∀ o ∈ (s.printer m).queue, o.itemNumber ≠ num) :
    s.jobPrinter num = some l := by
  simp only [State.jobPrinter, ← Fin.find?_eq_find?_finRange, Fin.find?_eq_some_iff, List.any_eq_true, decide_eq_true_eq]
  exact ⟨⟨j, hj, hnum⟩, fun m hm => by simpa using hother m (ne_of_lt hm)⟩

/-- R162: the WAITING job of an item leaves the queue of a printer that is not READY. -/
theorem State.withdrawJob_removed {l : PrinterId} {before behind : List Job} {j : Job} {num : Nat} {s : State}
    (hq : (s.printer l).queue = before ++ j :: behind) (hnum : j.itemNumber = num) (hwait : j.condition = .waiting)
    (hbefore : ∀ o ∈ before, o.itemNumber ≠ num) (hother : ∀ m, m ≠ l → ∀ o ∈ (s.printer m).queue, o.itemNumber ≠ num)
    (hready : (s.printer l).state ≠ .ready) :
    s.withdrawJob num =
      ({ s with
          printers := tset s.printers l { s.printer l with queue := before ++ behind }
          labelCounts := tset s.labelCounts j.position (tget s.labelCounts j.position - 1)
          nvs := { s.nvs with queues := tset s.nvs.queues l ((before ++ behind).map Job.stored) } }, true) := by
  have hl : s.jobPrinter num = some l := State.jobPrinter_eq (by rw [hq]; simp) hnum hother
  have hbefore' : ∀ o ∈ before, ¬decide (o.itemNumber = num) = true := by simpa using hbefore
  have hfind : (before ++ j :: behind).find? (fun o => decide (o.itemNumber = num)) = some j := by
    rw [List.find?_append, List.find?_eq_none.mpr hbefore', List.find?_cons_of_pos (by simpa using hnum)]
    rfl
  have herase : (before ++ j :: behind).eraseP (fun o => decide (o.itemNumber = num)) = before ++ behind := by
    rw [List.eraseP_append_right _ hbefore', List.eraseP_cons_of_pos (by simpa using hnum)]
  have hsaved : ((s.setPrinter l { s.printer l with queue := before ++ behind }).countLabels j.position
      (tget s.labelCounts j.position - 1)).saveQueue l =
      { s with
        printers := tset s.printers l { s.printer l with queue := before ++ behind }
        labelCounts := tset s.labelCounts j.position (tget s.labelCounts j.position - 1)
        nvs := { s.nvs with queues := tset s.nvs.queues l ((before ++ behind).map Job.stored) } } := by
    simp [State.saveQueue, State.countLabels, State.setPrinter, State.printer]
  simp only [State.withdrawJob, hl, hq, hfind, hwait, if_true, herase, hsaved]
  rw [State.sendHead_notReady _ _ (by simpa [State.printer] using hready)]

/-! ### Effects -/

/-- R133, R138, R146: the account refunded and the VOID entry appended, both written through. -/
def State.withRefund (p : PositionId) (a : AccountId) (num : Nat) (i : Item) (q : Quote) (s : State) : State :=
  let x := ((s.account a).refundedBy q.postage).marked
  let journal : Journal :=
    { entries := s.journal.entries ++ [⟨s.journal.next, s.clock.value, a, .void (saleOf p num i q)⟩]
      next := s.journal.next + 1 }
  { s with
    accounts := tset s.accounts a x, journal := journal
    nvs := { s.nvs with accounts := tset s.nvs.accounts a x, journal := journal } }

theorem State.voidItem_eq {p : PositionId} {k : Slot} {t : Transaction} {s u : State} {a : AccountId} {num : Nat} {i : Item} {q : Quote}
    {withdrawn : Bool} (hu : (s.withRefund p a num i q).withdrawJob num = (u, withdrawn)) (ht : (u.ctx p).transaction = some t) :
    s.voidItem p k a num i q =
      u.setCtx p { u.ctx p with transaction := some (tset t k (some (i.voidedWith withdrawn))) } := by
  have hrefund : (s.updateAccount a ((s.account a).refundedBy q.postage)).appendEntry a (.void (saleOf p num i q)) =
      s.withRefund p a num i q := by
    simp [State.withRefund, State.updateAccount, State.setAccount, State.saveAccount, State.appendEntry, State.saveJournal,
      State.account]
  simp only [State.voidItem, hrefund, hu, State.setItem_of_transaction ht]

/-- R137, R138: an ACCEPTED item whose VOID passes every check. -/
theorem serveVoid_passed {p : PositionId} {k : Slot} {t : Transaction} {i j : Item} {q : Quote} {a : AccountId} {num : Nat} {s u : State}
    (ht : (s.ctx p).transaction = some t) (hi : tget t k = some i) (hsup : s.supply = .normal) (hst : i.state = .accepted)
    (hq : i.quote = some q) (hnum : i.itemNumber = some num) (ha : (s.ctx p).account = some a)
    (hkey : (s.ctx p).key = some (s.account a).key) (hopen : (s.account a).status = .opened)
    (hjournal : s.journal.entries.length < 2048) (hu : s.voidItem p k a num i q = u) (hj : u.item p k = some j) :
    serveVoid p k s =
      (u, .taken (bcdBytes 7 num ++ leBytes 4 q.postage ++ [j.label.code, boolByte (u.account a).low])) := by
  have hitem : s.item p k = some i := (State.item_of_transaction ht k).trans hi
  have hjournal' : ¬s.journal.hasRoom = false := fun h => Nat.not_le.mpr hjournal ((Journal.hasRoom_eq_false_iff _).mp h)
  simp only [serveVoid, hsup, hitem, hst, hq, hnum, ha, hkey, hopen, if_neg hjournal', hu, hj, reduceCtorEq, if_false, ne_eq,
    not_true_eq_false]

/-- R137: the payload with which a VOID of an item is refused, if it is: the checks in order. -/
def voidRefusal (k : Slot) (i : Item) (a : AccountId) (key : Fin 16) (s : State) : Option (List Byte) :=
  let report (r : Reason) : Option (List Byte) := some (reported 0x0C r (BitVec.ofNat 8 k.val) 0 0)
  if s.supply = .hold then some [0x03]
  else if i.state ≠ .accepted then report .state
  else if (s.account a).status ≠ .opened then report .accountBlocked
  else if (s.account a).key ≠ key then report .protection
  else if 2048 ≤ s.journal.entries.length then report .journalFull
  else none

/-- R137: the refusals of VOID are the model's. -/
theorem serveVoid_refused {p : PositionId} {k : Slot} {t : Transaction} {i : Item} {a : AccountId} {key : Fin 16} {s : State}
    {answer : List Byte} (ht : (s.ctx p).transaction = some t) (hi : tget t k = some i)
    (hsold : i.state = .accepted → i.quote.isSome = true ∧ i.itemNumber.isSome = true) (ha : (s.ctx p).account = some a)
    (hkey : (s.ctx p).key = some key) (h : voidRefusal k i a key s = some answer) :
    RefusedWith 0x0C (BitVec.ofNat 8 k.val) s (serveVoid p k s) answer := by
  have hitem : s.item p k = some i := (State.item_of_transaction ht k).trans hi
  unfold voidRefusal at h
  dsimp only at h
  unfold serveVoid
  refine RefusedWith.check h Iff.rfl rfl fun _ h => ?_
  rw [hitem]
  refine RefusedWith.check h Iff.rfl rfl fun hst h => ?_
  obtain ⟨hquote, hnumber⟩ := hsold (not_not.mp hst)
  obtain ⟨q, hq⟩ := Option.isSome_iff_exists.mp hquote
  obtain ⟨num, hnum⟩ := Option.isSome_iff_exists.mp hnumber
  rw [hq, hnum, ha, hkey]
  refine RefusedWith.check h Iff.rfl rfl fun _ h => ?_
  refine RefusedWith.check h Iff.rfl rfl fun _ h => ?_
  refine RefusedWith.check h (Journal.hasRoom_eq_false_iff _) rfl fun _ h => ?_
  cases h

/-- R137, R138: what a VOID that passes every check makes of the module, from what the spool answers. -/
theorem State.running_void_passed {p : PositionId} {tag : Byte} {k : Slot} {rest : List Frame} {t : Transaction} {i : Item} {q : Quote}
    {a : AccountId} {num : Nat} {s u : State} {withdrawn : Bool}
    (hw : s.itemRequestWaits p ⟨0x0C, tag, [BitVec.ofNat 8 k.val]⟩ rest k t i) (hsup : s.supply = .normal)
    (hst : i.state = .accepted) (hq : i.quote = some q) (hnum : i.itemNumber = some num) (ha : (s.ctx p).account = some a)
    (hkey : (s.ctx p).key = some (s.account a).key) (hopen : (s.account a).status = .opened)
    (hjournal : s.journal.entries.length < 2048)
    (hu : (State.withRefund p a num i q (s.afterRequest p rest [])).withdrawJob num = (u, withdrawn)) (hctx : u.ctx p = s.ctx p)
    (hacc : u.account a = ((s.account a).refundedBy q.postage).marked) :
    exec (.void p tag [BitVec.ofNat 8 k.val]) s =
      .next
        { u with
          positions := tset u.positions p { s.ctx p with transaction := some (tset t k (some (i.voidedWith withdrawn))) }
          sent :=
            responseTo p ⟨0x0C, tag, [BitVec.ofNat 8 k.val]⟩
              (0x00 :: (bcdBytes 7 num ++ leBytes 4 q.postage ++
                [(i.voidedWith withdrawn).label.code, boolByte ((s.account a).refundedBy q.postage).marked.low])) :: u.sent } := by
  obtain ⟨-, -, ht, hi⟩ := id hw
  have hvoid := State.voidItem_eq (k := k) (t := t) hu (by rw [hctx]; exact ht)
  rw [hctx] at hvoid
  have hserve := serveVoid_passed (s := s.afterRequest p rest []) (j := i.voidedWith withdrawn) ht hi hsup hst hq hnum ha hkey hopen
    hjournal hvoid (by simp [State.item, State.setCtx, State.ctx])
  have hlow : ∀ c : PositionContext, (u.setCtx p c).account a = u.account a := fun _ => rfl
  rw [hlow, hacc] at hserve
  exact State.running_slotRequest_answered hw hserve

/-- Settles O33: the refusals check by check, and the effects of R138 by what the spool holds of the item. -/
theorem voidMakesItsEffects : Obligations.VoidMakesItsEffects := by
  refine ⟨fun p tag k rest t i a key s hw hsold ha hkey => ?_, ?_⟩
  · intro report refusal answer h
    obtain ⟨-, -, ht, hi⟩ := id hw
    exact State.running_slotRequest_refused hw
      (serveVoid_refused (s := s.afterRequest p rest []) ht hi hsold ha hkey h)
  · intro p tag k rest t i q a num s hw hsup hst hq hnum ha hkey hopen hjournal x x' sale journal answer
    have hacc : (State.withRefund p a num i q (s.afterRequest p rest [])).account a = ((s.account a).refundedBy q.postage).marked :=
      tget_tset_self _ _ _
    refine ⟨fun hprinting => ?_, fun l before j behind hqueue hjnum hwait hbefore hother hready => ?_⟩
    · exact State.running_void_passed hw hsup hst hq hnum ha hkey hopen hjournal
        (State.withdrawJob_kept (s := State.withRefund p a num i q (s.afterRequest p rest [])) hprinting) rfl hacc
    · exact State.running_void_passed hw hsup hst hq hnum ha hkey hopen hjournal
        (State.withdrawJob_removed (s := State.withRefund p a num i q (s.afterRequest p rest [])) hqueue hjnum hwait hbefore hother
          hready) rfl hacc

end Sys2Proof.Machine
end

section
/-! ANSWERS. The tick and the grace expiry (O46). -/

namespace Sys2Proof.Machine

/-! ### Grace (R118, R119) -/

/-- R119: a grace expiry leaves the other bank. -/
theorem State.withGraceExpired_other (b : BankId) (s : State) : (s.withGraceExpired b).bank b.other = s.bank b.other := by
  cases b <;> rfl

/-- R119: a RETIRING bank whose grace expires is not LOADED. -/
theorem State.withGraceExpired_unloaded {b : BankId} {s : State} (h : (s.bank b).state = .retiring) :
    ((s.withGraceExpired b).bank b).state ≠ .loaded := by
  have hself : ∀ bk : Bank, State.bank { s with tariffs := (s.setBank b bk).tariffs } b = bk := fun bk => by cases b <;> rfl
  refine fun hloaded => ?_
  have hbank := (congrArg Bank.state (hself _)).symm.trans hloaded
  split at hbank
  · cases hbank
  · exact absurd (h.symm.trans hbank) nofun

theorem State.tickGrace_idle {b : BankId} {s : State} (h : (s.bank b).state ≠ .retiring) : s.tickGrace b = s := by
  unfold State.tickGrace
  split
  · next hr _ => exact absurd hr h
  · rfl

theorem State.tickGrace_running {b : BankId} {n : Nat} {s : State} (h : (s.bank b).state = .retiring)
    (ht : (s.bank b).graceTimer = .running n) :
    s.tickGrace b =
      if n ≤ 1 then s.withGraceExpired b
      else { s with tariffs := (s.setBank b { s.bank b with graceTimer := .running (n - 1) }).tariffs } := by
  simp only [State.tickGrace, h, ht, State.expireGrace_eq h]
  split
  · rfl
  · cases b <;> rfl

theorem State.tickGrace_resting {b : BankId} {s : State} (ht : (s.bank b).graceTimer = .stopped ∨ (s.bank b).graceTimer = .expired) :
    s.tickGrace b = s := by
  by_cases hr : (s.bank b).state = .retiring
  · obtain ht | ht := ht <;> simp only [State.tickGrace, hr, ht]
  · exact State.tickGrace_idle hr

/-- R118: what a tick makes of a RETIRING bank. -/
theorem State.tickGrace_cases {b : BankId} {s : State} (h : (s.bank b).state = .retiring) :
    s.tickGrace b = s ∨ s.tickGrace b = s.withGraceExpired b ∨
      ∃ n, s.tickGrace b = { s with tariffs := (s.setBank b { s.bank b with graceTimer := .running n }).tariffs } := by
  cases ht : (s.bank b).graceTimer with
  | stopped => exact .inl (State.tickGrace_resting (.inl ht))
  | expired => exact .inl (State.tickGrace_resting (.inr ht))
  | running n =>
    rw [State.tickGrace_running h ht]
    split
    · exact .inr (.inl rfl)
    · exact .inr (.inr ⟨_, rfl⟩)

theorem State.tickGrace_other (b : BankId) (s : State) : (s.tickGrace b).bank b.other = s.bank b.other := by
  by_cases hr : (s.bank b).state = .retiring
  · obtain h | h | ⟨n, h⟩ := State.tickGrace_cases hr
    · rw [h]
    · rw [h, State.withGraceExpired_other]
    · rw [h]; cases b <;> rfl
  · rw [State.tickGrace_idle hr]

/-- R118: a tick leaves a LOADED bank. -/
theorem State.tickGrace_loaded {b c : BankId} {s : State} (h : (s.bank c).state = .loaded) : (s.tickGrace b).bank c = s.bank c := by
  obtain hc | hc := BankId.eq_or_eq_other b c <;> subst hc
  · rw [State.tickGrace_idle (by rw [h]; exact nofun)]
  · exact State.tickGrace_other b s

/-- R118: a RETIRING bank is not LOADED after a tick. -/
theorem State.tickGrace_unloaded {b : BankId} {s : State} (hr : (s.bank b).state = .retiring) :
    ((s.tickGrace b).bank b).state ≠ .loaded := by
  have hretiring : (s.bank b).state ≠ .loaded := by rw [hr]; exact nofun
  obtain h | h | ⟨n, h⟩ := State.tickGrace_cases hr
  · rw [h]; exact hretiring
  · rw [h]; exact State.withGraceExpired_unloaded hr
  · rw [h]; cases b <;> exact hretiring

theorem State.tickGrace_clock (b : BankId) (s : State) : (s.tickGrace b).clock = s.clock := by
  obtain ⟨ts, ps, ev, h⟩ := State.tickGrace_shape b s
  rw [h]

theorem State.tickGrace_lastLoaded (b : BankId) (s : State) : (s.tickGrace b).tariffs.lastLoaded = s.tariffs.lastLoaded := by
  by_cases hr : (s.bank b).state = .retiring
  · obtain h | h | ⟨n, h⟩ := State.tickGrace_cases hr
    · rw [h]
    · rw [h]; cases b <;> rfl
    · rw [h]; cases b <;> rfl
  · rw [State.tickGrace_idle hr]

/-! ### The bank that has come due (R113) -/

/-- R113: a bank is due: LOADED, its effective time reached by a valid clock. -/
def State.IsDue (b : BankId) (s : State) : Prop :=
  s.clock.valid = true ∧ (s.bank b).state = .loaded ∧ ∃ e, (s.bank b).effective = some e ∧ e.toNat ≤ s.clock.value.toNat

theorem Bank.due_iff (now : Word32) (bk : Bank) :
    bk.due now = true ↔ bk.state = .loaded ∧ ∃ e, bk.effective = some e ∧ e.toNat ≤ now.toNat := by
  cases he : bk.effective <;> simp [Bank.due, he, BitVec.le_def]

theorem State.isDue_iff (b : BankId) (s : State) : s.IsDue b ↔ s.clock.valid = true ∧ (s.bank b).due s.clock.value = true := by
  rw [State.IsDue, Bank.due_iff]

/-- R113, R118: the grace of a bank does not change which banks are due. -/
theorem State.tickGrace_isDue (b c : BankId) (s : State) : (s.tickGrace b).IsDue c ↔ s.IsDue c := by
  obtain hc | hc := BankId.eq_or_eq_other b c <;> subst hc
  · by_cases hr : (s.bank c).state = .retiring
    · exact iff_of_false (fun ⟨_, hloaded, _⟩ => State.tickGrace_unloaded hr hloaded)
        (fun ⟨_, hloaded, _⟩ => by rw [hr] at hloaded; cases hloaded)
    · rw [State.tickGrace_idle hr]
  · rw [State.IsDue, State.IsDue, State.tickGrace_clock, State.tickGrace_other]

theorem State.dueBank_none {s : State} (h : ∀ b, ¬s.IsDue b) : s.dueBank = none := by
  cases hv : s.clock.valid with
  | false => simp only [State.dueBank, hv, if_true]
  | true =>
    have hdue : ∀ b, (s.bank b).due s.clock.value = false := fun b => by simpa [State.isDue_iff, hv] using h b
    have hA : s.tariffs.bankA.due s.clock.value = false := hdue .A
    have hB : s.tariffs.bankB.due s.clock.value = false := hdue .B
    simp only [State.dueBank, hv, hA, hB, Bool.true_eq_false, if_false]

theorem State.dueBank_one {b : BankId} {s : State} (h : s.IsDue b) (ho : ¬s.IsDue b.other) : s.dueBank = some b := by
  obtain ⟨hv, hdue⟩ := (State.isDue_iff b s).mp h
  have hother : (s.bank b.other).due s.clock.value = false := by simpa [State.isDue_iff, hv] using ho
  cases b with
  | A =>
    change s.tariffs.bankA.due s.clock.value = true at hdue
    change s.tariffs.bankB.due s.clock.value = false at hother
    simp only [State.dueBank, hv, hdue, hother, Bool.true_eq_false, if_false]
  | B =>
    change s.tariffs.bankB.due s.clock.value = true at hdue
    change s.tariffs.bankA.due s.clock.value = false at hother
    simp only [State.dueBank, hv, hdue, hother, Bool.true_eq_false, if_false]

theorem State.dueBank_two {a b : Word32} {l : BankId} {s : State} (hA : s.IsDue .A) (hB : s.IsDue .B)
    (ha : (s.bank .A).effective = some a) (hb : (s.bank .B).effective = some b) (hl : s.tariffs.lastLoaded = some l) :
    s.dueBank = some (if b.toNat < a.toNat then .A else if a.toNat < b.toNat then .B else l) := by
  obtain ⟨hv, hdueA⟩ := (State.isDue_iff .A s).mp hA
  obtain ⟨-, hdueB⟩ := (State.isDue_iff .B s).mp hB
  change s.tariffs.bankA.due s.clock.value = true at hdueA
  change s.tariffs.bankB.due s.clock.value = true at hdueB
  change s.tariffs.bankA.effective = some a at ha
  change s.tariffs.bankB.effective = some b at hb
  simp only [State.dueBank, hv, hdueA, hdueB, ha, hb, hl, Bool.true_eq_false, if_false, BitVec.lt_def]
  split
  · rfl
  · split <;> rfl

/-! ### The items that a grace expiry reaches (R38) -/

theorem State.expireGrace_ctx (b : BankId) (p : PositionId) (s : State) :
    (s.expireGrace b).ctx p = (s.ctx p).markStale b (s.bank b).generation := by
  simp only [State.expireGrace, State.ctx, State.setBank_positions, tget_tbuild]

theorem State.expireGrace_item (b : BankId) (p : PositionId) (k : Slot) (s : State) :
    (s.expireGrace b).item p k = (s.item p k).map (Item.markStale b (s.bank b).generation) := by
  cases ht : (s.ctx p).transaction with
  | none => simp only [State.item, State.expireGrace_ctx, PositionContext.markStale_eq, ht, Option.map_none]
  | some t => simp only [State.item, State.expireGrace_ctx, PositionContext.markStale_eq, ht, Option.map_some, tget_map]

theorem Item.onGeneration_iff (b : BankId) (g : Word16) (i : Item) :
    i.onGeneration b (some g) = true ↔ i.state = .quoted ∧ ∃ q, i.quote = some q ∧ q.bank = b ∧ q.generation = g := by
  cases hq : i.quote <;> simp [Item.onGeneration_eq, hq]

/-! ### The tick -/

/-- R113, R118, R170: a tick while the module runs. -/
theorem State.tick_eq {s : State} (hp : s.power = .running) :
    exec .tick s =
      .next (State.tickTariffs { s with clock := { s.clock with value := s.clock.value + 1 }, sent := [] }) :=
  State.running_on _ { s with clock := s.clock.advanced } hp

theorem State.tickTariffs_eq (s : State) :
    s.tickTariffs = ((s.tickGrace .A).tickGrace .B).dueBank.elim ((s.tickGrace .A).tickGrace .B)
      fun b => ((s.tickGrace .A).tickGrace .B).withActivation b := by
  unfold State.tickTariffs
  dsimp only
  cases ((s.tickGrace .A).tickGrace .B).dueBank with
  | none => rfl
  | some b => exact State.activate_eq b _

/-- R113, R118: a tick at the tariff store activates the bank that was due before the graces were counted. -/
theorem State.tickTariffs_isDue (c : BankId) (s : State) : ((s.tickGrace .A).tickGrace .B).IsDue c ↔ s.IsDue c := by
  rw [State.tickGrace_isDue, State.tickGrace_isDue]

/-- Settles O46: each bank's grace, then the bank that has come due; and what a grace expiry reaches. -/
theorem tickAndGraceExpiry : Obligations.TickAndGraceExpiry := by
  refine ⟨fun s hp => State.running_off _ { s with clock := s.clock.advanced } hp, fun s hp => ?_, fun b n g s hp hr htimer hg => ?_⟩
  · intro now due counted ticked
    have hcounted : ∀ b x, x.bank b = s.bank b → counted b x = x.tickGrace b := fun b x hx => by
      by_cases hr : (s.bank b).state = .retiring
      · have hr' : (x.bank b).state = .retiring := hx ▸ hr
        cases ht : (s.bank b).graceTimer with
        | stopped => simp only [counted, hr, ht, if_true, State.tickGrace_resting (.inl (hx ▸ ht))]
        | expired => simp only [counted, hr, ht, if_true, State.tickGrace_resting (.inr (hx ▸ ht))]
        | running m => simp only [counted, hr, ht, if_true, State.tickGrace_running hr' (hx ▸ ht), hx]
      · simp only [counted, if_neg hr]
        exact (State.tickGrace_idle (hx ▸ hr)).symm
    have hbank : ∀ b, State.bank { s with clock := { s.clock with value := now }, sent := [] } b = s.bank b := fun b => by
      cases b <;> rfl
    have hticked : ticked = State.tickGrace .B (State.tickGrace .A { s with clock := { s.clock with value := now }, sent := [] }) := by
      have hA := hcounted .A { s with clock := { s.clock with value := now }, sent := [] } (hbank .A)
      change counted .B (counted .A _) = _
      rw [hA]
      exact hcounted .B _ ((State.tickGrace_other .A _).trans (hbank .B))
    have hdue : ∀ b, ticked.IsDue b ↔ due b := fun b => by
      rw [hticked, State.tickTariffs_isDue]
      cases b <;> exact Iff.rfl
    have htick : exec .tick s = .next (ticked.dueBank.elim ticked fun b => ticked.withActivation b) := by
      rw [State.tick_eq hp, State.tickTariffs_eq, ← hticked]
    refine ⟨fun hnone => ?_, fun b hb hother => ?_, fun a b l hA hB ha hb hl => ?_⟩
    · rw [htick, State.dueBank_none fun b => mt (hdue b).mp (hnone b)]
      rfl
    · rw [htick, State.dueBank_one ((hdue b).mpr hb) (mt (hdue _).mp hother)]
      rfl
    · obtain ⟨-, hloadedA, -⟩ := id hA
      obtain ⟨-, hloadedB, -⟩ := id hB
      have hkept : ∀ c, (s.bank c).state = .loaded → ticked.bank c = s.bank c := fun c hc => by
        have hA := (State.tickGrace_loaded (b := .A) ((congrArg Bank.state (hbank c)).trans hc)).trans (hbank c)
        rw [hticked, State.tickGrace_loaded ((congrArg Bank.state hA).trans hc), hA]
      have hlast : ticked.tariffs.lastLoaded = some l := by
        rw [hticked, State.tickGrace_lastLoaded, State.tickGrace_lastLoaded]
        exact hl
      rw [htick, State.dueBank_two ((hdue .A).mpr hA) ((hdue .B).mpr hB) (by rw [hkept .A hloadedA]; exact ha)
        (by rw [hkept .B hloadedB]; exact hb) hlast]
      rfl
  · intro hit
    have hr' : (State.bank { s with sent := [] } b).state = .retiring := by cases b <;> exact hr
    have htimer' : (State.bank { s with sent := [] } b).graceTimer = .running n := by cases b <;> exact htimer
    have hg' : (State.bank { s with sent := [] } b).generation = some g := by cases b <;> exact hg
    have hitem : ∀ p k, (State.withGraceExpired b { s with sent := [] }).item p k = (s.item p k).map (Item.markStale b (some g)) :=
      fun p k => by
        rw [← State.expireGrace_eq hr', State.expireGrace_item, hg']
        rfl
    refine ⟨_, rfl, ?_, fun p k i hi hi' => ?_, fun p k i hi hi' => ?_, fun p k hi => ?_, fun p => ?_, ?_, ?_, ?_, ?_⟩
    · change execGraceExpiry b s = _
      simp only [execGraceExpiry, State.running_on _ s hp, hr', htimer', State.expireGrace_eq hr']
    · rw [hitem, hi, Option.map_some, Item.markStale, if_pos ((Item.onGeneration_iff b g i).mpr hi')]
    · rw [hitem, hi, Option.map_some, Item.markStale, if_neg (mt (Item.onGeneration_iff b g i).mp hi')]
    · rw [hitem, hi, Option.map_none]
    · rw [← State.expireGrace_eq hr', State.expireGrace_ctx, PositionContext.markStale_eq]
      rfl
    · rw [State.withGraceExpired_other]
      cases b <;> rfl
    · cases b <;> rfl
    · cases b <;> rfl
    · rfl

end Sys2Proof.Machine
end

section
/-! SUPPORT. What taking a request or a command may change, and the operations that leave the scale channels alone. -/

namespace Sys2Proof.Machine

/-! ### Taking a request or a command -/

theorem State.takeRequest_shape {p : PositionId} {f : Frame} {s s1 : State} (h : s.takeRequest p f = some s1) :
    ∃ ports, s1 = { s with ports := ports } := by
  unfold State.takeRequest at h
  split at h
  · split at h
    · cases h; exact ⟨_, rfl⟩
    · cases h
  · cases h

theorem State.takeCommand_shape {f : Frame} {s s1 : State} (h : s.takeCommand f = some s1) :
    ∃ port, s1 = { s with officePort := port } := by
  unfold State.takeCommand at h
  split at h
  · split at h
    · cases h; exact ⟨_, rfl⟩
    · cases h
  · cases h

/-- R8: the four checks let a request through to `serve`, or leave the state as it is. -/
theorem State.judge_outcome {α : Type} (form : RequestForm α) (p : PositionId) (payload : List Byte)
    (serve : α → State → State × Answer) (s : State) :
    (s.judge form p payload serve).1 = s ∨ ∃ a, (s.judge form p payload serve).1 = (serve a s).1 := by
  unfold State.judge
  split
  · exact .inl rfl
  · split
    · exact .inl rfl
    · next a _ =>
      split
      · exact .inl rfl
      · split
        · exact .inr ⟨a, rfl⟩
        · split
          · exact .inl rfl
          · exact .inr ⟨a, rfl⟩

/-- R6 to R9: beside the ports and the frames sent, a request changes what its `serve` changes, or nothing. -/
theorem State.request_outcome {α : Type} (form : RequestForm α) (p : PositionId) (tag : Byte) (payload : List Byte)
    (serve : α → State → State × Answer) (s : State) :
    (∃ ports sent, s.request form p tag payload serve = { s with ports := ports, sent := sent }) ∨
      ∃ a ports sent, s.request form p tag payload serve = { (serve a { s with ports := ports }).1 with sent := sent } := by
  unfold State.request
  split
  · next s1 htaken =>
    obtain ⟨ports, rfl⟩ := State.takeRequest_shape htaken
    obtain hsame | ⟨a, hserved⟩ := State.judge_outcome form p payload serve { s with ports := ports }
    · exact .inl ⟨ports, _, by dsimp only; rw [hsame]; rfl⟩
    · exact .inr ⟨a, ports, _, by dsimp only; rw [hserved]; rfl⟩
  · exact .inl ⟨_, _, rfl⟩

/-- R168, R169: beside the office port and the frames sent, a command changes what its `serve` changes, or nothing. -/
theorem State.command_outcome {α : Type} (code : Byte) (read : List Byte → Option α) (tag : Byte) (payload : List Byte)
    (serve : α → State → State × OfficeAnswer) (s : State) :
    (∃ port sent, s.command code read tag payload serve = { s with officePort := port, sent := sent }) ∨
      ∃ a port sent, s.command code read tag payload serve = { (serve a { s with officePort := port }).1 with sent := sent } := by
  unfold State.command
  split
  · next s1 htaken =>
    obtain ⟨port, rfl⟩ := State.takeCommand_shape htaken
    split
    · next a _ => exact .inr ⟨a, port, _, rfl⟩
    · exact .inl ⟨port, _, rfl⟩
  · exact .inl ⟨_, _, rfl⟩

/-! ### Shared operations that leave the channels alone -/

@[simp] theorem State.setItem_channels (p : PositionId) (k : Slot) (i : Option Item) (s : State) :
    (s.setItem p k i).channels = s.channels := by
  obtain ⟨_, h⟩ := State.setItem_shape p k i s
  rw [h]

@[simp] theorem State.release_channels (b : BankId) (s : State) : (s.release b).channels = s.channels := by
  obtain ⟨_, h⟩ := State.release_shape b s
  rw [h]

@[simp] theorem State.releaseQuote_channels (i : Item) (s : State) : (s.releaseQuote i).channels = s.channels := by
  obtain ⟨_, h⟩ := State.releaseQuote_shape i s
  rw [h]

@[simp] theorem State.requote_channels (p : PositionId) (k : Slot) (st : ItemState) (s : State) :
    (s.requote p k st).channels = s.channels := by
  obtain ⟨_, _, h⟩ := State.requote_shape p k st s
  rw [h]

@[simp] theorem State.releaseAll_channels (t : Transaction) (s : State) : (s.releaseAll t).channels = s.channels := by
  obtain ⟨_, h⟩ := State.releaseAll_shape t s
  rw [h]

@[simp] theorem State.finishWeigh_channels (p : PositionId) (k : Slot) (status : Reason) (reading : Nat) (s : State) :
    (s.finishWeigh p k status reading).channels = s.channels := by
  obtain ⟨_, _, h⟩ := State.finishWeigh_shape p k status reading s
  rw [h]

@[simp] theorem State.returnItem_channels (p : PositionId) (k : Slot) (s : State) : (s.returnItem p k).channels = s.channels := by
  obtain ⟨_, h⟩ := State.returnItem_shape p k s
  rw [h]

@[simp] theorem State.handRateDone_channels (op : Operation) (last : Slot) (status : Reason) (s : State) :
    (s.handRateDone op last status).channels = s.channels := by
  obtain ⟨_, _, h⟩ := State.handRateDone_shape op last status s
  rw [h]

@[simp] theorem State.endRating_channels (op : Operation) (status : Reason) (s : State) :
    (s.endRating op status).channels = s.channels := by
  obtain ⟨_, _, _, h⟩ := State.endRating_shape op status s
  rw [h]

@[simp] theorem State.reportLabel_channels (p : PositionId) (num : Nat) (st : LabelState) (s : State) :
    (s.reportLabel p num st).channels = s.channels := by
  obtain ⟨_, h⟩ := State.reportLabel_shape p num st s
  rw [h]

@[simp] theorem State.reportMoved_channels (jobs : List Job) (s : State) : (s.reportMoved jobs).channels = s.channels := by
  unfold State.reportMoved
  induction jobs generalizing s with
  | nil => rfl
  | cons j js ih => rw [List.foldl_cons, ih, State.reportLabel_channels]

@[simp] theorem State.sendHead_channels (l : PrinterId) (s : State) : (s.sendHead l).channels = s.channels := by
  obtain ⟨_, _, _, _, h⟩ := State.sendHead_shape l s
  rw [h]

@[simp] theorem State.sendHeads_channels (s : State) : s.sendHeads.channels = s.channels := by
  obtain ⟨_, _, _, _, h⟩ := State.sendHeads_shape s
  rw [h]

@[simp] theorem State.returnHead_channels (l : PrinterId) (st : PrinterState) (s : State) :
    (s.returnHead l st).channels = s.channels := by
  obtain ⟨_, _, h⟩ := State.returnHead_shape l st s
  rw [h]

@[simp] theorem State.finishHead_channels (l : PrinterId) (s : State) : (s.finishHead l).channels = s.channels := by
  obtain ⟨_, _, _, _, _, h⟩ := State.finishHead_shape l s
  rw [h]

@[simp] theorem State.withdrawJob_channels (num : Nat) (s : State) : (s.withdrawJob num).1.channels = s.channels := by
  obtain ⟨_, _, _, _, _, h⟩ := State.withdrawJob_shape num s
  rw [h]

@[simp] theorem State.queueJob_channels (l : PrinterId) (j : Job) (s : State) : (s.queueJob l j).channels = s.channels := by
  obtain ⟨_, _, _, _, _, h⟩ := State.queueJob_shape l j s
  rw [h]

@[simp] theorem State.expireGrace_channels (b : BankId) (s : State) : (s.expireGrace b).channels = s.channels := by
  obtain ⟨_, _, _, h⟩ := State.expireGrace_shape b s
  rw [h]

@[simp] theorem State.activate_channels (b : BankId) (s : State) : (s.activate b).channels = s.channels := by
  obtain ⟨_, _, _, _, h⟩ := State.activate_shape b s
  rw [h]

@[simp] theorem State.tickGrace_channels (b : BankId) (s : State) : (s.tickGrace b).channels = s.channels := by
  obtain ⟨_, _, _, h⟩ := State.tickGrace_shape b s
  rw [h]

@[simp] theorem State.receivePosition_channels (p : PositionId) (bytes : List Byte) (s : State) :
    (s.receivePosition p bytes).channels = s.channels := by
  obtain ⟨_, h⟩ := State.receivePosition_shape p bytes s
  rw [h]

/-! ### Requests that leave the channels alone -/

theorem serveAttach_channels (p : PositionId) (x : AccountId × Fin 16) (s : State) : (serveAttach p x s).1.channels = s.channels := by
  unfold serveAttach
  dsimp only
  split_ifs <;> rfl

theorem serveBegin_channels (p : PositionId) (x : Unit) (s : State) : (serveBegin p x s).1.channels = s.channels := by
  unfold serveBegin
  split_ifs <;> rfl

theorem serveAdd_channels (p : PositionId) (x : Unit) (s : State) : (serveAdd p x s).1.channels = s.channels := by
  unfold serveAdd
  split <;> simp

theorem serveAmend_channels (p : PositionId) (m : Amendment) (s : State) : (serveAmend p m s).1.channels = s.channels := by
  unfold serveAmend
  split
  · split_ifs <;> simp
  · rfl

theorem serveDrop_channels (p : PositionId) (k : Slot) (s : State) : (serveDrop p k s).1.channels = s.channels := by
  unfold serveDrop
  split
  · split_ifs <;> simp
  · rfl

theorem serveDetail_channels (p : PositionId) (k : Slot) (s : State) : (serveDetail p k s).1.channels = s.channels := by
  unfold serveDetail
  split <;> rfl

theorem serveFinish_channels (p : PositionId) (x : Nat × Nat) (s : State) : (serveFinish p x s).1.channels = s.channels := by
  unfold serveFinish
  dsimp only
  split
  · split_ifs <;> simp
  · rfl

theorem serveCollect_channels (p : PositionId) (x : Unit) (s : State) : (serveCollect p x s).1.channels = s.channels := by
  unfold serveCollect
  split <;> rfl

theorem serveRate_channels (p : PositionId) (x : Slot × Scope) (s : State) : (serveRate p x s).1.channels = s.channels := by
  unfold serveRate
  split
  · rfl
  · split_ifs <;> simp [State.takeRate]

theorem State.acceptItem_channels (p : PositionId) (k : Slot) (a : AccountId) (l : PrinterId) (office serial : Nat) (i : Item)
    (q : Quote) (s : State) : (s.acceptItem p k a l office serial i q).channels = s.channels := by
  simp [State.acceptItem, State.updateAccount, State.appendEntry]

theorem State.acceptChecked_channels (p : PositionId) (k : Slot) (a : AccountId) (key : Fin 16) (i : Item) (q : Quote) (s : State) :
    (s.acceptChecked p k a key i q).1.channels = s.channels := by
  unfold State.acceptChecked
  dsimp only
  split
  · rfl
  · split
    · rfl
    · split
      · rfl
      · split
        · split
          · rfl
          · split
            · rfl
            · split
              · rfl
              · exact State.acceptItem_channels ..
        · rfl

theorem serveAccept_channels (p : PositionId) (k : Slot) (s : State) : (serveAccept p k s).1.channels = s.channels := by
  unfold serveAccept
  split
  · rfl
  · split
    · rfl
    · split
      · rfl
      · split
        · rfl
        · split
          · rfl
          · split
            · exact State.acceptChecked_channels ..
            · rfl

theorem State.voidItem_channels (p : PositionId) (k : Slot) (a : AccountId) (num : Nat) (i : Item) (q : Quote) (s : State) :
    (s.voidItem p k a num i q).channels = s.channels := by
  simp [State.voidItem, State.updateAccount, State.appendEntry]

theorem serveVoid_channels (p : PositionId) (k : Slot) (s : State) : (serveVoid p k s).1.channels = s.channels := by
  unfold serveVoid
  split
  · rfl
  · split
    · rfl
    · split
      · rfl
      · split
        · dsimp only
          split_ifs
          · rfl
          · rfl
          · rfl
          · exact State.voidItem_channels ..
        · rfl

/-! ### The rating evaluator and the printers -/

theorem State.cancelOperation_channels (p : PositionId) (target : Option Slot) (s : State) :
    (s.cancelOperation p target).channels = s.channels := by
  unfold State.cancelOperation
  split
  · simp
  · split
    · split_ifs <;> rfl
    · split_ifs <;> simp
    · rfl

theorem State.startEvaluation_channels (s : State) : s.startEvaluation.channels = s.channels := by
  unfold State.startEvaluation
  dsimp only
  split
  · split
    · split_ifs
      · split <;> simp [State.reference]
      · rfl
    · rfl
  · rfl

theorem State.checkStep_channels (s : State) : s.checkStep.channels = s.channels := by
  unfold State.checkStep
  split
  · split
    · split <;> simp
    · rfl
  · rfl
  · rfl

theorem State.termStep_channels (s : State) : s.termStep.channels = s.channels := by
  unfold State.termStep
  split
  · split <;> rfl
  · rfl
  · rfl

theorem State.storeQuote_channels (p : PositionId) (k : Slot) (q : Quote) (s : State) : (s.storeQuote p k q).channels = s.channels := by
  unfold State.storeQuote
  split
  · split_ifs <;> simp
  · rfl

theorem State.deliveryStep_channels (s : State) : s.deliveryStep.channels = s.channels := by
  unfold State.deliveryStep
  dsimp only
  split
  · split
    · split_ifs <;> simp [State.storeQuote_channels]
    · rfl
  · rfl
  · rfl

theorem State.chainStep_channels (s : State) : s.chainStep.channels = s.channels := by
  unfold State.chainStep
  dsimp only
  split
  · split_ifs <;> simp
  · rfl
  · rfl

theorem State.haltEvaluation_channels (s : State) : s.haltEvaluation.channels = s.channels := by
  unfold State.haltEvaluation
  split
  · split <;> simp
  · rfl
  · rfl

theorem State.takePrinterAnswer_channels (l : PrinterId) (a : PrinterAnswer) (s : State) :
    (s.takePrinterAnswer l a).channels = s.channels := by
  cases a with
  | done n =>
    simp only [State.takePrinterAnswer, State.takeDone]
    split_ifs <;> simp
  | fault n reason =>
    simp only [State.takePrinterAnswer, State.takeFault]
    split
    · split_ifs <;> simp
    · rfl
    · rfl
    · rfl
  | ready =>
    simp only [State.takePrinterAnswer, State.takeReady]
    split <;> simp

theorem State.receiveAnswers_channels (l : PrinterId) (bytes : List Byte) (s : State) :
    (s.receiveAnswers l bytes).channels = s.channels := by
  have hfold : ∀ (answers : List PrinterAnswer) (u : State),
      (answers.foldl (State.takePrinterAnswer l) u).channels = u.channels := by
    intro answers
    induction answers with
    | nil => exact fun u => rfl
    | cons a answers ih => exact fun u => (ih _).trans (State.takePrinterAnswer_channels l a u)
  exact hfold _ _

theorem State.setEnabled_channels (l : PrinterId) (enabled : Bool) (s : State) : (s.setEnabled l enabled).channels = s.channels := by
  unfold State.setEnabled
  split <;> simp

/-! ### Office commands that leave the channels alone -/

theorem serveFlags_channels (x : List FlagAction) (s : State) : (serveFlags x s).1.channels = s.channels := by
  unfold serveFlags
  dsimp only
  split_ifs <;> rfl

theorem serveAccount_channels (x : AccountChange) (s : State) : (serveAccount x s).1.channels = s.channels := by
  unfold serveAccount
  dsimp only
  split_ifs <;> rfl

theorem serveCredit_channels (x : AccountId × Nat) (s : State) : (serveCredit x s).1.channels = s.channels := by
  unfold serveCredit
  dsimp only
  split_ifs <;> rfl

theorem serveBlock_channels (x : Nat × Nat) (s : State) : (serveBlock x s).1.channels = s.channels := by
  unfold serveBlock
  dsimp only
  split_ifs <;> rfl

theorem serveJournalRelease_channels (x : Word32) (s : State) : (serveJournalRelease x s).1.channels = s.channels := by
  unfold serveJournalRelease
  dsimp only
  split_ifs <;> rfl

theorem serveRestart_channels (x : Option Nat) (s : State) : (serveRestart x s).1.channels = s.channels := by
  unfold serveRestart
  split
  · rfl
  · rfl
  · split_ifs <;> rfl

theorem servePrinter_channels (x : PrinterId × Bool) (s : State) : (servePrinter x s).1.channels = s.channels :=
  State.setEnabled_channels ..

theorem serveRedirect_channels (x : PrinterId × PrinterId) (s : State) : (serveRedirect x s).1.channels = s.channels := by
  unfold serveRedirect
  dsimp only
  split_ifs <;> simp

theorem serveLoadBegin_channels (x : LoadDeclaration) (s : State) : (serveLoadBegin x s).1.channels = s.channels := by
  unfold serveLoadBegin
  split_ifs
  · rfl
  · split <;> simp

theorem serveLoadPart_channels (x : Nat × List Byte) (s : State) : (serveLoadPart x s).1.channels = s.channels := by
  unfold serveLoadPart
  dsimp only
  split
  · rfl
  · split_ifs <;> simp

theorem State.admitImage_channels (b : BankId) (s : State) : (s.admitImage b).channels = s.channels := by
  simp [State.admitImage]

theorem serveLoadEnd_channels (x : Unit) (s : State) : (serveLoadEnd x s).1.channels = s.channels := by
  unfold serveLoadEnd
  dsimp only
  split
  · rfl
  · split
    · simp
    · split_ifs <;> simp [State.admitImage_channels]

theorem serveLoadAbandon_channels (b : BankId) (s : State) : (serveLoadAbandon b s).1.channels = s.channels := by
  unfold serveLoadAbandon
  split <;> simp

theorem serveActivate_channels (b : BankId) (s : State) : (serveActivate b s).1.channels = s.channels := by
  unfold serveActivate
  split_ifs <;> simp

theorem State.tickTariffs_channels (s : State) : s.tickTariffs.channels = s.channels := by
  unfold State.tickTariffs
  dsimp only
  split <;> simp

end Sys2Proof.Machine
end

section
/-! SUPPORT. The soundness of one channel (R44) under each change that a sample, a timer, a request or a command makes of it. -/

namespace Sys2Proof.Machine

/-! ### A sound channel -/

/-- R44, R50: a channel that is neither OFF nor in FAULT when its window holds samples. -/
theorem Channel.sound.state_of_window {ch : Channel} (h : ch.sound) (hw : ch.window ≠ []) : ch.state ≠ .off ∧ ch.state ≠ .fault := by
  obtain ⟨-, -, -, -, -, -, -, hempty, -⟩ := h
  exact ⟨fun hs => hw (hempty (.inl hs)), fun hs => hw (hempty (.inr hs))⟩

/-- R50: filtered counts are there only with a window. -/
theorem Channel.sound.window_of_filtered {ch : Channel} (h : ch.sound) {f : Int} (hf : ch.filtered = some f) : ch.window ≠ [] := by
  obtain ⟨-, -, -, -, hfiltered, -⟩ := h
  intro hw
  rw [hfiltered, if_pos hw] at hf
  cases hf

/-- R51: a window gives a reading. -/
theorem Channel.sound.reading_of_window {ch : Channel} (h : ch.sound) (hw : ch.window ≠ []) : ∃ r, ch.reading = some r := by
  obtain ⟨-, -, -, -, -, hreading, -⟩ := h
  exact Option.isSome_iff_exists.mp (by rw [hreading, List.isEmpty_eq_false_iff.mpr hw]; rfl)

/-- R44: the window of a STABLE channel is not empty. -/
theorem Channel.sound.window_of_stable {ch : Channel} (h : ch.sound) (hs : ch.state = .stable) : ch.window ≠ [] := by
  obtain ⟨-, -, -, -, -, -, -, -, hstable, -⟩ := h
  exact hstable hs

/-- R53: the settle timer runs only with a window. -/
theorem Channel.sound.window_of_settleTimer {ch : Channel} (h : ch.sound) (ht : ch.settleTimer.isSome = true) : ch.window ≠ [] := by
  obtain ⟨-, -, -, -, -, -, -, -, -, hsettle, -⟩ := h
  exact (hsettle.mp ht).2

/-- R57, R58: the weigh timer runs only for a weigh. -/
theorem Channel.sound.weighTimer_idle {ch : Channel} (h : ch.sound) (hw : ch.weigh = .idle) : ch.weighTimer = none := by
  obtain ⟨-, -, -, -, -, -, -, -, -, -, htimer, -⟩ := h
  simpa [hw] using htimer

/-- R55: a weigh WAITS only in UNSTABLE. -/
theorem Channel.sound.weigh_idle {ch : Channel} (h : ch.sound) (hs : ch.state ≠ .unstable) : ch.weigh = .idle := by
  obtain ⟨-, -, -, -, -, -, -, -, -, -, -, hweigh⟩ := h
  exact not_not.mp (mt hweigh hs)

/-- R57: a channel without a weigh is what it is once freed. -/
theorem Channel.freed_idle {ch : Channel} (hw : ch.weigh = .idle) (ht : ch.weighTimer = none) : ch.freed = ch := by
  rw [Channel.freed, ← hw, ← ht]

/-! ### Changes of a channel -/

/-- R57. -/
theorem Channel.sound.freed {ch : Channel} (h : ch.sound) : ch.freed.sound := by
  obtain ⟨hwindow, hspikes, herrors, hoff, hfiltered, hreading, hreference, hempty, hstable, hsettle, -, -⟩ := h
  exact ⟨hwindow, hspikes, herrors, hoff, hfiltered, hreading, hreference, hempty, hstable, hsettle, by simp [Channel.freed],
    by simp [Channel.freed]⟩

/-- R14, R57. -/
theorem Channel.sound.dropOwner {ch : Channel} (h : ch.sound) (p : PositionId) : (ch.dropOwner p).sound := by
  unfold Channel.dropOwner
  split
  · split
    · exact h.freed
    · exact h
  · exact h

/-- R47, R49: the counts of errors and spikes matter only by their bounds. -/
theorem Channel.sound.counted {ch : Channel} (h : ch.sound) {errors spikes : Nat} (he : errors ≤ 8) (hs : spikes ≤ 2) :
    Channel.sound { ch with errors := errors, spikes := spikes } := by
  obtain ⟨hwindow, -, -, hrest⟩ := h
  exact ⟨hwindow, hs, he, hrest⟩

/-- R50, R52: a window restart, by a channel that is not OFF. -/
theorem Channel.sound.restart {ch : Channel} (h : ch.sound) (hs : ch.state ≠ .off) (count : Int) : (ch.restart count).sound := by
  obtain ⟨-, -, herrors, hoff, -, -, -, -, -, -, htimer, -⟩ := h
  have henabled : ch.config.enabled = true := by simpa using mt hoff.mpr hs
  refine ⟨by simp [Channel.restart, Channel.withWindow], by simp [Channel.restart], herrors, ?_, ?_, ?_, ?_, ?_, ?_, ?_, htimer, ?_⟩ <;>
    simp [Channel.restart, Channel.withWindow, henabled]

/-- R50, R51: another window that is not empty, on a channel with a window. -/
theorem Channel.sound.withWindow {ch : Channel} (h : ch.sound) (hw : ch.window ≠ []) {window : List Int} (hne : window ≠ [])
    (hlen : window.length ≤ 8) : (ch.withWindow window).sound := by
  obtain ⟨hoff', hfault⟩ := h.state_of_window hw
  obtain ⟨-, hspikes, herrors, hoff, -, -, hreference, -, -, hsettle, htimer, hweigh⟩ := h
  refine ⟨hlen, hspikes, herrors, hoff, ?_, ?_, ?_, fun hs => absurd hs ?_, fun _ => hne, ?_, htimer, hweigh⟩
  · simp [Channel.withWindow, hne]
  · simp [Channel.withWindow, hne]
  · rw [List.isEmpty_eq_false_iff.mpr hw] at hreference
    exact hreference.trans (by rw [Channel.withWindow, List.isEmpty_eq_false_iff.mpr hne])
  · simpa [Channel.withWindow] using ⟨hoff', hfault⟩
  · simpa [Channel.withWindow, hne, hw] using hsettle

/-- R52: the reading judged against the reference, on a channel with a window. -/
theorem Channel.sound.judged {ch : Channel} (h : ch.sound) (hw : ch.window ≠ []) : ch.judged.sound := by
  obtain ⟨hoff', -⟩ := h.state_of_window hw
  unfold Channel.judged
  split
  · split
    · obtain ⟨hwindow, hspikes, herrors, hoff, hfiltered, hreading, -, -, -, -, htimer, -⟩ := h
      have henabled : ch.config.enabled = true := by simpa using mt hoff.mpr hoff'
      exact ⟨hwindow, hspikes, herrors, by simp [henabled], hfiltered, hreading, by simp [hw], by simp, by simp, by simp [hw], htimer,
        by simp⟩
    · exact h
  · exact h

/-- R50: a sample joins a window that is not empty. -/
theorem Channel.sound.join {ch : Channel} (h : ch.sound) (hw : ch.window ≠ []) (count : Int) : (ch.join count).sound := by
  obtain ⟨hlen, -, herrors, -⟩ := id h
  have hpos : 0 < ch.window.length := List.length_pos_iff.mpr hw
  have hnext : ∀ w, w = (if Config.windowSize < (ch.window ++ [count]).length then (ch.window ++ [count]).drop 1
      else ch.window ++ [count]) → w ≠ [] ∧ w.length ≤ 8 := by
    rintro w rfl
    rw [← List.length_pos_iff]
    split <;> simp only [Config.windowSize, List.length_drop, List.length_append, List.length_singleton] at * <;> omega
  obtain ⟨hne, hnextlen⟩ := hnext _ rfl
  exact ((h.counted (spikes := 0) herrors (by omega)).withWindow hw hne hnextlen).judged hne

/-- R48, R49: a good sample on a channel. -/
theorem Channel.sound.takeGood {ch : Channel} (h : ch.sound) (count : Int) : (ch.takeGood count).sound := by
  obtain ⟨-, hspikes, -⟩ := id h
  have hgood : Channel.sound { ch with errors := 0 } := h.counted (by omega) hspikes
  unfold Channel.takeGood
  dsimp only
  split
  · exact h
  · next hs => exact hgood.restart (by simp [hs]) count
  · next hs _ => exact hgood.restart hs count
  · next f hf hs _ =>
    split_ifs
    · exact hgood.restart hs count
    · exact h.counted (by omega) (by simp only [Config.spikeRun] at *; omega)
    · exact hgood.join (h.window_of_filtered hf) count

/-- R47, R57: the eighth error sample, its weigh ended. -/
theorem Channel.sound.failed {ch : Channel} (h : ch.sound) (hs : ch.state ≠ .off) : ch.failed.freed.sound := by
  obtain ⟨-, -, -, hoff, -⟩ := h
  have henabled : ch.config.enabled = true := by simpa using mt hoff.mpr hs
  simp [Channel.sound, Channel.failed, Channel.freed, Config.errorLimit, henabled]

/-- R53: the settle timer has expired and a weigh has been captured. -/
theorem Channel.sound.settled {ch : Channel} (h : ch.sound) (hw : ch.window ≠ []) :
    (Channel.freed { ch with state := .stable, settleTimer := none }).sound := by
  obtain ⟨hoff', -⟩ := h.state_of_window hw
  obtain ⟨hwindow, hspikes, herrors, hoff, hfiltered, hreading, hreference, -⟩ := h
  have henabled : ch.config.enabled = true := by simpa using mt hoff.mpr hoff'
  exact ⟨hwindow, hspikes, herrors, by simp [Channel.freed, henabled], hfiltered, hreading, hreference, by simp [Channel.freed],
    fun _ => hw, by simp [Channel.freed], by simp [Channel.freed], by simp [Channel.freed]⟩

/-- R55, R58: a weigh WAITS on an UNSTABLE channel. -/
theorem Channel.sound.waiting {ch : Channel} (h : ch.sound) (hs : ch.state = .unstable) (p : PositionId) (k : Slot) (ms : Nat) :
    Channel.sound { ch with weigh := .waiting p k, weighTimer := some ms } := by
  obtain ⟨hwindow, hspikes, herrors, hoff, hfiltered, hreading, hreference, hempty, hstable, hsettle, -, -⟩ := h
  exact ⟨hwindow, hspikes, herrors, hoff, hfiltered, hreading, hreference, hempty, hstable, hsettle, by simp, fun _ => hs⟩

/-- R59: ZERO on a channel with a window. -/
theorem Channel.sound.zeroed {ch : Channel} (h : ch.sound) (hw : ch.window ≠ []) (f : Int) : (ch.zeroed f).sound := by
  obtain ⟨hwindow, hspikes, herrors, hoff, hfiltered, -, -, hrest⟩ := h
  exact ⟨hwindow, hspikes, herrors, hoff, hfiltered, by simp [Channel.zeroed, hw], by simp [Channel.zeroed, hw], hrest⟩

/-- R45, R57: a channel under a new configuration, its weigh ended. -/
theorem Channel.configured_sound (cfg : ScaleConfig) (ch : Channel) : (ch.configured cfg).freed.sound := by
  cases h : cfg.enabled <;> simp [Channel.sound, Channel.configured, Channel.freed, h]

/-- R44, R177: a channel rebuilt from the store. -/
theorem Channel.rebuilt_sound (cfg : ScaleConfig) : (Channel.rebuilt cfg).sound := by
  cases h : cfg.enabled <;> simp [Channel.sound, Channel.rebuilt, h]

end Sys2Proof.Machine
end

section
/-! ANSWERS. The channels stay sound (O57). -/

namespace Sys2Proof.Machine

/-! ### All channels -/

theorem ChannelsSound.congr {s u : State} (h : ChannelsSound s) (hu : u.channels = s.channels) : ChannelsSound u := fun c => by
  rw [State.channel, hu]
  exact h c

/-- R44: one channel replaced by a sound one. -/
theorem ChannelsSound.replaced {s u : State} (h : ChannelsSound s) {c : ChannelId} {ch : Channel} (hch : ch.sound)
    (hu : u.channels = tset s.channels c ch) : ChannelsSound u := fun d => by
  rw [State.channel, hu, tget_tset]
  split
  · exact hch
  · exact h d

/-- R57: the end of a weigh touches its channel alone, which it frees. -/
theorem State.endWeigh_channels {c : ChannelId} {s : State} (status : Reason) (reading : Nat)
    (ht : (s.channel c).weigh = .idle → (s.channel c).weighTimer = none) :
    (s.endWeigh c status reading).channels = tset s.channels c (s.channel c).freed := by
  cases hw : (s.channel c).weigh with
  | idle =>
    rw [State.endWeigh_idle c status reading s hw, Channel.freed_idle hw (ht hw)]
    exact (tset_tget _ _).symm
  | waiting p k => simp only [State.endWeigh, hw, State.finishWeigh_channels, State.setChannel_channels]

/-- R57: a channel is replaced and its weigh ended. -/
theorem ChannelsSound.endWeigh {s u : State} (h : ChannelsSound s) {c : ChannelId} {ch : Channel} (hu : u.channels = tset s.channels c ch)
    (hch : ch.freed.sound) (ht : ch.weigh = .idle → ch.weighTimer = none) (status : Reason) (reading : Nat) :
    ChannelsSound (u.endWeigh c status reading) := by
  have hc : u.channel c = ch := by rw [State.channel, hu, tget_tset_self]
  refine h.replaced (c := c) hch ?_
  rw [State.endWeigh_channels status reading (hc ▸ ht), hc, hu, tset_tset]

/-- R57: a weigh ended on a sound channel. -/
theorem ChannelsSound.endWeigh_self {s : State} (h : ChannelsSound s) (c : ChannelId) (status : Reason) (reading : Nat) :
    ChannelsSound (s.endWeigh c status reading) :=
  h.endWeigh (tset_tget _ _).symm (h c).freed (h c).weighTimer_idle status reading

/-- The operation keeps every channel sound. -/
def KeepsChannels (f : State → State) : Prop := ∀ s, ChannelsSound s → ChannelsSound (f s)

theorem KeepsChannels.of_same {f : State → State} (h : ∀ s, (f s).channels = s.channels) : KeepsChannels f :=
  fun s hs => hs.congr (h s)

theorem KeepsChannels.running {f : State → State} (hf : KeepsChannels f) {s u : State} (h : ChannelsSound s)
    (hu : s.running f = .next u) : ChannelsSound u := by
  by_cases hp : s.power = .running
  · rw [State.running_on f s hp] at hu
    cases hu
    exact hf _ h
  · rw [State.running_off f s hp] at hu
    cases hu
    exact h

theorem KeepsChannels.request {α : Type} {serve : α → State → State × Answer} (hserve : ∀ a, KeepsChannels fun s => (serve a s).1)
    (form : RequestForm α) (p : PositionId) (tag : Byte) (payload : List Byte) :
    KeepsChannels (State.request form p tag payload serve) := fun s h => by
  obtain ⟨ports, sent, hs⟩ | ⟨a, ports, sent, hs⟩ := State.request_outcome form p tag payload serve s
  · exact h.congr (by rw [hs])
  · exact (hserve a { s with ports := ports } h).congr (by rw [hs])

theorem KeepsChannels.command {α : Type} {serve : α → State → State × OfficeAnswer}
    (hserve : ∀ a, KeepsChannels fun s => (serve a s).1) (code : Byte) (read : List Byte → Option α) (tag : Byte)
    (payload : List Byte) : KeepsChannels (State.command code read tag payload serve) := fun s h => by
  obtain ⟨port, sent, hs⟩ | ⟨a, port, sent, hs⟩ := State.command_outcome code read tag payload serve s
  · exact h.congr (by rw [hs])
  · exact (hserve a { s with officePort := port } h).congr (by rw [hs])

/-! ### The events that change a channel -/

/-- R47 to R49. -/
theorem takeArrival_keepsChannels (c : ChannelId) (a : Arrival) : KeepsChannels fun s => s.takeArrival c a := fun s h => by
  obtain ⟨-, hspikes, herrors, -⟩ := id (h c)
  unfold State.takeArrival
  dsimp only
  split
  · exact h
  · exact h.replaced ((h c).takeGood _) rfl
  · exact h
  · next hoff _ =>
    split_ifs
    · exact h.endWeigh rfl ((h c).failed hoff) (h c).weighTimer_idle _ _
    · exact h.replaced ((h c).counted (by simp only [Config.errorLimit] at *; omega) hspikes) rfl

/-- R180. -/
theorem receiveSamples_keepsChannels (c : ChannelId) (bytes : List Byte) : KeepsChannels (State.receiveSamples c bytes) := fun s h => by
  have hfold : ∀ (arrivals : List Arrival) (u : State), ChannelsSound u → ChannelsSound (arrivals.foldl (State.takeArrival c) u) := by
    intro arrivals
    induction arrivals with
    | nil => exact fun u hu => hu
    | cons a arrivals ih => exact fun u hu => ih _ (takeArrival_keepsChannels c a u hu)
  exact hfold _ _ h

/-- R53, R56. -/
theorem settle_keepsChannels (c : ChannelId) : KeepsChannels (State.settle c) := fun s h => by
  unfold State.settle
  dsimp only
  split
  · next hrun =>
    have hw := (h c).window_of_settleTimer hrun.1
    obtain ⟨r, hr⟩ := (h c).reading_of_window hw
    have hcapture : (s.channel c).capture = some (captureStatus (s.channel c).config r, r.toNat) := by
      rw [Channel.capture, hr, Option.map_some]
    rw [hcapture]
    exact h.endWeigh rfl ((h c).settled hw) (h c).weighTimer_idle _ _
  · exact h

/-- R57, R58. -/
theorem weighTimer_keepsChannels (c : ChannelId) :
    KeepsChannels fun s => if (s.channel c).weighTimer.isSome then s.endWeigh c .unstable 0 else s := fun s h => by
  dsimp only
  split
  · exact h.endWeigh_self c _ _
  · exact h

theorem State.startWeigh_channels (p : PositionId) (k : Slot) (s : State) : (s.startWeigh p k).channels = s.channels := by
  simp [State.startWeigh]

/-- R55: a weigh that has passed its checks finds its channel STABLE with a reading, or UNSTABLE. -/
theorem takeWeigh_keepsChannels {p : PositionId} {c : ChannelId} {k : Slot} {s : State} (h : ChannelsSound s)
    (hoff : (s.channel c).state ≠ .off) (hfault : (s.channel c).state ≠ .fault) : ChannelsSound (s.takeWeigh p c k).1 := by
  unfold State.takeWeigh
  dsimp only
  split
  · exact h.congr (by simp [State.startWeigh_channels])
  · next hcapture =>
    have hunstable : (s.channel c).state = .unstable := by
      cases hs : (s.channel c).state with
      | off => exact absurd hs hoff
      | fault => exact absurd hs hfault
      | unstable => rfl
      | stable =>
        obtain ⟨r, hr⟩ := (h c).reading_of_window ((h c).window_of_stable hs)
        exact (hcapture _ hs (by rw [Channel.capture, hr]; rfl)).elim
    exact h.replaced (c := c) ((h c).waiting hunstable p k Config.weighTime) (by simp [State.startWeigh_channels])

/-- R54. -/
theorem serveWeigh_keepsChannels (p : PositionId) (k : Slot) : KeepsChannels fun s => (serveWeigh p k s).1 := fun s h => by
  unfold serveWeigh
  dsimp only
  split
  · exact h
  · exact h
  · split_ifs
    · exact h
    · exact h
    · exact h
    · exact h
    · exact h
    · next hoff _ _ hfault => exact takeWeigh_keepsChannels h hoff hfault

/-- R59. -/
theorem serveZero_keepsChannels (p : PositionId) (x : Unit) : KeepsChannels fun s => (serveZero p x s).1 := fun s h => by
  unfold serveZero
  dsimp only
  split
  · exact h
  · next c _ =>
    split
    · exact h
    · split
      · exact h
      · split
        · exact h
        · split
          · next f hf =>
            split
            · exact h.replaced ((h c).zeroed ((h c).window_of_filtered hf) f) rfl
            · exact h
          · exact h

/-- R45. -/
theorem serveScale_keepsChannels (x : ChannelId × ScaleConfig) : KeepsChannels fun s => (serveScale x s).1 := fun _ h =>
  h.endWeigh rfl (Channel.configured_sound x.2 _) (h x.1).weighTimer_idle _ _

/-- R22. -/
theorem serveCancel_keepsChannels (p : PositionId) (target : Option Slot) : KeepsChannels fun s => (serveCancel p target s).1 :=
  fun s h => by
    have hweigh : ChannelsSound (s.cancelWeigh p target).1 := by
      unfold State.cancelWeigh
      split
      · split
        · exact h.endWeigh_self _ _ _
        · exact h
      · exact h
    unfold serveCancel
    dsimp only
    split
    · exact hweigh.congr (State.cancelOperation_channels _ _ _)
    · exact hweigh

/-- R14. -/
theorem forcedDetach_keepsChannels (p : PositionId) : KeepsChannels (State.forcedDetach p) := fun s h => by
  by_cases hp : (s.ctx p).state.clerked = true
  · have hchannels : (s.forcedDetach p).channels = tbuild 8 fun c => (s.channel c).dropOwner p := by
      unfold State.forcedDetach
      rw [if_pos hp]
      dsimp only
      split <;> simp
    intro c
    rw [State.channel, hchannels, tget_tbuild]
    exact (h c).dropOwner p
  · rwa [State.forcedDetach_unattached p s (by simpa using hp)]

/-- R12. -/
theorem serveDetach_keepsChannels (p : PositionId) (x : Unit) : KeepsChannels fun s => (serveDetach p x s).1 := fun s h => by
  unfold serveDetach
  dsimp only
  split
  · exact (forcedDetach_keepsChannels p s h).congr rfl
  · exact h

/-- R4. -/
theorem lineDown_keepsChannels (p : PositionId) : KeepsChannels (State.lineDown p) := fun s h => by
  have hdown : ChannelsSound (State.setCtx p { s.ctx p with linePresent := false } { s with ports := tset s.ports p .quiet }) :=
    h.congr rfl
  exact (forcedDetach_keepsChannels p _ hdown).congr rfl

/-- R5, R173. -/
theorem servePosition_keepsChannels (x : PositionId × PositionConfig) : KeepsChannels fun s => (servePosition x s).1 := fun s h => by
  unfold servePosition
  dsimp only
  split
  · exact h
  · split
    · exact (forcedDetach_keepsChannels x.1 s h).congr rfl
    · exact h.congr rfl

/-- R177. -/
theorem State.rebuild_channelsSound (s : State) : ChannelsSound s.rebuild := fun c => by
  have hc : s.rebuild.channel c = .rebuilt (tget s.nvs.channels c) := tget_tbuild _ c
  rw [hc]
  exact Channel.rebuilt_sound _

/-! ### Every command -/

theorem exec_channelsSound {s u : State} (h : ChannelsSound s) (c : Instr) (hu : exec c s = .next u) : ChannelsSound u := by
  cases c with
  | linkUp p => exact KeepsChannels.running (f := fun s => s.setCtx p (s.ctx p).lineUp) (.of_same fun _ => rfl) h hu
  | linkDown p => exact (lineDown_keepsChannels p).running h hu
  | positionFrameReceived p bytes => exact (KeepsChannels.of_same (State.receivePosition_channels p bytes)).running h hu
  | attach p tag payload => exact (KeepsChannels.request (fun x => .of_same (serveAttach_channels p x)) _ p tag payload).running h hu
  | detach p tag payload => exact (KeepsChannels.request (serveDetach_keepsChannels p) _ p tag payload).running h hu
  | beginTransaction p tag payload =>
    exact (KeepsChannels.request (fun x => .of_same (serveBegin_channels p x)) _ p tag payload).running h hu
  | add p tag payload => exact (KeepsChannels.request (fun x => .of_same (serveAdd_channels p x)) _ p tag payload).running h hu
  | amend p tag payload => exact (KeepsChannels.request (fun x => .of_same (serveAmend_channels p x)) _ p tag payload).running h hu
  | drop p tag payload => exact (KeepsChannels.request (fun x => .of_same (serveDrop_channels p x)) _ p tag payload).running h hu
  | weigh p tag payload => exact (KeepsChannels.request (serveWeigh_keepsChannels p) _ p tag payload).running h hu
  | zero p tag payload => exact (KeepsChannels.request (serveZero_keepsChannels p) _ p tag payload).running h hu
  | rate p tag payload => exact (KeepsChannels.request (fun x => .of_same (serveRate_channels p x)) _ p tag payload).running h hu
  | detail p tag payload => exact (KeepsChannels.request (fun x => .of_same (serveDetail_channels p x)) _ p tag payload).running h hu
  | accept p tag payload => exact (KeepsChannels.request (fun x => .of_same (serveAccept_channels p x)) _ p tag payload).running h hu
  | void p tag payload => exact (KeepsChannels.request (fun x => .of_same (serveVoid_channels p x)) _ p tag payload).running h hu
  | cancel p tag payload => exact (KeepsChannels.request (serveCancel_keepsChannels p) _ p tag payload).running h hu
  | collect p tag payload => exact (KeepsChannels.request (fun x => .of_same (serveCollect_channels p x)) _ p tag payload).running h hu
  | finish p tag payload => exact (KeepsChannels.request (fun x => .of_same (serveFinish_channels p x)) _ p tag payload).running h hu
  | query p tag payload => exact (KeepsChannels.request (fun _ => .of_same fun _ => rfl) _ p tag payload).running h hu
  | sampleFrame c bytes => exact (receiveSamples_keepsChannels c bytes).running h hu
  | settleTimerExpiry c => exact (settle_keepsChannels c).running h hu
  | weighTimerExpiry c => exact (weighTimer_keepsChannels c).running h hu
  | evaluationStart => exact (KeepsChannels.of_same State.startEvaluation_channels).running h hu
  | checkStep => exact (KeepsChannels.of_same State.checkStep_channels).running h hu
  | termStep => exact (KeepsChannels.of_same State.termStep_channels).running h hu
  | deliveryStep => exact (KeepsChannels.of_same State.deliveryStep_channels).running h hu
  | chainStep => exact (KeepsChannels.of_same State.chainStep_channels).running h hu
  | evaluationHalt => exact (KeepsChannels.of_same State.haltEvaluation_channels).running h hu
  | officeFrameReceived input => exact (KeepsChannels.of_same (f := State.receiveOffice input) fun _ => rfl).running h hu
  | status tag payload => exact (KeepsChannels.command (fun _ => .of_same fun _ => rfl) _ _ tag payload).running h hu
  | time tag payload => exact (KeepsChannels.command (serve := serveTime) (fun _ => .of_same fun _ => rfl) _ _ tag payload).running h hu
  | flags tag payload => exact (KeepsChannels.command (fun x => .of_same (serveFlags_channels x)) _ _ tag payload).running h hu
  | position tag payload => exact (KeepsChannels.command servePosition_keepsChannels _ _ tag payload).running h hu
  | scale tag payload => exact (KeepsChannels.command serveScale_keepsChannels _ _ tag payload).running h hu
  | printer tag payload => exact (KeepsChannels.command (fun x => .of_same (servePrinter_channels x)) _ _ tag payload).running h hu
  | redirect tag payload => exact (KeepsChannels.command (fun x => .of_same (serveRedirect_channels x)) _ _ tag payload).running h hu
  | account tag payload => exact (KeepsChannels.command (fun x => .of_same (serveAccount_channels x)) _ _ tag payload).running h hu
  | credit tag payload => exact (KeepsChannels.command (fun x => .of_same (serveCredit_channels x)) _ _ tag payload).running h hu
  | block tag payload => exact (KeepsChannels.command (fun x => .of_same (serveBlock_channels x)) _ _ tag payload).running h hu
  | loadBegin tag payload => exact (KeepsChannels.command (fun x => .of_same (serveLoadBegin_channels x)) _ _ tag payload).running h hu
  | loadPart tag payload => exact (KeepsChannels.command (fun x => .of_same (serveLoadPart_channels x)) _ _ tag payload).running h hu
  | loadEnd tag payload => exact (KeepsChannels.command (fun x => .of_same (serveLoadEnd_channels x)) _ _ tag payload).running h hu
  | loadAbandon tag payload =>
    exact (KeepsChannels.command (fun x => .of_same (serveLoadAbandon_channels x)) _ _ tag payload).running h hu
  | activate tag payload => exact (KeepsChannels.command (fun x => .of_same (serveActivate_channels x)) _ _ tag payload).running h hu
  | journalRead tag payload => exact (KeepsChannels.command (fun _ => .of_same fun _ => rfl) _ _ tag payload).running h hu
  | journalRelease tag payload =>
    exact (KeepsChannels.command (fun x => .of_same (serveJournalRelease_channels x)) _ _ tag payload).running h hu
  | restart tag payload => exact (KeepsChannels.command (fun x => .of_same (serveRestart_channels x)) _ _ tag payload).running h hu
  | restartRebuild =>
    simp only [exec, execRestartRebuild] at hu
    split at hu
    · cases hu
      exact s.rebuild_channelsSound.congr (State.sendHeads_channels _)
    · cases hu; exact h
  | powerOn kept =>
    cases hu
    exact s.rebuild_channelsSound.congr (State.sendHeads_channels _)
  | supplyFailure => cases hu; exact s.rebuild_channelsSound
  | supplySample microvolts => cases hu; exact h
  | tick => exact (KeepsChannels.of_same State.tickTariffs_channels).running (s := { s with clock := s.clock.advanced }) h hu
  | graceExpiry b =>
    simp only [exec, execGraceExpiry] at hu
    refine KeepsChannels.running (KeepsChannels.of_same fun s => ?_) h hu
    split <;> simp
  | loadIdleTimeout b =>
    simp only [exec, execLoadIdleTimeout] at hu
    refine KeepsChannels.running (KeepsChannels.of_same fun s => ?_) h hu
    split <;> simp
  | printerDone l noise n reason check => exact (KeepsChannels.of_same (State.receiveAnswers_channels l _)).running h hu
  | printerFault l noise n reason check => exact (KeepsChannels.of_same (State.receiveAnswers_channels l _)).running h hu
  | printerReady l noise n reason check => exact (KeepsChannels.of_same (State.receiveAnswers_channels l _)).running h hu
  | printTimeout l =>
    simp only [exec, execPrintTimeout] at hu
    refine KeepsChannels.running (KeepsChannels.of_same fun s => ?_) h hu
    split <;> simp
  | unknownRequestCode p code tag payload =>
    simp only [exec, execUnknownRequestCode] at hu
    refine KeepsChannels.running (fun s h => ?_) h hu
    split
    · exact h
    · exact KeepsChannels.request nofun _ p tag payload s h
  | unknownCommandCode code tag payload =>
    simp only [exec, execUnknownCommandCode] at hu
    refine KeepsChannels.running (fun s h => ?_) h hu
    split
    · exact h
    · exact KeepsChannels.command nofun _ _ tag payload s h

/-- Settles O57: each command keeps the channels sound, the most by leaving them alone. -/
theorem channelsStaySound : Obligations.ChannelsStaySound := by
  intro s u hsound hstep
  unfold step at hstep
  split at hstep
  · next c rest _ => exact exec_channelsSound (s := { s with pending := rest }) hsound c hstep
  · cases hstep; exact hsound

end Sys2Proof.Machine
end

section
/-! ANSWERS. Good and error samples on a scale channel (O19, O20). -/

namespace Sys2Proof.Machine

/-! ### Samples on the line (R180) -/

/-- Section 11.9: a count of 24 bits in two's complement is read back. -/
theorem signedOf_leInt {count : Int} (hlow : -8388608 ≤ count) (hhigh : count ≤ 8388607) :
    signedOf 24 (leNat (leInt 3 count)) = count := by
  have hread : leNat (leInt 3 count) = (count % 16777216).toNat := by
    have hsmall : (count % 16777216).toNat < 16777216 := by omega
    rw [leInt, leNat_leBytes]
    exact Nat.mod_eq_of_lt hsmall
  rw [hread]
  unfold signedOf
  split <;> omega

/-- R180: a frame whose check byte matches is one sample, an error by its flag. -/
theorem scanSamples_sampleWire (n : Nat) (count : Int) (status : Byte) (more : List Byte) :
    scanSamples (n + 1) (sampleWire count status ++ more) =
      ((if status.getLsbD 0 then .error else .good (signedOf 24 (leNat (leInt 3 count)))) :: (scanSamples n more).1,
        (scanSamples n more).2) := by
  obtain ⟨b0, b1, b2, hcount⟩ : ∃ b0 b1 b2, leInt 3 count = [b0, b1, b2] := ⟨_, _, _, rfl⟩
  simp [sampleWire, hcount, scanSamples]

/-- R47, R180: a frame whose check byte does not match is an error sample, and what follows its sync byte is kept from the next one on. -/
theorem scanSamples_badCheck {c0 c1 c2 status check : Byte} (h : check ≠ c0 ^^^ c1 ^^^ c2 ^^^ status) :
    scanSamples 6 [0xC3, c0, c1, c2, status, check] =
      ([.error], [c0, c1, c2, status, check].dropWhile fun b => decide (b ≠ 0xC3)) := by
  have hxor : check ≠ xorBytes [c0, c1, c2, status] := by simpa [xorBytes] using h
  have hkept := scanSamples_short 5 [c0, c1, c2, status, check] le_rfl le_rfl
  rw [scanSamples, if_neg (by simp)]
  simp only [hxor, if_false, hkept]

/-- R180: bytes that complete one sample frame behind noise are one arrival at the channel. -/
theorem sampleFrame_arrival {c : ChannelId} {bytes noise frame kept : List Byte} {a : Arrival} {s : State} (hp : s.power = .running)
    (hbytes : tget s.scaleLines c ++ bytes = noise ++ frame) (hnoise : ∀ b ∈ noise, b ≠ 0xC3)
    (hscan : scanSamples frame.length frame = ([a], kept)) :
    exec (.sampleFrame c bytes) s =
      .next (State.takeArrival c { s with scaleLines := tset s.scaleLines c kept, sent := [] } a) := by
  have hfound : scanSamples (tget s.scaleLines c ++ bytes).length (tget s.scaleLines c ++ bytes) = ([a], kept) := by
    rw [hbytes, List.length_append, scanSamples_noise noise frame _ hnoise, hscan]
  change s.running (State.receiveSamples c bytes) = _
  rw [State.running_on _ s hp]
  simp only [State.receiveSamples, hfound, List.foldl_cons, List.foldl_nil]

/-! ### One arrival (R47 to R49) -/

/-- R47, R48: a channel that is OFF discards every arrival. -/
theorem State.takeArrival_off {c : ChannelId} {s : State} (h : (s.channel c).state = .off) (a : Arrival) : s.takeArrival c a = s := by
  simp only [State.takeArrival, h]

/-- R47: a channel in FAULT is not changed by an error sample. -/
theorem State.takeArrival_fault {c : ChannelId} {s : State} (h : (s.channel c).state = .fault) : s.takeArrival c .error = s := by
  simp only [State.takeArrival, h]

theorem State.takeArrival_good {c : ChannelId} {ch : Channel} {s : State} (hch : s.channel c = ch) (h : ch.state ≠ .off) (count : Int) :
    s.takeArrival c (.good count) = s.setChannel c (ch.takeGood count) := by
  subst hch
  unfold State.takeArrival
  dsimp only
  cases hs : (s.channel c).state with
  | off => exact absurd hs h
  | fault => rfl
  | unstable => rfl
  | stable => rfl

/-- R47: an error sample in UNSTABLE or STABLE. -/
theorem State.takeArrival_error {c : ChannelId} {ch : Channel} {s : State} (hch : s.channel c = ch)
    (h : ch.state = .unstable ∨ ch.state = .stable) :
    s.takeArrival c .error =
      if ch.errors < 7 then s.setChannel c { ch with errors := ch.errors + 1 }
      else (s.setChannel c ch.failed).endWeigh c .scaleFault 0 := by
  subst hch
  have heighth : Config.errorLimit ≤ (s.channel c).errors + 1 ↔ ¬(s.channel c).errors < 7 := by rw [Config.errorLimit]; omega
  obtain h | h := h <;> simp only [State.takeArrival, h, heighth, ite_not]

/-- R48, R50: a good sample after FAULT, or on an empty window. -/
theorem Channel.takeGood_restart {ch : Channel} (h : ch.state = .fault ∨ (ch.state = .unstable ∨ ch.state = .stable) ∧ ch.filtered = none)
    (count : Int) : ch.takeGood count = Channel.restart count { ch with errors := 0 } := by
  obtain h | ⟨h | h, hfiltered⟩ := h
  · simp only [Channel.takeGood, h]
  · simp only [Channel.takeGood, h, hfiltered]
  · simp only [Channel.takeGood, h, hfiltered]

/-- R48, R49: a good sample on a window: a spike, or one more sample in it. -/
theorem Channel.takeGood_held {ch : Channel} {held : Int} (h : ch.state = .unstable ∨ ch.state = .stable)
    (hfiltered : ch.filtered = some held) (count : Int) :
    ch.takeGood count =
      if ch.config.spikeLimit < (count - held).natAbs then
        if ch.spikes < 2 then { ch with errors := 0, spikes := ch.spikes + 1 } else Channel.restart count { ch with errors := 0 }
      else Channel.join count { ch with errors := 0 } := by
  have hthird : Config.spikeRun ≤ ch.spikes + 1 ↔ ¬ch.spikes < 2 := by rw [Config.spikeRun]; omega
  obtain h | h := h <;> simp only [Channel.takeGood, h, hfiltered, hthird, ite_not]

/-! ### The arithmetic of a reading (R51) -/

/-- R51: the model's rounding by the sign of the number and its size. -/
theorem roundAway_eq (a : Int) (b : Nat) : roundAway a b = a.sign * (((2 * a.natAbs + b) / (2 * b) : Nat) : Int) := by
  unfold roundAway
  obtain h | rfl | h := lt_trichotomy a 0
  · rw [if_neg (by omega), Int.sign_eq_neg_one_of_neg h, neg_one_mul]
  · have hzero : (2 * Int.natAbs 0 + b) / (2 * b) = 0 := Nat.div_eq_zero_iff.mpr (by simp; omega)
    rw [if_pos le_rfl, hzero, Int.sign_zero, zero_mul, Nat.cast_zero]
  · rw [if_pos (by omega), Int.sign_eq_one_of_pos h, one_mul]

/-- R51: the filtered counts at the working zero read 0. -/
theorem readingOf_zero (cfg : ScaleConfig) (f : Int) : readingOf cfg f f = 0 := by
  simp [readingOf, rawWeight, roundAway_eq]

/-- R50: the mean of a window of one sample. -/
theorem filterCounts_single (count : Int) : filterCounts [count] = count := by
  simp [filterCounts]

/-- R52: the judgement of a reading against a reference. -/
theorem Channel.judged_eq {ch : Channel} {reading ref : Int} (hreading : ch.reading = some reading) (href : ch.reference = some ref) :
    ch.judged =
      if ch.config.band * ch.config.division < (reading - ref).natAbs then
        { ch with reference := some reading, state := .unstable, settleTimer := some ch.config.settle }
      else ch := by
  simp only [Channel.judged, hreading, href]

/-- Settles O19: the arrival is one good sample, and the channel's state and window say what becomes of it. -/
theorem goodSampleTreated : Obligations.GoodSampleTreated := by
  intro c bytes noise count status s hp hbytes hnoise hflag hlow hhigh ch after nearest mean readingAt restarted window reading joined
  have hscan : scanSamples (sampleWire count status).length (sampleWire count status) = ([.good count], []) := by
    have h := scanSamples_sampleWire 5 count status []
    rw [List.append_nil, hflag, signedOf_leInt hlow hhigh] at h
    exact h
  have harrival := sampleFrame_arrival hp hbytes hnoise hscan
  generalize hheard : ({ s with scaleLines := tset s.scaleLines c [], sent := [] } : State) = heard at harrival
  have hch : heard.channel c = ch := by subst hheard; rfl
  have hafter : ∀ x, .next (heard.setChannel c x) = after x := fun x => by subst hheard; rfl
  have hgood : ch.state ≠ .off → exec (.sampleFrame c bytes) s = after (ch.takeGood count) := fun h => by
    rw [harrival, State.takeArrival_good hch h, hafter]
  have hreading : ∀ f, readingOf ch.config f ch.workingZero = readingAt f := fun f => by
    simp only [readingOf, rawWeight, roundAway_eq]
    rfl
  have hrestart : Channel.restart count { ch with errors := 0 } = restarted := by
    simp only [Channel.restart, Channel.withWindow, filterCounts_single, hreading]
    rfl
  have hjoin : Channel.join count { ch with errors := 0 } = joined.judged := by
    refine congrArg Channel.judged ?_
    simp only [Channel.withWindow, hreading]
    rfl
  refine ⟨fun hoff => ?_, fun hrestarts => ?_, fun held ref hstate hheld href => ?_⟩
  · rw [harrival, State.takeArrival_off (by rw [hch]; exact hoff), ← hafter, ← hch, State.setChannel, State.channel, tset_tget]
  · rw [hgood (by rcases hrestarts with h | ⟨h | h, -⟩ <;> simp [h]), Channel.takeGood_restart hrestarts, hrestart]
  · rw [hgood (by rcases hstate with h | h <;> simp [h]), Channel.takeGood_held hstate hheld, hrestart, hjoin,
      Channel.judged_eq (ch := joined) (reading := reading) rfl href]
    split_ifs <;> rfl

/-- Settles O20: the arrival is one error sample, counted against the eighth. -/
theorem errorSampleTreated : Obligations.ErrorSampleTreated := by
  intro c bytes noise kept s hp hnoise hframe ch heard failed
  have harrival : exec (.sampleFrame c bytes) s = .next (heard.takeArrival c .error) := by
    obtain ⟨count, status, hbytes, hflag, rfl⟩ | ⟨c0, c1, c2, status, check, hbytes, hcheck, rfl⟩ := hframe
    · have h := scanSamples_sampleWire 5 count status []
      rw [List.append_nil, hflag] at h
      exact sampleFrame_arrival hp hbytes hnoise h
    · exact sampleFrame_arrival hp hbytes hnoise (scanSamples_badCheck hcheck)
  have hfail : (ch.state = .unstable ∨ ch.state = .stable) → 7 ≤ ch.errors →
      exec (.sampleFrame c bytes) s = .next ((heard.setChannel c failed).endWeigh c .scaleFault 0) := fun hstate herrors => by
    rw [harrival, State.takeArrival_error (s := heard) (ch := ch) rfl hstate, if_neg (Nat.not_lt.mpr herrors)]
    rfl
  refine ⟨fun hstate => ?_, fun hstate herrors => ?_, fun hstate herrors hidle => ?_,
    fun p k t i hstate herrors hwaits hs ht hi hw => ?_⟩
  · rw [harrival]
    obtain hoff | hfault := hstate
    · rw [State.takeArrival_off (s := heard) hoff]
    · rw [State.takeArrival_fault (s := heard) hfault]
  · rw [harrival, State.takeArrival_error (s := heard) (ch := ch) rfl hstate, if_pos herrors]
    rfl
  · have hfree : ((heard.setChannel c failed).channel c).weigh = .idle := by
      rw [State.setChannel_channel_self]; exact hidle
    rw [hfail hstate herrors, State.endWeigh_idle c _ _ _ hfree]
    rfl
  · have hwaiting : ((heard.setChannel c failed).channel c).weigh = .waiting p k := by
      rw [State.setChannel_channel_self]; exact hwaits
    rw [hfail hstate herrors, State.endWeigh_eq .scaleFault 0 hwaiting hs ht hi hw, State.setChannel_channel_self]
    simp only [State.setChannel, tset_tset]
    rfl

end Sys2Proof.Machine
end

section
/-! ANSWERS. ZERO (O23). -/

namespace Sys2Proof.Machine

/-- R59: the refusals of ZERO before its range, in order. -/
def zeroRefusal (p : PositionId) (s : State) : Option (List Byte) :=
  let report (r : Reason) : Option (List Byte) := some (reported 0x08 r 0xFF 0 0)
  match (s.ctx p).config.scale with
  | none => report .noScale
  | some c =>
    if (s.channel c).state = .off then some [0x03]
    else if (s.channel c).weigh ≠ .idle then some [0x02]
    else if (s.channel c).state ≠ .stable then report .unstable
    else none

theorem serveZero_refused {p : PositionId} {s : State} {answer : List Byte} (h : zeroRefusal p s = some answer) :
    RefusedWith 0x08 0xFF s (serveZero p () s) answer := by
  unfold zeroRefusal at h
  unfold serveZero
  dsimp only at h ⊢
  cases hscale : (s.ctx p).config.scale with
  | none =>
    rw [hscale] at h
    exact ⟨_, rfl, Option.some.inj h⟩
  | some c =>
    rw [hscale] at h
    refine RefusedWith.check h Iff.rfl rfl fun _ h => ?_
    refine RefusedWith.check h Iff.rfl rfl fun _ h => ?_
    refine RefusedWith.check h Iff.rfl rfl fun _ h => ?_
    cases h

/-- R59: a ZERO that comes to the check of its range. -/
theorem serveZero_ranged {p : PositionId} {c : ChannelId} {ch : Channel} {counts : Int} {s : State} (hch : s.channel c = ch)
    (hscale : (s.ctx p).config.scale = some c) (hstate : ch.state = .stable) (hidle : ch.weigh = .idle)
    (hfiltered : ch.filtered = some counts) :
    serveZero p () s =
      if (counts - ch.config.calibratedZero).natAbs ≤ ch.config.capacity * 65536 / ch.config.span * 2 / 100 then
        (s.setChannel c { ch with workingZero := counts, reference := some 0, reading := some 0 },
          .taken (leInt 4 (counts - ch.config.calibratedZero)))
      else (s, .refuse .zeroRange) := by
  subst hch
  simp only [serveZero, hscale, hstate, hidle, hfiltered, Channel.zeroed, readingOf_zero, zeroRange, reduceCtorEq, if_false, ne_eq,
    not_true_eq_false]

theorem zeroForm_served {state : PositionState} (h : state = .attached ∨ state = .inTransaction) : zeroForm.served state = true := by
  obtain rfl | rfl := h <;> rfl

/-- Settles O23: the checks of ZERO in order, and its range. -/
theorem zeroWithinRange : Obligations.ZeroWithinRange := by
  refine ⟨fun p tag rest s hw hst => ?_, fun p tag c counts rest s hw hst hscale hstate hidle hfiltered => ?_⟩
  · intro report refusal answer h
    obtain ⟨ans, hserve, rfl⟩ := serveZero_refused (s := s.afterRequest p rest []) h
    exact State.running_request_answered hw rfl (zeroForm_served hst) nofun hserve
  · intro cfg
    have hserve := serveZero_ranged (s := s.afterRequest p rest []) (ch := s.channel c) rfl hscale hstate hidle hfiltered
    split
    · next hrange =>
      rw [if_pos hrange] at hserve
      exact State.running_request_answered hw rfl (zeroForm_served hst) nofun hserve
    · next hrange =>
      rw [if_neg hrange] at hserve
      exact State.running_request_answered hw rfl (zeroForm_served hst) nofun hserve

end Sys2Proof.Machine
end

section
/-! SUPPORT. The fields of a tariff image (section 11.7) as their bytes spell them: what the readers of a schedule, a zone map entry and a term find. -/

namespace Sys2Proof.Machine

/-! ### Schedules and the zone map (R66 to R70) -/

theorem Byte.eq_ofNat_iff {m : Nat} (hm : m < 256) (b : Byte) : b = BitVec.ofNat 8 m ↔ b.toNat = m := by
  rw [← BitVec.toNat_inj, BitVec.toNat_ofNat, Nat.mod_eq_of_lt hm]

/-- R67: the offered byte. -/
theorem scheduleOf_offered (img : List Byte) (n : Nat) :
    (scheduleOf img n).offered = decide (numAt img (scheduleOffset n + 0) 1 = 1) := by
  rw [numAt_one, ← decide_eq_decide.mpr (Byte.eq_ofNat_iff (by decide) _)]
  exact beq_eq_decide _ _

/-- R68: the volumetric byte. -/
theorem scheduleOf_volumetric (img : List Byte) (n : Nat) :
    (scheduleOf img n).volumetric = decide (numAt img (scheduleOffset n + 1) 1 = 1) := by
  rw [numAt_one, ← decide_eq_decide.mpr (Byte.eq_ofNat_iff (by decide) _)]
  exact beq_eq_decide _ _

/-- R70: the term count. -/
theorem scheduleOf_termCount (img : List Byte) (n : Nat) : (scheduleOf img n).termCount = numAt img (scheduleOffset n + 3) 1 :=
  (numAt_one img _).symm

/-- R66: a destination that is CLOSED. -/
theorem zoneOf_eq_none {img : List Byte} {digits : Nat} (h : 15 < byteAt img (32 + digits)) : zoneOf img digits = none :=
  dif_neg (Nat.not_lt.mpr h)

/-- R66: a destination with a zone. -/
theorem zoneOf_eq_some {img : List Byte} {digits : Nat} {zone : Fin 16} (h : zone.val = byteAt img (32 + digits)) :
    zoneOf img digits = some zone := by
  have hlt : (zoneByte img digits).toNat < 16 := h.symm.trans_lt zone.isLt
  exact (dif_pos hlt).trans (congrArg some (Fin.ext h.symm))

/-- R62: the term records before a schedule. -/
theorem termsBefore_eq (img : List Byte) (n : Nat) :
    termsBefore img n = ((List.range n).map fun m => numAt img (scheduleOffset m + 3) 1).sum := by
  simp only [numAt_one]
  rfl

/-- R69, section 11.7: the rounding byte. -/
theorem readRounding_isSome (b : Byte) : (readRounding b).isSome = true ↔ b.toNat ≤ 2 := by
  unfold readRounding
  split_ifs with h0 h1 h2
  · simp [h0]
  · simp [h1]
  · simp [h2]
  · simp only [Option.isSome_none, Bool.false_eq_true, false_iff]
    bv_omega

/-! ### The condition bytes of a term (R71, R72) -/

/-- R72, section 11.7: the basis byte. -/
theorem readBasis_cases (b : Byte) :
    (b.toNat = 0 ∧ readBasis b = some .flat) ∨ (b.toNat = 1 ∧ readBasis b = some .step) ∨
      (b.toNat = 2 ∧ readBasis b = some .gram) ∨ (b.toNat = 3 ∧ readBasis b = some .value) ∨
      (b.toNat = 4 ∧ readBasis b = some .girth) ∨ (b.toNat = 5 ∧ readBasis b = some .percent) ∨
      (5 < b.toNat ∧ readBasis b = none) := by
  by_cases h : b.toNat ≤ 5
  · obtain rfl | rfl | rfl | rfl | rfl | rfl : b = 0 ∨ b = 1 ∨ b = 2 ∨ b = 3 ∨ b = 4 ∨ b = 5 := by bv_omega
    all_goals decide
  · have hnone : readBasis b = none := by
      rw [readBasis, if_neg, if_neg, if_neg, if_neg, if_neg, if_neg] <;> bv_omega
    exact .inr (.inr (.inr (.inr (.inr (.inr ⟨Nat.not_le.mp h, hnone⟩)))))

theorem readBasis_isSome (b : Byte) : (readBasis b).isSome = true ↔ b.toNat ≤ 5 := by
  obtain ⟨h, hr⟩ | ⟨h, hr⟩ | ⟨h, hr⟩ | ⟨h, hr⟩ | ⟨h, hr⟩ | ⟨h, hr⟩ | ⟨h, hr⟩ := readBasis_cases b <;> simp [hr, h]

theorem readBasis_eq_percent (b : Byte) : readBasis b = some .percent ↔ b.toNat = 5 := by
  obtain ⟨h, hr⟩ | ⟨h, hr⟩ | ⟨h, hr⟩ | ⟨h, hr⟩ | ⟨h, hr⟩ | ⟨h, hr⟩ | ⟨h, hr⟩ := readBasis_cases b <;> simp [hr, h]
  exact h.ne'

/-- R71, section 11.7: the byte 10H + f. -/
theorem readFlagCondition_set {b : Byte} {f : Fin 8} (h : b.toNat = 0x10 + f.val) : readFlagCondition b = some (.set f) := by
  have hb : b = BitVec.ofNat 8 (0x10 + f.val) := (Byte.eq_ofNat_iff (by omega) b).mpr h
  subst hb
  revert f
  decide

/-- R71, section 11.7: the byte 20H + f. -/
theorem readFlagCondition_clear {b : Byte} {f : Fin 8} (h : b.toNat = 0x20 + f.val) : readFlagCondition b = some (.clear f) := by
  have hb : b = BitVec.ofNat 8 (0x20 + f.val) := (Byte.eq_ofNat_iff (by omega) b).mpr h
  subst hb
  revert f
  decide

/-- R71, section 11.7: a byte that names no flag condition. -/
theorem readFlagCondition_none {b : Byte} (h0 : b.toNat ≠ 0) (hset : ∀ f : Fin 8, b.toNat ≠ 0x10 + f.val)
    (hclear : ∀ f : Fin 8, b.toNat ≠ 0x20 + f.val) : readFlagCondition b = none := by
  have hhigh : ∀ base : Nat, base ≤ 0x20 → b.toNat / 16 * 16 = base → (∀ f : Fin 8, b.toNat ≠ base + f.val) →
      readFin 8 (b - BitVec.ofNat 8 base) = none := fun base hle hbase hne => by
    refine dif_neg fun hlt => hne ⟨_, hlt⟩ ?_
    have hsub : (b - BitVec.ofNat 8 base).toNat = b.toNat - base := by bv_omega
    dsimp only
    omega
  unfold readFlagCondition
  split_ifs with hz h1 h2
  · exact absurd (congrArg BitVec.toNat hz) h0
  · exact congrArg (Option.map FlagCondition.set) (hhigh 0x10 (by decide) (by rw [h1]) hset)
  · exact congrArg (Option.map FlagCondition.clear) (hhigh 0x20 (by decide) (by rw [h2]) hclear)
  · rfl

/-- R71, section 11.7: the flag condition byte. -/
theorem readFlagCondition_cases (b : Byte) :
    (b.toNat = 0 ∧ readFlagCondition b = some .always) ∨
      (∃ f : Fin 8, b.toNat = 0x10 + f.val ∧ readFlagCondition b = some (.set f)) ∨
      (∃ f : Fin 8, b.toNat = 0x20 + f.val ∧ readFlagCondition b = some (.clear f)) ∨
      (b.toNat ≠ 0 ∧ (∀ f : Fin 8, b.toNat ≠ 0x10 + f.val) ∧ (∀ f : Fin 8, b.toNat ≠ 0x20 + f.val) ∧
        readFlagCondition b = none) := by
  by_cases h0 : b.toNat = 0
  · exact .inl ⟨h0, if_pos (BitVec.eq_of_toNat_eq h0)⟩
  by_cases hset : ∃ f : Fin 8, b.toNat = 0x10 + f.val
  · obtain ⟨f, hf⟩ := hset
    exact .inr (.inl ⟨f, hf, readFlagCondition_set hf⟩)
  by_cases hclear : ∃ f : Fin 8, b.toNat = 0x20 + f.val
  · obtain ⟨f, hf⟩ := hclear
    exact .inr (.inr (.inl ⟨f, hf, readFlagCondition_clear hf⟩))
  simp only [not_exists] at hset hclear
  exact .inr (.inr (.inr ⟨h0, hset, hclear, readFlagCondition_none h0 hset hclear⟩))

theorem readFlagCondition_isSome (b : Byte) :
    (readFlagCondition b).isSome = true ↔
      b.toNat = 0 ∨ (0x10 ≤ b.toNat ∧ b.toNat ≤ 0x17) ∨ (0x20 ≤ b.toNat ∧ b.toNat ≤ 0x27) := by
  obtain ⟨h, hr⟩ | ⟨f, h, hr⟩ | ⟨f, h, hr⟩ | ⟨h0, hset, hclear, hr⟩ := readFlagCondition_cases b
  · simp [hr, h]
  · simp only [hr, Option.isSome_some, true_iff]; omega
  · simp only [hr, Option.isSome_some, true_iff]; omega
  · simp only [hr, Option.isSome_none, Bool.false_eq_true, false_iff]
    rintro (h | ⟨hlow, hhigh⟩ | ⟨hlow, hhigh⟩)
    · exact h0 h
    · exact hset ⟨b.toNat - 0x10, by omega⟩ (by dsimp only; omega)
    · exact hclear ⟨b.toNat - 0x20, by omega⟩ (by dsimp only; omega)

/-- R71: the flag condition byte against the flags. -/
theorem readFlagCondition_holds (flags : BitVec 8) (b : Byte) :
    (readFlagCondition b).any (FlagCondition.holds flags) = true ↔
      b.toNat = 0 ∨ (∃ f : Fin 8, b.toNat = 0x10 + f.val ∧ flags.getLsbD f.val = true) ∨
        ∃ f : Fin 8, b.toNat = 0x20 + f.val ∧ flags.getLsbD f.val = false := by
  have hsame : ∀ f g : Fin 8, f.val = g.val ↔ g = f := fun f g => by rw [Fin.ext_iff, eq_comm]
  obtain ⟨h, hr⟩ | ⟨f, h, hr⟩ | ⟨f, h, hr⟩ | ⟨h0, hset, hclear, hr⟩ := readFlagCondition_cases b
  · simp [hr, h, FlagCondition.holds]
  · have hclear : ∀ g : Fin 8, 0x10 + f.val ≠ 0x20 + g.val := fun g => by omega
    simp [hr, h, hsame, hclear, FlagCondition.holds]
  · have hset : ∀ g : Fin 8, 0x20 + f.val ≠ 0x10 + g.val := fun g => by omega
    simp [hr, h, hsame, hset, FlagCondition.holds]
  · simp [hr, h0, hset, hclear]

theorem readExtras_isSome (b : Byte) : (readExtras b).isSome = true ↔ b.toNat ≤ 0x0F := by
  unfold readExtras
  split_ifs with h
  · exact iff_of_true rfl (Nat.le_of_lt_succ h)
  · exact iff_of_false Bool.false_ne_true fun hle => h (Nat.lt_succ_of_le hle)

/-- R71, section 11.7: the extras byte against the extras held. -/
theorem readExtras_within (held : Extras) (b : Byte) :
    (readExtras b).any (fun x => x.within held) = true ↔
      b.toNat ≤ 0x0F ∧ (b.toNat.testBit 0 = true → held.signature = true) ∧ (b.toNat.testBit 1 = true → held.fragile = true) ∧
        (b.toNat.testBit 2 = true → held.insured = true) ∧ (b.toNat.testBit 3 = true → held.proof = true) := by
  unfold readExtras
  split_ifs with h
  · simp [Extras.within, BitVec.getLsbD, Nat.le_of_lt_succ h, Bool.or_eq_true, imp_iff_not_or, and_assoc]
  · simp [Nat.not_le.mpr (Nat.lt_of_succ_le (Nat.not_lt.mp h))]

end Sys2Proof.Machine
end

section
/-! ANSWERS. The evaluator's check step (O26). -/

namespace Sys2Proof.Machine

/-! ### The parcel against the bytes of its schedule -/

/-- R84, R85: the refusal of the check step, from the bytes of the schedule and of the zone map. -/
def parcelRefusal (img : List Byte) (facts : Facts) (weight : Nat) : Option Reason :=
  let field (k size : Nat) : Nat := numAt img (scheduleOffset facts.service.val + k) size
  let zoneOfPrefix (digits : Nat) : Nat := byteAt img (32 + digits)
  if field 0 1 ≠ 1 then some .serviceNotOffered
  else if facts.destination = none then some .missingDestination
  else if (facts.destination.any fun d => decide (15 < zoneOfPrefix (d / 1000))) = true then some .destinationClosed
  else if field 10 2 < weight then some .overWeight
  else if (facts.dimensions.any fun x => decide (field 12 2 < longestSide x)) = true then some .overSize
  else if (facts.dimensions.any fun x => decide (field 14 2 < sideAndGirth x)) = true then some .overSize
  else if (facts.declared.any fun v => decide (field 17 4 < v)) = true then some .valueOverLimit
  else if field 1 1 = 1 ∧ facts.dimensions = none then some .missingDimensions
  else none

/-- R85: the limits, from the bytes of the schedule. -/
theorem limitRefusal_scheduleOf (img : List Byte) (n : Nat) (facts : Facts) (weight : Nat) :
    limitRefusal (scheduleOf img n) facts weight =
      if numAt img (scheduleOffset n + 10) 2 < weight then some .overWeight
      else if (facts.dimensions.any fun x => decide (numAt img (scheduleOffset n + 12) 2 < longestSide x)) = true then some .overSize
      else if (facts.dimensions.any fun x => decide (numAt img (scheduleOffset n + 14) 2 < sideAndGirth x)) = true then some .overSize
      else if (facts.declared.any fun v => decide (numAt img (scheduleOffset n + 17) 4 < v)) = true then some .valueOverLimit
      else if numAt img (scheduleOffset n + 1) 1 = 1 ∧ facts.dimensions = none then some .missingDimensions
      else none := by
  have hmissing : ((scheduleOf img n).volumetric && facts.dimensions.isNone) = true ↔
      numAt img (scheduleOffset n + 1) 1 = 1 ∧ facts.dimensions = none := by
    rw [scheduleOf_volumetric, Bool.and_eq_true, decide_eq_true_iff, Option.isNone_iff_eq_none]
  simp only [limitRefusal, hmissing]
  rfl

/-- R84, R85: the check step's refusals before the limits, and the limits. -/
theorem parcelRefusal_eq (img : List Byte) (facts : Facts) (weight : Nat) :
    parcelRefusal img facts weight =
      if numAt img (scheduleOffset facts.service.val + 0) 1 = 1 then
        match facts.destination with
        | none => some .missingDestination
        | some d =>
          if 15 < byteAt img (32 + d / 1000) then some .destinationClosed
          else limitRefusal (scheduleOf img facts.service.val) facts weight
      else some .serviceNotOffered := by
  rw [limitRefusal_scheduleOf]
  cases hd : facts.destination <;> simp [parcelRefusal, hd]

theorem checkParcel_refused {img : List Byte} {facts : Facts} {weight : Nat} {r : Reason}
    (h : parcelRefusal img facts weight = some r) : checkParcel img facts weight = .error r := by
  rw [parcelRefusal_eq] at h
  simp only [checkParcel, scheduleOf_offered, decide_eq_false_iff_not, ite_not]
  split_ifs at h ⊢ with hoff
  · cases hd : facts.destination with
    | none => rw [hd] at h; rw [Option.some.inj h]
    | some d =>
      simp only [hd] at h ⊢
      split_ifs at h with hclosed
      · rw [zoneOf_eq_none hclosed, Option.some.inj h]
      · rw [zoneOf_eq_some (zone := ⟨_, Nat.lt_succ_of_le (Nat.not_lt.mp hclosed)⟩) rfl]
        simp only [h]
  · rw [Option.some.inj h]

/-- R88: the chargeable weight and its kind, from the bytes of the schedule. -/
theorem chargeableWeight_scheduleOf (img : List Byte) (n weight : Nat) (dims : Option Dimensions) :
    let volume : Nat :=
      match dims with
      | some x =>
        (x.length * x.width * x.height + numAt img (scheduleOffset n + 4) 2 - 1) / numAt img (scheduleOffset n + 4) 2
      | none => 0
    let byVolume := numAt img (scheduleOffset n + 1) 1 = 1 ∧ weight < volume
    chargeableWeight (scheduleOf img n) weight dims =
      (if byVolume then volume else weight, if byVolume then .volumetric else .actual) := by
  dsimp only
  unfold chargeableWeight
  rw [scheduleOf_volumetric]
  by_cases hv : numAt img (scheduleOffset n + 1) 1 = 1
  · cases dims with
    | none => simp
    | some x =>
      have hvol : volumetricWeight (scheduleOf img n) x =
          (x.length * x.width * x.height + numAt img (scheduleOffset n + 4) 2 - 1) / numAt img (scheduleOffset n + 4) 2 := rfl
      simp only [hv, decide_true, hvol, true_and]
      split <;> rfl
  · simp [hv]

/-- R84 to R89: what the check step keeps of a parcel that passes. -/
theorem checkParcel_passed {img : List Byte} {facts : Facts} {weight d : Nat} {zone : Fin 16}
    (h : parcelRefusal img facts weight = none) (hd : facts.destination = some d)
    (hz : zone.val = byteAt img (32 + d / 1000)) :
    let c := chargeableWeight (scheduleOf img facts.service.val) weight facts.dimensions
    checkParcel img facts weight =
      .ok { zone := zone, chargeable := c.1, kind := c.2, steps := stepCount (scheduleOf img facts.service.val) c.1 } := by
  rw [parcelRefusal_eq] at h
  simp only [hd] at h
  split_ifs at h with hoff hclosed
  simp only [checkParcel, scheduleOf_offered, decide_eq_false_iff_not, not_not.mpr hoff, if_false, hd, zoneOf_eq_some hz, h]

/-! ### The check step -/

/-- R84, R86: the check step passes. -/
theorem State.checkStep_passed {op : Operation} {ev : Evaluation} {w : Working} {img : List Byte} {s : State}
    (he : s.evaluator.state = .evaluating op ev) (hh : ev.halt = none) (hc : ev.step = .check)
    (himg : (s.bank ev.bank).image = img) (hw : checkParcel img ev.facts ev.weight = .ok w) :
    s.checkStep =
      s.setEvaluatorState (.evaluating op
        { ev with
          step := if 0 < numAt img (scheduleOffset ev.facts.service.val + 3) 1 then .term 0 w else .delivery w }) := by
  simp only [State.checkStep, he, hh, hc, himg, hw, stepAfter, scheduleOf_termCount]

/-- R84, R87: the check step refuses. -/
theorem State.checkStep_refused {op : Operation} {ev : Evaluation} {r : Reason} {img : List Byte} {s : State}
    (he : s.evaluator.state = .evaluating op ev) (hh : ev.halt = none) (hc : ev.step = .check)
    (himg : (s.bank ev.bank).image = img) (hr : checkParcel img ev.facts ev.weight = .error r) :
    s.checkStep = (s.release ev.bank).endRating op r := by
  simp only [State.checkStep, he, hh, hc, himg, hr]

theorem State.bank_sent (b : BankId) (sent : List Sent) (s : State) :
    State.bank { s with sent := sent } b = s.bank b := by cases b <;> rfl

theorem State.releasedOn_sent (b : BankId) (sent : List Sent) (s : State) :
    State.releasedOn b { s with sent := sent } = s.releasedOn b := by cases b <;> rfl

/-- Settles O26, by whether the bytes of the schedule refuse the parcel. -/
theorem checkStepPassesOrRefuses : Obligations.CheckStepPassesOrRefuses := by
  intro op ev s hp he hh hc img field zoneOfPrefix refusal volume byVolume chargeable steps
  refine ⟨fun d zone hpass hd hz => ?_, fun r t i hrefuse hst ht hi hrating => ?_⟩
  · intro w
    have hw : checkParcel img ev.facts ev.weight = .ok w := by
      rw [checkParcel_passed hpass hd hz, chargeableWeight_scheduleOf]
      rfl
    refine (State.running_on _ s hp).trans (congrArg _ ?_)
    exact State.checkStep_passed (s := { s with sent := [] }) he hh hc (congrArg _ (State.bank_sent _ _ s)) hw
  · have hr : checkParcel img ev.facts ev.weight = .error r := checkParcel_refused hrefuse
    refine (State.running_on _ s hp).trans (congrArg _ ?_)
    rw [State.checkStep_refused (s := { s with sent := [] }) he hh hc (congrArg _ (State.bank_sent _ _ s)) hr,
      State.release_eq, State.releasedOn_sent]
    exact State.endRating_eq (s := { s with tariffs := s.releasedOn ev.bank, sent := [] }) r hst ht hi (.inr hrating)

end Sys2Proof.Machine
end

section
/-! ANSWERS. The evaluator's term step (O27): the bytes of a term, and what they make of the accumulator. -/

namespace Sys2Proof.Machine

/-! ### The term itself (R71 to R73, R90 to R94) -/

/-- R71, R90: the four conditions of a term, from its bytes. -/
theorem termOf_applies (img : List Byte) (n k : Nat) (flags : BitVec 8) (facts : Facts) (w : Working) :
    let field (offset size : Nat) : Nat := numAt img (termOffset img n k + offset) size
    let required (bit : Nat) : Bool := (field 2 1).testBit bit
    (termOf img n k).applies flags facts w = true ↔
      field 0 1 ≤ 5 ∧ (field 6 2).testBit w.zone.val = true ∧
        (field 2 1 ≤ 0x0F ∧ (required 0 = true → facts.extras.signature = true) ∧
          (required 1 = true → facts.extras.fragile = true) ∧ (required 2 = true → facts.extras.insured = true) ∧
          (required 3 = true → facts.extras.proof = true)) ∧
        (field 1 1 = 0 ∨ (∃ f : Fin 8, field 1 1 = 0x10 + f.val ∧ flags.getLsbD f.val = true) ∨
          ∃ f : Fin 8, field 1 1 = 0x20 + f.val ∧ flags.getLsbD f.val = false) ∧
        field 8 4 ≤ w.chargeable ∧ w.chargeable ≤ field 12 4 := by
  intro field required
  have hzone : (termOf img n k).zones.getLsbD w.zone.val = (field 6 2).testBit w.zone.val := by
    have hz : (termOf img n k).zones = BitVec.ofNat 16 (field 6 2) := rfl
    rw [hz, BitVec.getLsbD_ofNat, decide_eq_true w.zone.isLt, Bool.true_and]
  simp only [field, required, numAt_one, ← readBasis_isSome, ← readExtras_within, ← readFlagCondition_holds]
  simp only [RateTerm.applies, Bool.and_eq_true, decide_eq_true_iff, hzone, and_assoc]
  rfl

/-- R91 to R93: the contribution before the cap, by the basis byte of the term. -/
theorem RateTerm.raw_eq {t : RateTerm} {b : Byte} (hb : t.basis = readBasis b) (h5 : b.toNat ≤ 5) (facts : Facts) (w : Working)
    (accumulator : Int) :
    let quantity : Nat :=
      if b.toNat = 0 then 1
      else if b.toNat = 1 then w.steps
      else if b.toNat = 2 then w.chargeable - t.threshold
      else if b.toNat = 3 then (match facts.declared with | some v => (v + 99) / 100 | none => 0)
      else match facts.dimensions with | some x => sideAndGirth x - t.threshold | none => 0
    t.raw facts w accumulator =
      if b.toNat = 5 then (accumulator * t.coefficient).tdiv 10000 else t.coefficient * quantity := by
  obtain ⟨h, hr⟩ | ⟨h, hr⟩ | ⟨h, hr⟩ | ⟨h, hr⟩ | ⟨h, hr⟩ | ⟨h, hr⟩ | ⟨h, -⟩ := readBasis_cases b
  case inr.inr.inr.inr.inr.inr => exact absurd h5 (Nat.not_le.mpr h)
  all_goals
    rw [hr] at hb
    simp only [RateTerm.raw, hb, h, quantityOf]
    rfl

/-- R73, R92: the cap holds a contribution with its sign. -/
theorem capped_eq (cap : Nat) (raw : Int) : capped cap raw = if 0 < cap ∧ cap < raw.natAbs then raw.sign * cap else raw := by
  unfold capped
  split_ifs with hcap hneg
  · rw [Int.sign_eq_neg_one_of_neg hneg, Int.neg_one_mul]
  · rw [Int.sign_eq_one_of_pos (by omega), Int.one_mul]
  · rfl

/-- R94: the accumulator held within its bounds. -/
theorem saturate_eq (sum : Int) : saturate sum = max (-(2 ^ 47 - 1)) (min (2 ^ 47 - 1) sum) := by
  simp only [saturate, Config.accumulatorMax]
  split_ifs <;> omega

/-- R94: when the SAT mark is set. -/
theorem saturate_ne (sum : Int) :
    decide (saturate sum ≠ sum) = (decide (2 ^ 47 - 1 < sum) || decide (sum < -(2 ^ 47 - 1))) := by
  rw [saturate_eq, ← Bool.decide_or, decide_eq_decide]
  omega

theorem Evaluation.takeTerm_applies {t : RateTerm} {w : Working} {ev : Evaluation} {c : Int} (k : Nat)
    (h : t.applies ev.flags ev.facts w = true) (hc : capped t.cap (t.raw ev.facts w ev.accumulator) = c) :
    ev.takeTerm t k w =
      { ev with
        accumulator := max (-(2 ^ 47 - 1)) (min (2 ^ 47 - 1) (ev.accumulator + c))
        marks :=
          { ev.marks with
            sat := ev.marks.sat || decide (2 ^ 47 - 1 < ev.accumulator + c) || decide (ev.accumulator + c < -(2 ^ 47 - 1)) }
        trace := ev.trace ++ [⟨k, c⟩] } := by
  simp only [Evaluation.takeTerm, if_pos h, hc, saturate_ne, Bool.or_assoc]
  rw [saturate_eq]

theorem Evaluation.takeTerm_skips {t : RateTerm} {w : Working} {ev : Evaluation} (k : Nat)
    (h : ¬t.applies ev.flags ev.facts w = true) : ev.takeTerm t k w = ev := if_neg h

/-! ### The term step -/

/-- R83, R90: the next term is taken. -/
theorem State.termStep_eq {op : Operation} {ev : Evaluation} {k : Nat} {w : Working} {img : List Byte} {s : State}
    (he : s.evaluator.state = .evaluating op ev) (hh : ev.halt = none) (hk : ev.step = .term k w)
    (himg : (s.bank ev.bank).image = img) :
    s.termStep =
      s.setEvaluatorState (.evaluating op
        { ev.takeTerm (termOf img ev.facts.service.val k) k w with step := stepAfter img ev.facts.service (k + 1) w }) := by
  simp only [State.termStep, he, hh, hk, himg]

/-- Settles O27, by whether the four conditions of the term hold. -/
theorem termStepAddsContribution : Obligations.TermStepAddsContribution := by
  intro op ev k w s hp he hh hk img at_ field basis required coefficient inZone hasExtras flagHolds inBand quantity raw cap
    contribution sum next after
  have hstep : exec .termStep s =
      after { ev.takeTerm (termOf img ev.facts.service.val k) k w with step := next } :=
    (State.running_on _ s hp).trans (congrArg _
      (State.termStep_eq (s := { s with sent := [] }) he hh hk (congrArg _ (State.bank_sent _ _ s))))
  have happlies : (termOf img ev.facts.service.val k).applies ev.flags ev.facts w = true ↔
      basis ≤ 5 ∧ inZone ∧ hasExtras ∧ flagHolds ∧ inBand := termOf_applies img ev.facts.service.val k ev.flags ev.facts w
  rw [hstep]
  split_ifs with h
  · have hbasis : basis = (imgByte img at_).toNat := numAt_one img at_
    have hraw : (termOf img ev.facts.service.val k).raw ev.facts w ev.accumulator = raw := by
      rw [RateTerm.raw_eq rfl (hbasis ▸ h.1)]
      simp only [raw, quantity, hbasis]
      rfl
    rw [Evaluation.takeTerm_applies k (happlies.mpr h) (by rw [hraw, capped_eq])]
    rfl
  · rw [Evaluation.takeTerm_skips k (mt happlies.mp h)]

end Sys2Proof.Machine
end

section
/-! SUPPORT. The search of R75 over the parts of an image: the first part that a check of the model finds failing is the first that `partsInOrder` lists. -/

namespace Sys2Proof.Machine

/-! ### The search over parts -/

theorem find?_cons_ite {α : Type} (p : α → Bool) (x : α) (xs : List α) :
    (x :: xs).find? p = if p x = true then some x else xs.find? p := by
  rw [List.find?_cons]
  cases p x <;> rfl

theorem find?_never {α : Type} {p : α → Bool} (h : ∀ x, p x = false) (xs : List α) : xs.find? p = none := by
  simp [List.find?_eq_none, h]

/-- R75: the first part found failing in schedule `n`: the schedule itself, or one of its terms. -/
def foundInSchedule (img : List Byte) (fails : ImagePart → Bool) (n : Nat) : Option ImagePart :=
  if fails (.schedule n) = true then some (.schedule n)
  else ((List.range (byteAt img (scheduleOffset n + 3))).find? fun k => fails (.term n k)).map (.term n)

/-- R75: the order of the search: the header, the zone map, then each schedule. -/
theorem find?_partsInOrder (img : List Byte) (fails : ImagePart → Bool) :
    (partsInOrder img).find? fails =
      if fails .header = true then some .header
      else
        (((List.range 1000).find? fun digits => fails (.zoneMap digits)).map .zoneMap).or
          ((List.range 8).findSome? (foundInSchedule img fails)) := by
  rw [partsInOrder, List.cons_append, find?_cons_ite, List.find?_append, List.find?_map, List.find?_flatMap]
  simp only [find?_cons_ite, List.find?_map, Function.comp_def]
  rfl

/-- R75: a check that does not look at the zone map. -/
theorem find?_partsInOrder_zoneless {img : List Byte} {fails : ImagePart → Bool} (hz : ∀ digits, fails (.zoneMap digits) = false) :
    (partsInOrder img).find? fails =
      if fails .header = true then some .header else (List.range 8).findSome? (foundInSchedule img fails) := by
  rw [find?_partsInOrder, find?_never hz, Option.map_none, Option.none_or]

theorem firstFailing_overSchedules (f : Nat → List (ImagePart × Bool)) :
    firstFailing (overSchedules f) = (List.range 8).findSome? fun n => firstFailing (f n) := by
  simp only [firstFailing, overSchedules, List.find?_flatMap, List.map_findSome?, Function.comp_def]

theorem firstFailing_overTerms (img : List Byte) (n : Nat) (ok : RateTerm → Bool) :
    firstFailing (overTerms img n ok) =
      ((List.range (byteAt img (scheduleOffset n + 3))).find? fun k => !ok (termOf img n k)).map (.term n) := by
  simp only [firstFailing, overTerms, List.find?_map, Option.map_map, Function.comp_def]
  rfl

theorem firstFailing_cons (part : ImagePart) (ok : Bool) (rest : List (ImagePart × Bool)) :
    firstFailing ((part, ok) :: rest) = if (!ok) = true then some part else firstFailing rest := by
  cases ok <;> rfl

theorem firstFailing_append (xs ys : List (ImagePart × Bool)) :
    firstFailing (xs ++ ys) = (firstFailing xs).or (firstFailing ys) := by
  simp only [firstFailing, List.find?_append, Option.map_or]

theorem firstFailing_zones (ok : Nat → Bool) :
    firstFailing ((List.range 1000).map fun digits => (ImagePart.zoneMap digits, ok digits)) =
      ((List.range 1000).find? fun digits => !ok digits).map .zoneMap := by
  simp only [firstFailing, List.find?_map, Option.map_map, Function.comp_def]

/-- R75: the parts of a schedule, as the model lists them for a check. -/
theorem foundInSchedule_eq {img : List Byte} {fails : ImagePart → Bool} {ok : Bool} {okTerm : RateTerm → Bool} {n : Nat}
    (hs : fails (.schedule n) = !ok) (ht : ∀ k, fails (.term n k) = !okTerm (termOf img n k)) :
    foundInSchedule img fails n = firstFailing ((.schedule n, ok) :: overTerms img n okTerm) := by
  simp only [foundInSchedule, firstFailing_cons, firstFailing_overTerms, hs, ht]

/-- R75: the first of the eight schedules with a fault, no term being looked at. -/
def faultySchedule (faulty : Nat → Bool) : Option ImagePart :=
  (List.range 8).findSome? fun n => if faulty n = true then some (.schedule n) else none

theorem faultySchedule_eq_none (faulty : Nat → Bool) : faultySchedule faulty = none ↔ ∀ n : Fin 8, faulty n.val = false := by
  rw [faultySchedule, List.findSome?_eq_none_iff]
  exact ⟨fun h n => by simpa using h n (List.mem_range.mpr n.isLt), fun h n hn => by simp [h ⟨n, List.mem_range.mp hn⟩]⟩

theorem faultySchedule_congr {p q : Nat → Bool} (h : ∀ n : Fin 8, p n.val = q n.val) : faultySchedule p = faultySchedule q := by
  have hfin : ∀ r : Nat → Bool, faultySchedule r =
      (List.finRange 8).findSome? fun n => if r n.val = true then some (.schedule n.val) else none := fun r => rfl
  simp only [hfin, h]

/-- R75: a check that looks at the header and the schedules. -/
theorem find?_partsInOrder_termless {img : List Byte} {fails : ImagePart → Bool} (hz : ∀ digits, fails (.zoneMap digits) = false)
    (ht : ∀ n k, fails (.term n k) = false) :
    (partsInOrder img).find? fails =
      if fails .header = true then some .header else faultySchedule fun n => fails (.schedule n) := by
  have hschedule : ∀ n, foundInSchedule img fails n = if fails (.schedule n) = true then some (.schedule n) else none := fun n => by
    rw [foundInSchedule, find?_never (ht n), Option.map_none]
  rw [find?_partsInOrder_zoneless hz, funext hschedule, faultySchedule]

/-- R75: a check that looks at the header only. -/
theorem find?_partsInOrder_header {img : List Byte} {fails : ImagePart → Bool} (hz : ∀ digits, fails (.zoneMap digits) = false)
    (hs : ∀ n, fails (.schedule n) = false) (ht : ∀ n k, fails (.term n k) = false) :
    (partsInOrder img).find? fails = if fails .header = true then some .header else none := by
  rw [find?_partsInOrder_termless hz ht, (faultySchedule_eq_none _).mpr fun n => hs n.val]

/-- R75, check 5: a schedule with too many terms comes first; then, where the length is not right, the first schedule that is late, or else the header. -/
theorem faultySchedule_manyThenLate {many late faulty : Nat → Bool} {header : Bool} {right : Prop} [Decidable right]
    (hheader : header = true ↔ (∀ m : Fin 8, many m.val = false) ∧ ¬right ∧ ∀ m : Fin 8, late m.val = false)
    (hfaulty : ∀ n, faulty n = true ↔ many n = true ∨ (∀ m : Fin 8, many m.val = false) ∧ ¬right ∧ late n = true) :
    (if header = true then some .header else faultySchedule faulty) =
      (faultySchedule many).or (if right then none else (faultySchedule late).or (some .header)) := by
  simp only [hheader, ← faultySchedule_eq_none] at hfaulty ⊢
  cases hmany : faultySchedule many with
  | some part =>
    have hsame : faultySchedule faulty = faultySchedule many :=
      faultySchedule_congr fun m => by rw [Bool.eq_iff_iff, hfaulty]; simp [hmany]
    simp [hsame, hmany]
  | none =>
    have hfew := (faultySchedule_eq_none many).mp hmany
    by_cases hright : right
    · have hclean : faultySchedule faulty = none :=
        (faultySchedule_eq_none _).mpr fun m => by rw [← Bool.not_eq_true, hfaulty]; simp [hfew m, hright]
      simp [hclean, hright]
    · have hsame : faultySchedule faulty = faultySchedule late :=
        faultySchedule_congr fun m => by rw [Bool.eq_iff_iff, hfaulty]; simp [hfew m, hmany, hright]
      cases hlate : faultySchedule late <;> simp [hsame, hright, hlate]

theorem firstFailing_scheduleList (ok : Nat → Bool) :
    firstFailing (overSchedules fun n => [(.schedule n, ok n)]) = faultySchedule fun n => !ok n := by
  simp only [firstFailing_overSchedules, firstFailing_cons]
  rfl

/-! ### The checks one by one (R74) -/

section
variable (bk : Bank) (d : Declared) (office : Option Nat)

/-- R75: the part that check `check` finds failing. -/
def foundBy (check : Nat) : Option ImagePart := (partsInOrder bk.image).find? (partFails bk d office check)

/-- R65: the check value of an image. -/
theorem checkValue_eq (img : List Byte) : checkValue img = computedCheck img := rfl

theorem foundBy_header {check : Nat} {P : Prop} [Decidable P] {ok : Bool} (hok : ok = true ↔ P)
    (hh : partFails bk d office check .header = !decide P) (hz : ∀ digits, partFails bk d office check (.zoneMap digits) = false)
    (hs : ∀ n, partFails bk d office check (.schedule n) = false) (ht : ∀ n k, partFails bk d office check (.term n k) = false) :
    foundBy bk d office check = if ok = false then some .header else none := by
  have hfails : partFails bk d office check .header = true ↔ ok = false := by
    rw [hh, Bool.not_eq_true', decide_eq_false_iff_not, ← hok, Bool.not_eq_true]
  simp only [foundBy, find?_partsInOrder_header hz hs ht, hfails]

/-- R74 check 1. -/
theorem foundBy_check1 : foundBy bk d office 1 = if check1 bk.image d.length = false then some .header else none := by
  refine foundBy_header bk d office ?_ rfl (fun _ => rfl) (fun _ => rfl) fun _ _ => rfl
  simp only [check1, Bool.and_eq_true, beq_iff_eq, decide_eq_true_iff, and_assoc]
  rfl

/-- R74 check 2. -/
theorem foundBy_check2 : foundBy bk d office 2 = if check2 bk.image d.check = false then some .header else none := by
  refine foundBy_header bk d office ?_ rfl (fun _ => rfl) (fun _ => rfl) fun _ _ => rfl
  simp only [check2, Bool.and_eq_true, beq_iff_eq, ← checkValue_eq]
  rfl

/-- R74 check 3. -/
theorem foundBy_check3 : foundBy bk d office 3 = if check3 bk.image office = false then some .header else none :=
  foundBy_header bk d office beq_iff_eq rfl (fun _ => rfl) (fun _ => rfl) fun _ _ => rfl

/-- R74 check 4. -/
theorem foundBy_check4 :
    foundBy bk d office 4 = if check4 bk.image bk.tariffId bk.effective = false then some .header else none := by
  refine foundBy_header bk d office ?_ rfl (fun _ => rfl) (fun _ => rfl) fun _ _ => rfl
  simp only [check4, Bool.and_eq_true, beq_iff_eq, decide_eq_true_iff, and_assoc]
  rfl

/-- R74 check 5, R75: a term count above 24, or the schedule at which the running sum exceeds what the length holds. -/
theorem check5_eq (img : List Byte) :
    check5 img =
      (faultySchedule fun n => decide (24 < numAt img (scheduleOffset n + 3) 1)).or
        (if img.length = 1416 + 28 * termsBefore img 8 then none
        else (faultySchedule fun n => decide ((img.length - 1416) / 28 < termsBefore img (n + 1))).or (some .header)) := by
  have hmany : (fun n => !decide ((scheduleOf img n).termCount ≤ 24)) =
      fun n => decide (24 < numAt img (scheduleOffset n + 3) 1) := funext fun n => by
    rw [scheduleOf_termCount, ← decide_not, decide_eq_decide, Nat.not_le]
  have hlate : (fun n => !decide (termsBefore img (n + 1) ≤ (img.length - Config.imageFixed) / 28)) =
      fun n => decide ((img.length - 1416) / 28 < termsBefore img (n + 1)) := funext fun n => by
    rw [← decide_not, decide_eq_decide, Nat.not_le]
    rfl
  rw [check5, firstFailing_scheduleList, firstFailing_scheduleList, hmany, hlate]
  cases faultySchedule fun n => decide (24 < numAt img (scheduleOffset n + 3) 1) with
  | some part => rfl
  | none => cases faultySchedule fun n => decide ((img.length - 1416) / 28 < termsBefore img (n + 1)) <;> rfl

/-- R74 check 5. -/
theorem foundBy_check5 : foundBy bk d office 5 = check5 bk.image := by
  rw [foundBy, find?_partsInOrder_termless (fun _ => rfl) (fun _ _ => rfl), check5_eq]
  refine faultySchedule_manyThenLate ?_ fun n => ?_
  · simp only [decide_eq_false_iff_not, Nat.not_lt, termsBefore_eq]
    exact decide_eq_true_iff
  · simp only [decide_eq_false_iff_not, decide_eq_true_iff, Nat.not_lt, termsBefore_eq]
    exact decide_eq_true_iff

/-- R74 check 6: a zone map entry. -/
theorem zone_outOfRange (img : List Byte) (digits : Nat) :
    (!(decide ((zoneByte img digits).toNat < 16) || zoneByte img digits == 0xFF)) =
      decide (15 < byteAt img (32 + digits) ∧ byteAt img (32 + digits) ≠ 0xFF) := by
  have hff : zoneByte img digits = 0xFF ↔ byteAt img (32 + digits) = 0xFF := Byte.eq_ofNat_iff (by decide) _
  rw [Bool.eq_iff_iff, Bool.not_eq_true', ← Bool.not_eq_true, Bool.or_eq_true, decide_eq_true_iff, beq_iff_eq, hff, not_or,
    decide_eq_true_iff, Nat.not_lt]
  rfl

/-- R74 check 6: the named values of a term. -/
theorem term_named (img : List Byte) (n k : Nat) :
    let term (field size : Nat) : Nat := numAt img (termOffset img n k + field) size
    ((termOf img n k).basis.isSome && (termOf img n k).flag.isSome && (termOf img n k).extras.isSome) =
      decide (term 0 1 ≤ 5 ∧
        (term 1 1 = 0 ∨ (0x10 ≤ term 1 1 ∧ term 1 1 ≤ 0x17) ∨ (0x20 ≤ term 1 1 ∧ term 1 1 ≤ 0x27)) ∧ term 2 1 ≤ 0x0F) := by
  intro term
  simp only [term, numAt_one, ← readBasis_isSome, ← readFlagCondition_isSome, ← readExtras_isSome]
  rw [Bool.eq_iff_iff, Bool.and_eq_true, Bool.and_eq_true, decide_eq_true_iff, and_assoc]
  rfl

/-- R74 check 6: the named values of a schedule. -/
theorem schedule_unnamed (img : List Byte) (n : Nat) :
    let schedule (field size : Nat) : Nat := numAt img (scheduleOffset n + field) size
    (!(decide ((imgByte img (scheduleAt n)).toNat ≤ 1) && decide ((imgByte img (scheduleAt n + 1)).toNat ≤ 1) &&
        (scheduleOf img n).rounding.isSome)) =
      decide (1 < schedule 0 1 ∨ 1 < schedule 1 1 ∨ 2 < schedule 2 1) := by
  intro schedule
  have hround : (scheduleOf img n).rounding.isSome = true ↔ (imgByte img (scheduleOffset n + 2)).toNat ≤ 2 :=
    readRounding_isSome _
  simp only [schedule, numAt_one]
  rw [Bool.eq_iff_iff, Bool.not_eq_true', ← Bool.not_eq_true, Bool.and_eq_true, Bool.and_eq_true, decide_eq_true_iff,
    decide_eq_true_iff, hround, decide_eq_true_iff, not_and_or, not_and_or, Nat.not_le, Nat.not_le, Nat.not_le, or_assoc]
  rfl

/-- R74 check 6. -/
theorem foundBy_check6 : foundBy bk d office 6 = check6 bk.image := by
  have hschedule : ∀ n, foundInSchedule bk.image (partFails bk d office 6) n = firstFailing _ := fun n =>
    foundInSchedule_eq (okTerm := fun t => t.basis.isSome && t.flag.isSome && t.extras.isSome)
      (schedule_unnamed bk.image n).symm (fun k => congrArg not (term_named bk.image n k).symm)
  have hzone : ∀ digits, partFails bk d office 6 (.zoneMap digits) = !_ := fun digits => (zone_outOfRange bk.image digits).symm
  have hheader : ¬partFails bk d office 6 .header = true := Bool.false_ne_true
  rw [foundBy, find?_partsInOrder, if_neg hheader, funext hzone, funext hschedule, check6, firstFailing_append, firstFailing_zones,
    firstFailing_overSchedules]

/-- R74 check 7: the fields of a schedule in their ranges. -/
theorem scheduleOf_inRange (img : List Byte) (n : Nat) :
    let schedule (field size : Nat) : Nat := numAt img (scheduleOffset n + field) size
    (scheduleOf img n).inRange =
      decide ((schedule 1 1 = 1 → 1000 ≤ schedule 4 2 ∧ schedule 4 2 ≤ 20000) ∧
        (1 ≤ schedule 8 2 ∧ schedule 8 2 ≤ 10000) ∧ 1 ≤ schedule 10 2 ∧
        (1 ≤ schedule 12 2 ∧ schedule 12 2 ≤ 2000) ∧ (1 ≤ schedule 14 2 ∧ schedule 14 2 ≤ 10000) ∧
        (1 ≤ schedule 16 1 ∧ schedule 16 1 ≤ 100) ∧ schedule 17 4 ≤ 9999999 ∧ schedule 21 4 ≤ 9999999 ∧
        schedule 21 4 % schedule 16 1 = 0) := by
  intro schedule
  have hgranule : (scheduleOf img n).granule = schedule 16 1 := (numAt_one img _).symm
  have hrest : (scheduleOf img n).divisor = schedule 4 2 ∧ (scheduleOf img n).stepWeight = schedule 8 2 ∧
      (scheduleOf img n).maxWeight = schedule 10 2 ∧ (scheduleOf img n).maxSide = schedule 12 2 ∧
      (scheduleOf img n).maxLengthGirth = schedule 14 2 ∧ (scheduleOf img n).maxValue = schedule 17 4 ∧
      (scheduleOf img n).ceiling = schedule 21 4 := ⟨rfl, rfl, rfl, rfl, rfl, rfl, rfl⟩
  rw [Bool.eq_iff_iff, decide_eq_true_iff]
  simp only [Schedule.inRange, scheduleOf_volumetric, hgranule, hrest, Bool.and_eq_true, Bool.or_eq_true, Bool.not_eq_true',
    decide_eq_true_iff, decide_eq_false_iff_not, ← imp_iff_not_or]
  tauto

/-- R74 check 7. -/
theorem foundBy_check7 : foundBy bk d office 7 = check7 bk.image := by
  have hfails : ∀ n, partFails bk d office 7 (.schedule n) = !(!(scheduleOf bk.image n).offered || (scheduleOf bk.image n).inRange) :=
    fun n => by rw [scheduleOf_offered, scheduleOf_inRange, Bool.not_or, Bool.not_not]; rfl
  rw [foundBy, find?_partsInOrder_termless (fun _ => rfl) (fun _ _ => rfl), funext hfails, check7, firstFailing_scheduleList]
  rfl

/-- R74 checks 8 and 9: a check that looks at the terms only. -/
theorem foundBy_terms {check : Nat} {okTerm : RateTerm → Bool} (hh : partFails bk d office check .header = false)
    (hz : ∀ digits, partFails bk d office check (.zoneMap digits) = false)
    (hs : ∀ n, partFails bk d office check (.schedule n) = false)
    (ht : ∀ n k, partFails bk d office check (.term n k) = !okTerm (termOf bk.image n k)) :
    foundBy bk d office check = firstFailing (overSchedules fun n => overTerms bk.image n okTerm) := by
  have hschedule : ∀ n, foundInSchedule bk.image (partFails bk d office check) n = firstFailing (overTerms bk.image n okTerm) :=
    fun n => foundInSchedule_eq (ok := true) (hs n) (ht n)
  rw [foundBy, find?_partsInOrder_zoneless hz, hh, if_neg Bool.false_ne_true, funext hschedule, firstFailing_overSchedules]

/-- R74 check 8. -/
theorem foundBy_check8 : foundBy bk d office 8 = check8 bk.image := by
  refine foundBy_terms bk d office rfl (fun _ => rfl) (fun _ => rfl) fun n k => ?_
  have hpercent : ((termOf bk.image n k).basis != some .percent) = !decide (numAt bk.image (termOffset bk.image n k + 0) 1 = 5) := by
    rw [Bool.eq_iff_iff, bne_iff_ne, Bool.not_eq_true', decide_eq_false_iff_not, numAt_one]
    exact not_congr (readBasis_eq_percent _)
  rw [RateTerm.capOk, hpercent, Bool.not_and, Bool.not_or, Bool.not_not, ← decide_not, decide_eq_decide.mpr Nat.not_le]
  rfl

/-- R74 check 9. -/
theorem foundBy_check9 : foundBy bk d office 9 = check9 bk.image := by
  refine foundBy_terms bk d office rfl (fun _ => rfl) (fun _ => rfl) fun n k => ?_
  rw [← decide_not, decide_eq_decide.mpr Nat.not_le]
  rfl

end

/-! ### The nine checks in order -/

/-- R74: the reason that a check gives. -/
def faultOfCheck (check : Nat) : ImageFault :=
  if check = 2 then .checkFault else if check = 3 then .officeFault else .structureFault

theorem firstFailure_eq (bk : Bank) (d : Declared) (office : Option Nat) :
    firstFailure bk d office =
      (List.range' 1 9).findSome? fun check => (foundBy bk d office check).map fun part => (check, part) := rfl

/-- R74, R75: the image of a LOADING bank is refused for the first failure, with its locator. -/
theorem imageFault_eq {bk : Bank} {d : Declared} (office : Option Nat) (hd : bk.declared = some d) :
    imageFault bk office = (firstFailure bk d office).map fun x => ⟨faultOfCheck x.1, x.1, x.2⟩ := by
  rw [firstFailure_eq]
  simp only [imageFault, hd, List.range', List.findSome?_cons, List.findSome?_nil, Nat.reduceAdd, foundBy_check1, foundBy_check2,
    foundBy_check3, foundBy_check4, foundBy_check5, foundBy_check6, foundBy_check7, foundBy_check8, foundBy_check9]
  cases check1 bk.image d.length
  · rfl
  cases check2 bk.image d.check
  · rfl
  cases check3 bk.image office
  · rfl
  cases check4 bk.image bk.tariffId bk.effective
  · rfl
  cases check5 bk.image
  case some => rfl
  cases check6 bk.image
  case some => rfl
  cases check7 bk.image
  case some => rfl
  cases check8 bk.image
  case some => rfl
  cases check9 bk.image <;> rfl

end Sys2Proof.Machine
end

section
/-! ANSWERS. LOAD-END (O44). -/

namespace Sys2Proof.Machine

/-- R108: no bank is LOADING. -/
theorem State.loadingBank_eq_none {s : State} (h : ∀ b, (s.bank b).state ≠ .loading) : s.loadingBank = none := by
  have hA : s.tariffs.bankA.state ≠ .loading := h .A
  have hB : s.tariffs.bankB.state ≠ .loading := h .B
  simp only [State.loadingBank, hA, hB, if_false]

/-- R108: the bank that alone is LOADING. -/
theorem State.loadingBank_eq_some {s : State} {b : BankId} (hb : (s.bank b).state = .loading)
    (ho : (s.bank b.other).state ≠ .loading) : s.loadingBank = some b := by
  cases b with
  | A =>
    change s.tariffs.bankA.state = .loading at hb
    simp only [State.loadingBank, hb, if_true]
  | B =>
    change s.tariffs.bankB.state = .loading at hb
    change s.tariffs.bankA.state ≠ .loading at ho
    simp only [State.loadingBank, hb, ho, if_true, if_false]

theorem Locator.bytes_eq (x : Locator) : x.bytes = locatorBytes x.check x.part := by
  obtain ⟨fault, check, part⟩ := x
  cases part <;> rfl

/-- R74: the reason code of a check. -/
theorem faultOfCheck_reason (check : Nat) :
    (faultOfCheck check).reason = if check = 2 then .check else if check = 3 then .office else .structureFault := by
  unfold faultOfCheck
  split_ifs <;> rfl

/-- R107, R111, R124: the image of a bank is admitted. -/
theorem State.admitImage_eq (b : BankId) (s : State) :
    s.admitImage b =
      State.withBanksStored
        { s with
          tariffs :=
            { (s.setBank b ((s.bank b).loadedWith (s.tariffs.counter + 1))).tariffs with
              counter := s.tariffs.counter + 1, lastLoaded := some b } } := by
  unfold State.admitImage
  rw [State.saveTariffs_eq]
  cases b <;> rfl

theorem State.admitImage_bank (b : BankId) (s : State) :
    (s.admitImage b).bank b = (s.bank b).loadedWith (s.tariffs.counter + 1) := by
  cases b <;> rfl

/-- R114: an activation sends nothing. -/
theorem State.withActivation_sent (b : BankId) (x : Sent) (s : State) :
    { s.withActivation b with sent := x :: (s.withActivation b).sent } = State.withActivation b { s with sent := x :: s.sent } := by
  have hbank : ∀ c, State.bank { s with sent := x :: s.sent } c = s.bank c := fun c => State.bank_sent c _ s
  unfold State.withActivation
  simp only [hbank]
  cases (s.bank b.other).state with
  | active => split_ifs <;> cases b <;> rfl
  | loaded =>
    cases (s.bank b.other).effective with
    | none => cases b <;> rfl
    | some e' => cases (s.bank b).effective <;> cases b <;> rfl
  | empty => cases b <;> rfl
  | loading => cases b <;> rfl
  | retiring => cases b <;> rfl

theorem State.afterCommand_bank (b : BankId) (rest : List Frame) (sent : List Sent) (s : State) :
    (s.afterCommand rest sent).bank b = s.bank b := by cases b <;> rfl

/-- R108: LOAD-END without a LOADING bank. -/
theorem serveLoadEnd_none {s : State} (hno : ∀ b, (s.bank b).state ≠ .loading) : serveLoadEnd () s = (s, .refused .state []) := by
  simp only [serveLoadEnd, State.loadingBank_eq_none hno]

section
variable {b : BankId} {d : Declared} {s : State}

/-- R74, R75, R111: LOAD-END of an image that fails a check. -/
theorem serveLoadEnd_refused {x : Nat × ImagePart} (hb : (s.bank b).state = .loading) (ho : (s.bank b.other).state ≠ .loading)
    (hd : (s.bank b).declared = some d) (hx : firstFailure (s.bank b) d s.allocator.officeCode = some x) :
    serveLoadEnd () s = (s.setBank b .blank, .refused (faultOfCheck x.1).reason (locatorBytes x.1 x.2)) := by
  simp only [serveLoadEnd, State.loadingBank_eq_some hb ho, imageFault_eq _ hd, hx, Option.map_some, Locator.bytes_eq]

/-- R111, R113: an admitted image is due by its own effective time. -/
theorem State.admitImage_due (b : BankId) (s : State) :
    (s.clock.valid && ((s.admitImage b).bank b).due s.clock.value) =
      decide (s.clock.valid = true ∧ (BitVec.ofNat 32 (numAt (s.bank b).image 4 4)).toNat ≤ s.clock.value.toNat) := by
  rw [State.admitImage_bank, Bool.eq_iff_iff, Bool.and_eq_true, Bank.due_iff, decide_eq_true_iff]
  exact and_congr_right' ⟨fun ⟨_, _, he, hle⟩ => by cases he; exact hle, fun hle => ⟨rfl, _, rfl, hle⟩⟩

/-- R107, R111: LOAD-END of an image that passes the nine checks. -/
theorem serveLoadEnd_valid {due : Prop} [Decidable due] (hb : (s.bank b).state = .loading)
    (ho : (s.bank b.other).state ≠ .loading) (hd : (s.bank b).declared = some d)
    (hx : firstFailure (s.bank b) d s.allocator.officeCode = none)
    (hdue : (s.clock.valid && ((s.admitImage b).bank b).due s.clock.value) = decide due) :
    serveLoadEnd () s =
      (if due then (s.admitImage b).withActivation b else s.admitImage b,
        .done (bankCode b :: leBytes 2 (s.tariffs.counter + 1).toNat ++ [boolByte (decide due)])) := by
  simp only [serveLoadEnd, State.loadingBank_eq_some hb ho, imageFault_eq _ hd, hx, Option.map_none, hdue, decide_eq_true_iff,
    State.activate_eq]

end

/-- Settles O44, by the first check that fails, if one does. -/
theorem loadEndValidates : Obligations.LoadEndValidates := by
  intro tag rest s hw f
  have hread : readNothing [] = some () := rfl
  have hbank : ∀ b, (s.afterCommand rest []).bank b = s.bank b := fun b => State.afterCommand_bank b rest [] s
  refine ⟨fun hno => ?_, fun b d hb ho hd => ?_⟩
  · have hserve := serveLoadEnd_none (s := s.afterCommand rest []) fun b => by rw [hbank]; exact hno b
    exact State.running_command_answered hw hread hserve
  · intro bk g effective loaded due after
    cases hfirst : firstFailure bk d s.allocator.officeCode with
    | some x =>
      simp only [bk, ← hbank] at hb ho hd hfirst
      refine (State.running_command_answered hw hread (serveLoadEnd_refused hb ho hd hfirst)).trans (congrArg _ ?_)
      rw [faultOfCheck_reason]
      cases b <;> rfl
    | none =>
      have hdue := State.admitImage_due b (s.afterCommand rest [])
      rw [hbank] at hdue
      simp only [bk, ← hbank] at hb ho hd hfirst
      refine (State.running_command_answered hw hread (serveLoadEnd_valid (due := due) hb ho hd hfirst hdue)).trans (congrArg _ ?_)
      have hafter : ∀ x, { (s.afterCommand rest []).admitImage b with
          sent := x :: ((s.afterCommand rest []).admitImage b).sent } = { after with sent := [x] } := fun x => by
        rw [State.admitImage_eq]
        cases b <;> rfl
      change _ = if due then after.withActivation b else after
      split_ifs
      · exact (State.withActivation_sent b _ _).trans (congrArg (State.withActivation b) (hafter _))
      · exact hafter _

end Sys2Proof.Machine
end

section
/-! ANSWERS. The halt of an evaluation (O30). -/

namespace Sys2Proof.Machine

/-- R102, R104: with CANCELLED or RE-RATE the item is returned and one RATE-DONE with the reason is handed over. -/
theorem State.haltEvaluation_returns {op : Operation} {ev : Evaluation} {t : Transaction} {i : Item} {s : State}
    (he : s.evaluator.state = .evaluating op ev) (hh : ev.halt = some .cancelled ∨ ev.halt = some .reRate)
    (hs : (s.ctx op.position).state = .inTransaction) (ht : (s.ctx op.position).transaction = some t)
    (hi : tget t op.slot = some i) (hr : i.state = .rating) :
    s.haltEvaluation =
      State.withRateDone op op.slot (tset t op.slot (some { i with state := .weighed, quote := none }))
        (if ev.halt = some .cancelled then .cancelled else .reRate)
        { s with tariffs := s.releasedOn ev.bank, evaluator := { s.evaluator with state := .idle } } := by
  have hend : ∀ status, (s.release ev.bank).endRating op status =
      State.withRateDone op op.slot (tset t op.slot (some { i with state := .weighed, quote := none })) status
        { s with tariffs := s.releasedOn ev.bank, evaluator := { s.evaluator with state := .idle } } := fun status => by
    rw [State.release_eq]
    exact State.endRating_eq (s := { s with tariffs := s.releasedOn ev.bank }) status hs ht hi (.inr hr)
  rcases hh with hh | hh <;> simp [State.haltEvaluation, he, hh, hend]

/-- R103: an ABANDONED evaluation hands nothing over. -/
theorem State.haltEvaluation_abandoned {op : Operation} {ev : Evaluation} {s : State}
    (he : s.evaluator.state = .evaluating op ev) (hh : ev.halt = some .abandoned) :
    s.haltEvaluation =
      { s with tariffs := s.releasedOn ev.bank, evaluator := { s.evaluator with state := .idle } } := by
  simp only [State.haltEvaluation, he, hh, State.release_eq]
  rfl

/-- Settles O30, by the halt reason. -/
theorem evaluationHalts : Obligations.EvaluationHalts := by
  intro op ev s hp he
  have hreleased : State.releasedOn ev.bank { s with sent := [] } = s.releasedOn ev.bank := by cases ev.bank <;> rfl
  refine ⟨fun hh => ?_, fun t i hh hs ht hi hr => ?_⟩
  · refine (State.running_on _ s hp).trans (congrArg _ ?_)
    rw [State.haltEvaluation_abandoned (s := { s with sent := [] }) he hh, hreleased]
  · refine (State.running_on _ s hp).trans (congrArg _ ?_)
    rw [State.haltEvaluation_returns (s := { s with sent := [] }) he hh hs ht hi hr, hreleased]

end Sys2Proof.Machine
end

section
/-! SUPPORT. The operations and the meanings that leave the rating evaluator alone. -/

namespace Sys2Proof.Machine

/-! ### Shared operations -/

@[simp] theorem State.release_evaluator (b : BankId) (s : State) : (s.release b).evaluator = s.evaluator := by
  obtain ⟨_, h⟩ := State.release_shape b s
  rw [h]

@[simp] theorem State.releaseQuote_evaluator (i : Item) (s : State) : (s.releaseQuote i).evaluator = s.evaluator := by
  obtain ⟨_, h⟩ := State.releaseQuote_shape i s
  rw [h]

@[simp] theorem State.releaseAll_evaluator (t : Transaction) (s : State) : (s.releaseAll t).evaluator = s.evaluator := by
  obtain ⟨_, h⟩ := State.releaseAll_shape t s
  rw [h]

@[simp] theorem State.requote_evaluator (p : PositionId) (k : Slot) (st : ItemState) (s : State) :
    (s.requote p k st).evaluator = s.evaluator := by
  obtain ⟨_, _, h⟩ := State.requote_shape p k st s
  rw [h]

@[simp] theorem State.finishWeigh_evaluator (p : PositionId) (k : Slot) (status : Reason) (reading : Nat) (s : State) :
    (s.finishWeigh p k status reading).evaluator = s.evaluator := by
  obtain ⟨_, _, h⟩ := State.finishWeigh_shape p k status reading s
  rw [h]

@[simp] theorem State.endWeigh_evaluator (c : ChannelId) (status : Reason) (reading : Nat) (s : State) :
    (s.endWeigh c status reading).evaluator = s.evaluator := by
  obtain ⟨_, _, _, h⟩ := State.endWeigh_shape c status reading s
  rw [h]

@[simp] theorem State.returnItem_evaluator (p : PositionId) (k : Slot) (s : State) : (s.returnItem p k).evaluator = s.evaluator := by
  obtain ⟨_, h⟩ := State.returnItem_shape p k s
  rw [h]

@[simp] theorem State.handRateDone_evaluator (op : Operation) (last : Slot) (status : Reason) (s : State) :
    (s.handRateDone op last status).evaluator = s.evaluator := by
  obtain ⟨_, _, h⟩ := State.handRateDone_shape op last status s
  rw [h]

/-- R87, R102: the end of an operation leaves the evaluator IDLE. -/
@[simp] theorem State.endRating_evaluator (op : Operation) (status : Reason) (s : State) :
    (s.endRating op status).evaluator = { s.evaluator with state := .idle } := by
  simp [State.endRating]

@[simp] theorem State.reportLabel_evaluator (p : PositionId) (num : Nat) (st : LabelState) (s : State) :
    (s.reportLabel p num st).evaluator = s.evaluator := by
  obtain ⟨_, h⟩ := State.reportLabel_shape p num st s
  rw [h]

@[simp] theorem State.reportMoved_evaluator (jobs : List Job) (s : State) : (s.reportMoved jobs).evaluator = s.evaluator := by
  unfold State.reportMoved
  induction jobs generalizing s with
  | nil => rfl
  | cons j js ih => rw [List.foldl_cons, ih, State.reportLabel_evaluator]

@[simp] theorem State.sendHead_evaluator (l : PrinterId) (s : State) : (s.sendHead l).evaluator = s.evaluator := by
  obtain ⟨_, _, _, _, h⟩ := State.sendHead_shape l s
  rw [h]

@[simp] theorem State.sendHeads_evaluator (s : State) : s.sendHeads.evaluator = s.evaluator := by
  obtain ⟨_, _, _, _, h⟩ := State.sendHeads_shape s
  rw [h]

@[simp] theorem State.returnHead_evaluator (l : PrinterId) (st : PrinterState) (s : State) :
    (s.returnHead l st).evaluator = s.evaluator := by
  obtain ⟨_, _, h⟩ := State.returnHead_shape l st s
  rw [h]

@[simp] theorem State.finishHead_evaluator (l : PrinterId) (s : State) : (s.finishHead l).evaluator = s.evaluator := by
  obtain ⟨_, _, _, _, _, h⟩ := State.finishHead_shape l s
  rw [h]

@[simp] theorem State.withdrawJob_evaluator (num : Nat) (s : State) : (s.withdrawJob num).1.evaluator = s.evaluator := by
  obtain ⟨_, _, _, _, _, h⟩ := State.withdrawJob_shape num s
  rw [h]

@[simp] theorem State.queueJob_evaluator (l : PrinterId) (j : Job) (s : State) : (s.queueJob l j).evaluator = s.evaluator := by
  obtain ⟨_, _, _, _, _, h⟩ := State.queueJob_shape l j s
  rw [h]

@[simp] theorem State.receivePosition_evaluator (p : PositionId) (bytes : List Byte) (s : State) :
    (s.receivePosition p bytes).evaluator = s.evaluator := by
  obtain ⟨_, h⟩ := State.receivePosition_shape p bytes s
  rw [h]

/-! ### Requests -/

theorem serveAttach_evaluator (p : PositionId) (x : AccountId × Fin 16) (s : State) :
    (serveAttach p x s).1.evaluator = s.evaluator := by
  unfold serveAttach
  dsimp only
  split_ifs <;> rfl

theorem serveBegin_evaluator (p : PositionId) (x : Unit) (s : State) : (serveBegin p x s).1.evaluator = s.evaluator := by
  unfold serveBegin
  split_ifs <;> rfl

theorem serveAdd_evaluator (p : PositionId) (x : Unit) (s : State) : (serveAdd p x s).1.evaluator = s.evaluator := by
  unfold serveAdd
  split
  · exact State.setItem_evaluator ..
  · rfl

theorem serveAmend_evaluator (p : PositionId) (m : Amendment) (s : State) : (serveAmend p m s).1.evaluator = s.evaluator := by
  unfold serveAmend
  split
  · split_ifs <;> simp [State.setItem_evaluator]
  · rfl

theorem serveDrop_evaluator (p : PositionId) (k : Slot) (s : State) : (serveDrop p k s).1.evaluator = s.evaluator := by
  unfold serveDrop
  split
  · split_ifs <;> simp [State.setItem_evaluator]
  · rfl

theorem serveDetail_evaluator (p : PositionId) (k : Slot) (s : State) : (serveDetail p k s).1.evaluator = s.evaluator := by
  unfold serveDetail
  split <;> rfl

theorem serveFinish_evaluator (p : PositionId) (x : Nat × Nat) (s : State) : (serveFinish p x s).1.evaluator = s.evaluator := by
  unfold serveFinish
  dsimp only
  split
  · split_ifs <;> simp
  · rfl

theorem serveCollect_evaluator (p : PositionId) (x : Unit) (s : State) : (serveCollect p x s).1.evaluator = s.evaluator := by
  unfold serveCollect
  split <;> rfl

theorem State.takeWeigh_evaluator (p : PositionId) (c : ChannelId) (k : Slot) (s : State) :
    (s.takeWeigh p c k).1.evaluator = s.evaluator := by
  unfold State.takeWeigh
  dsimp only
  split <;> simp [State.startWeigh]

theorem serveWeigh_evaluator (p : PositionId) (k : Slot) (s : State) : (serveWeigh p k s).1.evaluator = s.evaluator := by
  unfold serveWeigh
  dsimp only
  split
  · rfl
  · rfl
  · split_ifs <;> simp [State.takeWeigh_evaluator]

theorem serveZero_evaluator (p : PositionId) (x : Unit) (s : State) : (serveZero p x s).1.evaluator = s.evaluator := by
  unfold serveZero
  dsimp only
  split
  · rfl
  · split_ifs
    · rfl
    · rfl
    · rfl
    · split
      · split_ifs <;> rfl
      · rfl

/-- R134, R135: beyond its checks an ACCEPT makes its effects, none at the evaluator. -/
theorem State.acceptChecked_evaluator (p : PositionId) (k : Slot) (a : AccountId) (key : Fin 16) (i : Item) (q : Quote) (s : State) :
    (s.acceptChecked p k a key i q).1.evaluator = s.evaluator := by
  have haccept : ∀ l office serial, (s.acceptItem p k a l office serial i q).evaluator = s.evaluator := fun _ _ _ => by
    simp [State.acceptItem, State.updateAccount, State.appendEntry, State.setItem_evaluator]
  unfold State.acceptChecked
  dsimp only
  split
  · rfl
  · split
    · rfl
    · split
      · rfl
      · split
        · split_ifs
          · rfl
          · rfl
          · split
            · rfl
            · exact haccept _ _ _
        · rfl

theorem serveAccept_evaluator (p : PositionId) (k : Slot) (s : State) : (serveAccept p k s).1.evaluator = s.evaluator := by
  unfold serveAccept
  split_ifs
  · rfl
  · rfl
  · split
    · rfl
    · split_ifs
      · rfl
      · rfl
      · split
        · exact State.acceptChecked_evaluator ..
        · rfl

theorem State.voidItem_evaluator (p : PositionId) (k : Slot) (a : AccountId) (num : Nat) (i : Item) (q : Quote) (s : State) :
    (s.voidItem p k a num i q).evaluator = s.evaluator := by
  simp [State.voidItem, State.updateAccount, State.appendEntry, State.setItem_evaluator]

theorem serveVoid_evaluator (p : PositionId) (k : Slot) (s : State) : (serveVoid p k s).1.evaluator = s.evaluator := by
  unfold serveVoid
  split
  · rfl
  · split
    · rfl
    · split
      · rfl
      · split
        · dsimp only
          split_ifs
          · rfl
          · rfl
          · rfl
          · exact State.voidItem_evaluator ..
        · rfl

/-! ### Samples, scale timers and printers -/

theorem State.takeArrival_evaluator (c : ChannelId) (a : Arrival) (s : State) : (s.takeArrival c a).evaluator = s.evaluator := by
  unfold State.takeArrival
  dsimp only
  split
  · rfl
  · rfl
  · rfl
  · split_ifs <;> simp

theorem State.settle_evaluator (c : ChannelId) (s : State) : (s.settle c).evaluator = s.evaluator := by
  unfold State.settle
  dsimp only
  split_ifs
  · split <;> simp
  · rfl

theorem State.weighTimer_evaluator (c : ChannelId) (s : State) :
    (if (s.channel c).weighTimer.isSome then s.endWeigh c .unstable 0 else s).evaluator = s.evaluator := by
  split_ifs <;> simp

theorem State.takePrinterAnswer_evaluator (l : PrinterId) (a : PrinterAnswer) (s : State) :
    (s.takePrinterAnswer l a).evaluator = s.evaluator := by
  cases a with
  | done n =>
    simp only [State.takePrinterAnswer, State.takeDone]
    split_ifs <;> simp
  | fault n reason =>
    simp only [State.takePrinterAnswer, State.takeFault]
    split
    · split_ifs <;> simp
    · rfl
    · rfl
    · rfl
  | ready =>
    simp only [State.takePrinterAnswer, State.takeReady]
    split <;> simp

/-- A run of events each of which leaves the evaluator alone leaves it alone. -/
theorem foldl_evaluator {α : Type} {f : State → α → State} (hf : ∀ s a, (f s a).evaluator = s.evaluator) (events : List α)
    (s : State) : (events.foldl f s).evaluator = s.evaluator := by
  induction events generalizing s with
  | nil => rfl
  | cons a events ih => exact (ih _).trans (hf s a)

theorem State.receiveSamples_evaluator (c : ChannelId) (bytes : List Byte) (s : State) :
    (s.receiveSamples c bytes).evaluator = s.evaluator :=
  foldl_evaluator (fun s a => State.takeArrival_evaluator c a s) _ _

theorem State.receiveAnswers_evaluator (l : PrinterId) (bytes : List Byte) (s : State) :
    (s.receiveAnswers l bytes).evaluator = s.evaluator :=
  foldl_evaluator (fun s a => State.takePrinterAnswer_evaluator l a s) _ _

theorem State.printTimeout_evaluator (l : PrinterId) (s : State) :
    (if (s.printer l).state = .printing ∧ (s.printer l).timer.isSome then s.returnHead l (.faulted .timeout) else s).evaluator =
      s.evaluator := by
  split_ifs <;> simp

/-! ### Office commands -/

theorem serveFlags_evaluator (x : List FlagAction) (s : State) : (serveFlags x s).1.evaluator = s.evaluator := by
  unfold serveFlags
  dsimp only
  split_ifs <;> rfl

theorem serveScale_evaluator (x : ChannelId × ScaleConfig) (s : State) : (serveScale x s).1.evaluator = s.evaluator := by
  simp [serveScale]

theorem servePrinter_evaluator (x : PrinterId × Bool) (s : State) : (servePrinter x s).1.evaluator = s.evaluator := by
  simp only [servePrinter, State.setEnabled]
  split <;> simp

theorem serveRedirect_evaluator (x : PrinterId × PrinterId) (s : State) : (serveRedirect x s).1.evaluator = s.evaluator := by
  unfold serveRedirect
  dsimp only
  split_ifs <;> simp

theorem serveAccount_evaluator (x : AccountChange) (s : State) : (serveAccount x s).1.evaluator = s.evaluator := by
  unfold serveAccount
  dsimp only
  split_ifs <;> rfl

theorem serveCredit_evaluator (x : AccountId × Nat) (s : State) : (serveCredit x s).1.evaluator = s.evaluator := by
  unfold serveCredit
  dsimp only
  split_ifs <;> rfl

theorem serveBlock_evaluator (x : Nat × Nat) (s : State) : (serveBlock x s).1.evaluator = s.evaluator := by
  unfold serveBlock
  dsimp only
  split_ifs <;> rfl

theorem serveLoadBegin_evaluator (x : LoadDeclaration) (s : State) : (serveLoadBegin x s).1.evaluator = s.evaluator := by
  unfold serveLoadBegin
  split_ifs
  · rfl
  · split <;> simp

theorem serveLoadPart_evaluator (x : Nat × List Byte) (s : State) : (serveLoadPart x s).1.evaluator = s.evaluator := by
  unfold serveLoadPart
  dsimp only
  split
  · rfl
  · split_ifs <;> simp

theorem serveLoadAbandon_evaluator (b : BankId) (s : State) : (serveLoadAbandon b s).1.evaluator = s.evaluator := by
  unfold serveLoadAbandon
  split <;> simp

theorem serveJournalRelease_evaluator (x : Word32) (s : State) : (serveJournalRelease x s).1.evaluator = s.evaluator := by
  unfold serveJournalRelease
  dsimp only
  split_ifs <;> rfl

theorem serveRestart_evaluator (x : Option Nat) (s : State) : (serveRestart x s).1.evaluator = s.evaluator := by
  unfold serveRestart
  split
  · rfl
  · rfl
  · split_ifs <;> rfl

theorem State.loadIdle_evaluator (b : BankId) (s : State) :
    (if (s.bank b).state = .loading ∧ (s.bank b).idleTimer.isSome then s.setBank b .blank else s).evaluator = s.evaluator := by
  split_ifs <;> simp

end Sys2Proof.Machine
end

section
/-! ANSWERS. The accumulator stays bounded (O58). -/

namespace Sys2Proof.Machine

/-! ### The accumulator of an evaluator state -/

/-- R94: the accumulator that an evaluator state carries, if it carries one, lies within its bounds. -/
def EvaluatorState.bounded : EvaluatorState → Prop
  | .evaluating _ ev => -(2 ^ 47 - 1) ≤ ev.accumulator ∧ ev.accumulator ≤ 2 ^ 47 - 1
  | .idle | .chaining _ => True

@[simp] theorem EvaluatorState.bounded_idle : EvaluatorState.idle.bounded := trivial

@[simp] theorem EvaluatorState.bounded_chaining (op : Operation) : (EvaluatorState.chaining op).bounded := trivial

@[simp] theorem EvaluatorState.bounded_evaluating (op : Operation) (ev : Evaluation) :
    (EvaluatorState.evaluating op ev).bounded ↔ -(2 ^ 47 - 1) ≤ ev.accumulator ∧ ev.accumulator ≤ 2 ^ 47 - 1 := Iff.rfl

theorem accumulatorBounded_iff (s : State) : AccumulatorBounded s ↔ s.evaluator.state.bounded := by
  unfold AccumulatorBounded
  cases s.evaluator.state <;> simp

/-- R94: whatever the term contributes, the accumulator is held within its bounds. -/
theorem Evaluation.takeTerm_bounded {t : RateTerm} {k : Nat} {w : Working} {op : Operation} {ev : Evaluation}
    (h : (EvaluatorState.evaluating op ev).bounded) : (EvaluatorState.evaluating op (ev.takeTerm t k w)).bounded := by
  by_cases happlies : t.applies ev.flags ev.facts w = true
  · rw [Evaluation.takeTerm_applies k happlies rfl, EvaluatorState.bounded_evaluating]
    dsimp only
    omega
  · rwa [Evaluation.takeTerm_skips k happlies]

/-- R104: the expiry notice sets a halt reason and leaves the accumulator. -/
theorem Evaluator.notice_bounded {e : Evaluator} (h : e.state.bounded) (b : BankId) (g : Option Word16) :
    (e.notice b g).state.bounded := by
  unfold Evaluator.notice
  split
  · next op ev he =>
    split
    · rwa [he] at h
    · exact h
  · exact h
  · exact h

/-- R103: an abandonment sets a halt reason or ends a chain. -/
theorem Evaluator.abandon_bounded {e : Evaluator} (h : e.state.bounded) (p : PositionId) : (e.abandon p).state.bounded := by
  unfold Evaluator.abandon
  dsimp only
  split
  · trivial
  · split_ifs <;> trivial
  · next op ev he =>
    rw [he] at h
    split_ifs <;> exact h

/-! ### Operations that keep the accumulator bounded -/

/-- R94: the operation keeps the accumulator of the evaluation in progress within its bounds. -/
def KeepsAccumulator (f : State → State) : Prop := ∀ s, s.evaluator.state.bounded → (f s).evaluator.state.bounded

theorem KeepsAccumulator.of_same {f : State → State} (h : ∀ s, (f s).evaluator = s.evaluator) : KeepsAccumulator f :=
  fun s hs => by rwa [h s]

theorem KeepsAccumulator.running {f : State → State} (hf : KeepsAccumulator f) {s u : State} (h : s.evaluator.state.bounded)
    (hu : s.running f = .next u) : u.evaluator.state.bounded := by
  by_cases hp : s.power = .running
  · rw [State.running_on f s hp] at hu
    cases hu
    exact hf _ h
  · rw [State.running_off f s hp] at hu
    cases hu
    exact h

section
variable {α : Type}

theorem KeepsAccumulator.request {serve : α → State → State × Answer} (hserve : ∀ a, KeepsAccumulator fun s => (serve a s).1)
    (form : RequestForm α) (p : PositionId) (tag : Byte) (payload : List Byte) :
    KeepsAccumulator (State.request form p tag payload serve) := fun s h => by
  obtain ⟨ports, sent, hs⟩ | ⟨a, ports, sent, hs⟩ := State.request_outcome form p tag payload serve s
  · rwa [hs]
  · rw [hs]
    exact hserve a { s with ports := ports } h

theorem KeepsAccumulator.request_same {serve : α → State → State × Answer}
    (hserve : ∀ a s, (serve a s).1.evaluator = s.evaluator) (form : RequestForm α) (p : PositionId) (tag : Byte)
    (payload : List Byte) : KeepsAccumulator (State.request form p tag payload serve) :=
  .request (fun a => .of_same (hserve a)) form p tag payload

theorem KeepsAccumulator.command {serve : α → State → State × OfficeAnswer}
    (hserve : ∀ a, KeepsAccumulator fun s => (serve a s).1) (code : Byte) (read : List Byte → Option α) (tag : Byte)
    (payload : List Byte) : KeepsAccumulator (State.command code read tag payload serve) := fun s h => by
  obtain ⟨port, sent, hs⟩ | ⟨a, port, sent, hs⟩ := State.command_outcome code read tag payload serve s
  · rwa [hs]
  · rw [hs]
    exact hserve a { s with officePort := port } h

theorem KeepsAccumulator.command_same {serve : α → State → State × OfficeAnswer}
    (hserve : ∀ a s, (serve a s).1.evaluator = s.evaluator) (code : Byte) (read : List Byte → Option α) (tag : Byte)
    (payload : List Byte) : KeepsAccumulator (State.command code read tag payload serve) :=
  .command (fun a => .of_same (hserve a)) code read tag payload

end

/-! ### The forced detach, the grace expiry and the activation -/

/-- R14, R103. -/
theorem forcedDetach_keepsAccumulator (p : PositionId) : KeepsAccumulator (State.forcedDetach p) := fun s h => by
  unfold State.forcedDetach
  split
  · have habandon := Evaluator.abandon_bounded h p
    dsimp only
    split <;> simpa using habandon
  · exact h

/-- R4. -/
theorem lineDown_keepsAccumulator (p : PositionId) : KeepsAccumulator (State.lineDown p) := fun s h =>
  forcedDetach_keepsAccumulator p (State.setCtx p { s.ctx p with linePresent := false } { s with ports := tset s.ports p .quiet }) h

/-- R12. -/
theorem serveDetach_keepsAccumulator (p : PositionId) (x : Unit) : KeepsAccumulator fun s => (serveDetach p x s).1 := fun s h => by
  unfold serveDetach
  dsimp only
  split
  · exact forcedDetach_keepsAccumulator p s h
  · exact h

/-- R5, R173. -/
theorem servePosition_keepsAccumulator (x : PositionId × PositionConfig) : KeepsAccumulator fun s => (servePosition x s).1 :=
  fun s h => by
    unfold servePosition
    dsimp only
    split
    · exact h
    · split
      · exact forcedDetach_keepsAccumulator x.1 s h
      · exact h

/-- R104, R119. -/
theorem expireGrace_keepsAccumulator (b : BankId) : KeepsAccumulator (State.expireGrace b) := fun s h => by
  simpa [State.expireGrace] using Evaluator.notice_bounded h b (s.bank b).generation

/-- R114. -/
theorem activate_keepsAccumulator (b : BankId) : KeepsAccumulator (State.activate b) := fun s h => by
  unfold State.activate
  dsimp only
  split
  · exact expireGrace_keepsAccumulator _ _ (by simpa using h)
  · simpa using h

/-- R118. -/
theorem tickGrace_keepsAccumulator (b : BankId) : KeepsAccumulator (State.tickGrace b) := fun s h => by
  unfold State.tickGrace
  split
  · split
    · exact expireGrace_keepsAccumulator b s h
    · simpa using h
  · exact h

/-- R113, R118. -/
theorem tickTariffs_keepsAccumulator : KeepsAccumulator State.tickTariffs := fun s h => by
  have hticked := tickGrace_keepsAccumulator .B _ (tickGrace_keepsAccumulator .A s h)
  unfold State.tickTariffs
  dsimp only
  split
  · exact activate_keepsAccumulator _ _ hticked
  · exact hticked

/-- R119. -/
theorem execGraceExpiry_bounded (b : BankId) {s u : State} (h : s.evaluator.state.bounded) (hu : execGraceExpiry b s = .next u) :
    u.evaluator.state.bounded := by
  refine KeepsAccumulator.running (fun s h => ?_) h hu
  split
  · exact expireGrace_keepsAccumulator b s h
  · exact h

/-- R111. -/
theorem serveLoadEnd_keepsAccumulator (x : Unit) : KeepsAccumulator fun s => (serveLoadEnd x s).1 := fun s h => by
  unfold serveLoadEnd
  dsimp only
  split
  · exact h
  · next b _ =>
    split
    · simpa using h
    · have hadmitted : (s.admitImage b).evaluator.state.bounded := by simpa [State.admitImage] using h
      split
      · exact activate_keepsAccumulator b _ hadmitted
      · exact hadmitted

/-- R115. -/
theorem serveActivate_keepsAccumulator (b : BankId) : KeepsAccumulator fun s => (serveActivate b s).1 := fun s h => by
  unfold serveActivate
  dsimp only
  split
  · exact activate_keepsAccumulator b s h
  · exact h

/-! ### Rating -/

/-- R80, R81: a RATE that is taken joins the queue and leaves the evaluation in progress. -/
theorem serveRate_keepsAccumulator (p : PositionId) (x : Slot × Scope) : KeepsAccumulator fun s => (serveRate p x s).1 := fun s h => by
  have htake : (s.takeRate p x.1 x.2).evaluator.state.bounded := by simpa [State.takeRate] using h
  unfold serveRate
  dsimp only
  split
  · exact h
  · split_ifs
    · exact h
    · exact h
    · exact h
    · exact h
    · exact h
    · exact htake

/-- R101, R102: a cancellation sets a halt reason, ends a chain, or leaves the evaluation in progress. -/
theorem cancelOperation_keepsAccumulator (p : PositionId) (target : Option Slot) :
    KeepsAccumulator (State.cancelOperation p target) := fun s h => by
  unfold State.cancelOperation
  split
  · simpa using h
  · split
    · next op ev he =>
      split
      · rwa [he] at h
      · exact h
    · split
      · simp
      · exact h
    · exact h

/-- R22. -/
theorem serveCancel_keepsAccumulator (p : PositionId) (target : Option Slot) :
    KeepsAccumulator fun s => (serveCancel p target s).1 := fun s h => by
  have hweigh : (s.cancelWeigh p target).1.evaluator.state.bounded := by
    unfold State.cancelWeigh
    split
    · split
      · simpa using h
      · exact h
    · exact h
  unfold serveCancel
  dsimp only
  split
  · exact cancelOperation_keepsAccumulator p target _ hweigh
  · exact hweigh

/-- R82: an evaluation starts with the accumulator 0. -/
theorem startEvaluation_keepsAccumulator : KeepsAccumulator State.startEvaluation := fun s h => by
  unfold State.startEvaluation
  dsimp only
  split
  · split
    · split
      · split
        · simp [Evaluation.begun]
        · simp
      · exact h
    · exact h
  · exact h

/-- R84 to R87: the check step goes on to the next step or ends the operation. -/
theorem checkStep_keepsAccumulator : KeepsAccumulator State.checkStep := fun s h => by
  unfold State.checkStep
  split
  · next op ev he =>
    split
    · split
      · rwa [he] at h
      · simp
    · exact h
  · exact h
  · exact h

/-- R90, R94. -/
theorem termStep_keepsAccumulator : KeepsAccumulator State.termStep := fun s h => by
  unfold State.termStep
  split
  · next op ev he =>
    split
    · rw [he] at h
      exact Evaluation.takeTerm_bounded h
    · exact h
  · exact h
  · exact h

/-- R98. -/
theorem deliveryStep_keepsAccumulator : KeepsAccumulator State.deliveryStep := fun s h => by
  unfold State.deliveryStep
  dsimp only
  split
  · split
    · split <;> simp
    · exact h
  · exact h
  · exact h

/-- R99, R100. -/
theorem chainStep_keepsAccumulator : KeepsAccumulator State.chainStep := fun s h => by
  unfold State.chainStep
  dsimp only
  split
  · split <;> simp
  · exact h
  · exact h

/-- R102 to R104. -/
theorem haltEvaluation_keepsAccumulator : KeepsAccumulator State.haltEvaluation := fun s h => by
  unfold State.haltEvaluation
  split
  · split
    · simp
    · simp
    · simp
    · exact h
  · exact h
  · exact h

/-! ### Every command -/

theorem exec_accumulatorBounded {s u : State} (h : s.evaluator.state.bounded) (c : Instr) (hu : exec c s = .next u) :
    u.evaluator.state.bounded := by
  cases c with
  | linkUp p => exact (KeepsAccumulator.of_same (f := fun s => s.setCtx p (s.ctx p).lineUp) fun _ => rfl).running h hu
  | linkDown p => exact (lineDown_keepsAccumulator p).running h hu
  | positionFrameReceived p bytes => exact (KeepsAccumulator.of_same (State.receivePosition_evaluator p bytes)).running h hu
  | attach p tag payload => exact (KeepsAccumulator.request_same (serveAttach_evaluator p) _ p tag payload).running h hu
  | detach p tag payload => exact (KeepsAccumulator.request (serveDetach_keepsAccumulator p) _ p tag payload).running h hu
  | beginTransaction p tag payload => exact (KeepsAccumulator.request_same (serveBegin_evaluator p) _ p tag payload).running h hu
  | add p tag payload => exact (KeepsAccumulator.request_same (serveAdd_evaluator p) _ p tag payload).running h hu
  | amend p tag payload => exact (KeepsAccumulator.request_same (serveAmend_evaluator p) _ p tag payload).running h hu
  | drop p tag payload => exact (KeepsAccumulator.request_same (serveDrop_evaluator p) _ p tag payload).running h hu
  | weigh p tag payload => exact (KeepsAccumulator.request_same (serveWeigh_evaluator p) _ p tag payload).running h hu
  | zero p tag payload => exact (KeepsAccumulator.request_same (serveZero_evaluator p) _ p tag payload).running h hu
  | rate p tag payload => exact (KeepsAccumulator.request (serveRate_keepsAccumulator p) _ p tag payload).running h hu
  | detail p tag payload => exact (KeepsAccumulator.request_same (serveDetail_evaluator p) _ p tag payload).running h hu
  | accept p tag payload => exact (KeepsAccumulator.request_same (serveAccept_evaluator p) _ p tag payload).running h hu
  | void p tag payload => exact (KeepsAccumulator.request_same (serveVoid_evaluator p) _ p tag payload).running h hu
  | cancel p tag payload => exact (KeepsAccumulator.request (serveCancel_keepsAccumulator p) _ p tag payload).running h hu
  | collect p tag payload => exact (KeepsAccumulator.request_same (serveCollect_evaluator p) _ p tag payload).running h hu
  | finish p tag payload => exact (KeepsAccumulator.request_same (serveFinish_evaluator p) _ p tag payload).running h hu
  | query p tag payload => exact (KeepsAccumulator.request_same (fun _ _ => rfl) _ p tag payload).running h hu
  | sampleFrame c bytes => exact (KeepsAccumulator.of_same (State.receiveSamples_evaluator c bytes)).running h hu
  | settleTimerExpiry c => exact (KeepsAccumulator.of_same (State.settle_evaluator c)).running h hu
  | weighTimerExpiry c => exact (KeepsAccumulator.of_same (State.weighTimer_evaluator c)).running h hu
  | evaluationStart => exact startEvaluation_keepsAccumulator.running h hu
  | checkStep => exact checkStep_keepsAccumulator.running h hu
  | termStep => exact termStep_keepsAccumulator.running h hu
  | deliveryStep => exact deliveryStep_keepsAccumulator.running h hu
  | chainStep => exact chainStep_keepsAccumulator.running h hu
  | evaluationHalt => exact haltEvaluation_keepsAccumulator.running h hu
  | officeFrameReceived input => exact (KeepsAccumulator.of_same (f := State.receiveOffice input) fun _ => rfl).running h hu
  | status tag payload => exact (KeepsAccumulator.command_same (fun _ _ => rfl) _ _ tag payload).running h hu
  | time tag payload => exact (KeepsAccumulator.command_same (serve := serveTime) (fun _ _ => rfl) _ _ tag payload).running h hu
  | flags tag payload => exact (KeepsAccumulator.command_same serveFlags_evaluator _ _ tag payload).running h hu
  | position tag payload => exact (KeepsAccumulator.command servePosition_keepsAccumulator _ _ tag payload).running h hu
  | scale tag payload => exact (KeepsAccumulator.command_same serveScale_evaluator _ _ tag payload).running h hu
  | printer tag payload => exact (KeepsAccumulator.command_same servePrinter_evaluator _ _ tag payload).running h hu
  | redirect tag payload => exact (KeepsAccumulator.command_same serveRedirect_evaluator _ _ tag payload).running h hu
  | account tag payload => exact (KeepsAccumulator.command_same serveAccount_evaluator _ _ tag payload).running h hu
  | credit tag payload => exact (KeepsAccumulator.command_same serveCredit_evaluator _ _ tag payload).running h hu
  | block tag payload => exact (KeepsAccumulator.command_same serveBlock_evaluator _ _ tag payload).running h hu
  | loadBegin tag payload => exact (KeepsAccumulator.command_same serveLoadBegin_evaluator _ _ tag payload).running h hu
  | loadPart tag payload => exact (KeepsAccumulator.command_same serveLoadPart_evaluator _ _ tag payload).running h hu
  | loadEnd tag payload => exact (KeepsAccumulator.command serveLoadEnd_keepsAccumulator _ _ tag payload).running h hu
  | loadAbandon tag payload => exact (KeepsAccumulator.command_same serveLoadAbandon_evaluator _ _ tag payload).running h hu
  | activate tag payload => exact (KeepsAccumulator.command serveActivate_keepsAccumulator _ _ tag payload).running h hu
  | journalRead tag payload => exact (KeepsAccumulator.command_same (fun _ _ => rfl) _ _ tag payload).running h hu
  | journalRelease tag payload => exact (KeepsAccumulator.command_same serveJournalRelease_evaluator _ _ tag payload).running h hu
  | restart tag payload => exact (KeepsAccumulator.command_same serveRestart_evaluator _ _ tag payload).running h hu
  | restartRebuild =>
    simp only [exec, execRestartRebuild] at hu
    split at hu
    · cases hu
      simp [State.rebuild]
    · cases hu; exact h
  | powerOn kept =>
    cases hu
    simp [State.rebuild]
  | supplyFailure => cases hu; exact EvaluatorState.bounded_idle
  | supplySample microvolts => cases hu; exact h
  | tick => exact tickTariffs_keepsAccumulator.running (s := { s with clock := s.clock.advanced }) h hu
  | graceExpiry b => exact execGraceExpiry_bounded b h hu
  | loadIdleTimeout b => exact (KeepsAccumulator.of_same (State.loadIdle_evaluator b)).running h hu
  | printerDone l noise n reason check => exact (KeepsAccumulator.of_same (State.receiveAnswers_evaluator l _)).running h hu
  | printerFault l noise n reason check => exact (KeepsAccumulator.of_same (State.receiveAnswers_evaluator l _)).running h hu
  | printerReady l noise n reason check => exact (KeepsAccumulator.of_same (State.receiveAnswers_evaluator l _)).running h hu
  | printTimeout l => exact (KeepsAccumulator.of_same (State.printTimeout_evaluator l)).running h hu
  | unknownRequestCode p code tag payload =>
    simp only [exec, execUnknownRequestCode] at hu
    refine KeepsAccumulator.running (fun s h => ?_) h hu
    split
    · exact h
    · exact KeepsAccumulator.request nofun _ p tag payload s h
  | unknownCommandCode code tag payload =>
    simp only [exec, execUnknownCommandCode] at hu
    refine KeepsAccumulator.running (fun s h => ?_) h hu
    split
    · exact h
    · exact KeepsAccumulator.command nofun _ _ tag payload s h

/-- Settles O58: a term's contribution is held within the bounds, an evaluation starts at 0, and no other command changes an accumulator. -/
theorem accumulatorStaysBounded : Obligations.AccumulatorStaysBounded := by
  intro s u hbounded hstep
  rw [accumulatorBounded_iff] at hbounded ⊢
  unfold step at hstep
  split at hstep
  · next c rest _ => exact exec_accumulatorBounded (s := { s with pending := rest }) hbounded c hstep
  · cases hstep; exact hbounded

end Sys2Proof.Machine
end

section
/-! SUPPORT. The non-volatile store against its owners (R177): the store that the owners' state calls for, and how each write of State keeps the two equal. -/

namespace Sys2Proof.Machine

/-! ### What the owners hold -/

/-- R124, R133, R151, R165, R177: what the owners hold of all that the store keeps. -/
def State.owned (s : State) : Nvs :=
  { positions := s.positions.map (·.config), channels := s.channels.map (·.config), bankA := keptOf s.tariffs.bankA,
    bankB := keptOf s.tariffs.bankB, counter := s.tariffs.counter, lastLoaded := s.tariffs.lastLoaded, accounts := s.accounts,
    allocator := s.allocator, journal := s.journal, printersEnabled := s.printers.map (·.enabled),
    queues := s.printers.map fun pr => pr.queue.map Job.stored, flags := s.flags }

/-- A table against the entries of another, each as `f` gives it. -/
theorem table_eq_map_iff {α β : Type} {n : Nat} (f : α → β) (w : Vector β n) (v : Vector α n) :
    w = v.map f ↔ ∀ i, tget w i = f (tget v i) :=
  ⟨fun h i => by rw [h, tget_map], fun h => table_ext fun i => by rw [h, tget_map]⟩

theorem map_tset {α β : Type} {n : Nat} (f : α → β) (v : Vector α n) (i : Fin n) (x : α) :
    (tset v i x).map f = tset (v.map f) i (f x) :=
  table_ext fun j => by
    rw [tget_map, tget_tset, tget_tset, tget_map]
    split <;> rfl

/-- A table written at one entry with what `f` gives as before. -/
theorem map_tset_same {α β : Type} {n : Nat} {f : α → β} {v : Vector α n} {i : Fin n} {x : α} (h : f x = f (tget v i)) :
    (tset v i x).map f = v.map f := by
  rw [map_tset, h, ← tget_map f v i, tset_tget]

/-- A table rebuilt entry by entry with what `f` gives as before. -/
theorem map_tbuild_same {α β : Type} {n : Nat} {f : α → β} {v : Vector α n} {g : Fin n → α} (h : ∀ i, f (g i) = f (tget v i)) :
    (tbuild n g).map f = v.map f :=
  table_ext fun i => by rw [tget_map, tget_map, tget_tbuild, h]

/-- R177: the store matches when it is what its owners call for, part by part. -/
theorem storeMatches_iff (s : State) : StoreMatches s ↔ s.nvs = s.owned := by
  have hprinters : (∀ l, tget s.nvs.printersEnabled l = (s.printer l).enabled ∧
      tget s.nvs.queues l = (s.printer l).queue.map Job.stored) ↔
      s.nvs.printersEnabled = s.printers.map (·.enabled) ∧ s.nvs.queues = s.printers.map fun pr => pr.queue.map Job.stored := by
    rw [table_eq_map_iff, table_eq_map_iff, ← forall_and]
    rfl
  have hpositions := (table_eq_map_iff (·.config) s.nvs.positions s.positions).symm
  have hchannels := (table_eq_map_iff (·.config) s.nvs.channels s.channels).symm
  unfold StoreMatches State.owned
  simp only [State.ctx, State.channel, hpositions, hchannels, hprinters]
  generalize s.nvs = n
  obtain ⟨⟩ := n
  simp only [Nvs.mk.injEq]
  tauto

section
variable {s u : State}

theorem StoreMatches.congr (h : StoreMatches s) (hnvs : u.nvs = s.nvs) (howned : u.owned = s.owned) : StoreMatches u := by
  rw [storeMatches_iff] at h ⊢
  rw [hnvs, howned, h]

/-- R177: one write made by an owner to its own part and to the store. -/
theorem StoreMatches.written (h : StoreMatches s) (write : Nvs → Nvs) (hnvs : u.nvs = write s.nvs) (howned : u.owned = write s.owned) :
    StoreMatches u := by
  rw [storeMatches_iff] at h ⊢
  rw [hnvs, howned, h]

/-! ### Writes to an owner that the store need not follow -/

theorem StoreMatches.setCtx (h : StoreMatches s) {p : PositionId} {c : PositionContext} (hc : c.config = (s.ctx p).config) :
    StoreMatches (s.setCtx p c) :=
  h.congr rfl (congrArg (fun v => { s.owned with positions := v }) (map_tset_same hc))

theorem StoreMatches.setChannel (h : StoreMatches s) {c : ChannelId} {ch : Channel} (hc : ch.config = (s.channel c).config) :
    StoreMatches (s.setChannel c ch) :=
  h.congr rfl (congrArg (fun v => { s.owned with channels := v }) (map_tset_same hc))

/-- R124: a bank of which the store keeps what it kept. -/
theorem StoreMatches.setBank (h : StoreMatches s) {b : BankId} {bk : Bank} (hb : keptOf bk = keptOf (s.bank b)) :
    StoreMatches (s.setBank b bk) := by
  cases b with
  | A => exact h.congr rfl (congrArg (fun x => { s.owned with bankA := x }) hb)
  | B => exact h.congr rfl (congrArg (fun x => { s.owned with bankB := x }) hb)

/-- R165: a printer whose stored jobs and setting stay. -/
theorem StoreMatches.setPrinter (h : StoreMatches s) {l : PrinterId} {pr : Printer} (he : pr.enabled = (s.printer l).enabled)
    (hq : pr.queue.map Job.stored = (s.printer l).queue.map Job.stored) : StoreMatches (s.setPrinter l pr) :=
  h.congr rfl (congrArg₂ (fun v w => { s.owned with printersEnabled := v, queues := w }) (map_tset_same he) (map_tset_same hq))

/-! ### Writes that the store follows -/

/-- R5, R173. -/
theorem StoreMatches.savePosition (h : StoreMatches s) (p : PositionId) (c : PositionContext) :
    StoreMatches ((s.setCtx p c).savePosition p) :=
  h.written (fun n => { n with positions := tset n.positions p c.config }) (by simp [State.savePosition])
    (congrArg (fun v => { s.owned with positions := v }) (map_tset _ _ _ _))

/-- R45, R174. -/
theorem StoreMatches.saveChannel (h : StoreMatches s) (c : ChannelId) (ch : Channel) :
    StoreMatches ((s.setChannel c ch).saveChannel c) :=
  h.written (fun n => { n with channels := tset n.channels c ch.config }) (by simp)
    (congrArg (fun v => { s.owned with channels := v }) (map_tset _ _ _ _))

/-- R165. -/
theorem StoreMatches.saveQueue (h : StoreMatches s) {l : PrinterId} {pr : Printer} (he : pr.enabled = (s.printer l).enabled) :
    StoreMatches ((s.setPrinter l pr).saveQueue l) :=
  h.written (fun n => { n with queues := tset n.queues l (pr.queue.map Job.stored) }) (by simp)
    (congrArg₂ (fun v w => { s.owned with printersEnabled := v, queues := w }) (map_tset_same he) (map_tset _ _ _ _))

/-- R164. -/
theorem StoreMatches.savePrinter (h : StoreMatches s) {l : PrinterId} {pr : Printer}
    (hq : pr.queue.map Job.stored = (s.printer l).queue.map Job.stored) : StoreMatches ((s.setPrinter l pr).savePrinter l) :=
  h.written (fun n => { n with printersEnabled := tset n.printersEnabled l pr.enabled }) (by simp)
    (congrArg₂ (fun v w => { s.owned with printersEnabled := v, queues := w }) (map_tset _ _ _ _) (map_tset_same hq))

/-- R107, R124: the tariff store is written whole, whatever has become of it. -/
theorem StoreMatches.saveTariffs (h : StoreMatches s) (hu : u = { s with tariffs := u.tariffs }) : StoreMatches u.saveTariffs := by
  rw [State.saveTariffs_eq, hu]
  exact h.written
    (fun n => { n with
      bankA := keptOf u.tariffs.bankA, bankB := keptOf u.tariffs.bankB, counter := u.tariffs.counter,
      lastLoaded := u.tariffs.lastLoaded }) rfl rfl

/-- R126, R133. -/
theorem StoreMatches.updateAccount (h : StoreMatches s) (a : AccountId) (x : Account) : StoreMatches (s.updateAccount a x) :=
  h.written (fun n => { n with accounts := tset n.accounts a x.marked }) (by simp [State.updateAccount]) rfl

/-- R139, R140. -/
theorem StoreMatches.saveAllocator (h : StoreMatches s) (al : Allocator) :
    StoreMatches (State.saveAllocator { s with allocator := al }) :=
  h.written (fun n => { n with allocator := al }) rfl rfl

/-- R151. -/
theorem StoreMatches.saveJournal (h : StoreMatches s) (j : Journal) : StoreMatches (State.saveJournal { s with journal := j }) :=
  h.written (fun n => { n with journal := j }) rfl rfl

/-- R172. -/
theorem StoreMatches.saveFlags (h : StoreMatches s) (flags : BitVec 8) : StoreMatches (State.saveFlags { s with flags := flags }) :=
  h.written (fun n => { n with flags := flags }) rfl rfl

/-- R145, R146. -/
theorem StoreMatches.appendEntry (h : StoreMatches s) (a : AccountId) (e : JournalEvent) : StoreMatches (s.appendEntry a e) :=
  h.saveJournal _

end

end Sys2Proof.Machine
end

section
/-! SUPPORT. The non-volatile store under the shared operations of Ops.lean (R177): each keeps it equal to what its owners hold. -/

namespace Sys2Proof.Machine

section
variable {s : State}

/-! ### Items and references (R33, R116) -/

theorem StoreMatches.setItem (h : StoreMatches s) (p : PositionId) (k : Slot) (o : Option Item) : StoreMatches (s.setItem p k o) := by
  unfold State.setItem
  split
  · exact h.setCtx rfl
  · exact h

/-- R117, R124: a RETIRING bank is stored EMPTY, as is the blank bank that the last reference leaves. -/
theorem keptOf_release (n : Nat) (bk : Bank) : keptOf (bk.release n) = keptOf bk := by
  unfold Bank.release
  split
  · next hr => simp [keptOf, hr.1, Bank.blank]
  · rfl

theorem StoreMatches.release (h : StoreMatches s) (b : BankId) : StoreMatches (s.release b) := h.setBank (keptOf_release 1 _)

theorem StoreMatches.releaseQuote (h : StoreMatches s) (i : Item) : StoreMatches (s.releaseQuote i) := by
  unfold State.releaseQuote
  split
  · exact h.release _
  · exact h

theorem StoreMatches.requote (h : StoreMatches s) (p : PositionId) (k : Slot) (st : ItemState) : StoreMatches (s.requote p k st) := by
  unfold State.requote
  split
  · exact (h.releaseQuote _).setItem p k _
  · exact h

theorem StoreMatches.releaseAll (h : StoreMatches s) (t : Transaction) : StoreMatches (s.releaseAll t) := by
  unfold State.releaseAll
  induction t.toList generalizing s with
  | nil => exact h
  | cons o os ih =>
    cases o with
    | none => exact ih h
    | some i => exact ih (h.releaseQuote i)

/-! ### Completion records, weighs and ratings (R16, R35, R100) -/

theorem StoreMatches.handCompletion (h : StoreMatches s) (p : PositionId) (r : Completion) : StoreMatches (s.handCompletion p r) := by
  have hctx : StoreMatches (s.setCtx p { s.ctx p with completions := (s.ctx p).completions ++ [r] }) := h.setCtx rfl
  unfold State.handCompletion
  dsimp only
  split_ifs
  · exact hctx
  · exact hctx
  · exact h

theorem StoreMatches.applyWeighEnd (h : StoreMatches s) (p : PositionId) (k : Slot) (status : Reason) (reading : Nat) :
    StoreMatches (s.applyWeighEnd p k status reading) := by
  unfold State.applyWeighEnd
  split
  · split
    · exact h.setItem p k _
    · exact h
  · exact h

theorem StoreMatches.finishWeigh (h : StoreMatches s) (p : PositionId) (k : Slot) (status : Reason) (reading : Nat) :
    StoreMatches (s.finishWeigh p k status reading) := by
  refine StoreMatches.handCompletion ?_ p _
  exact (h.applyWeighEnd p k status reading).setCtx rfl

theorem StoreMatches.endWeigh (h : StoreMatches s) (c : ChannelId) (status : Reason) (reading : Nat) :
    StoreMatches (s.endWeigh c status reading) := by
  unfold State.endWeigh
  split
  · refine StoreMatches.finishWeigh ?_ _ _ status reading
    exact h.setChannel rfl
  · exact h

theorem StoreMatches.returnItem (h : StoreMatches s) (p : PositionId) (k : Slot) : StoreMatches (s.returnItem p k) := by
  unfold State.returnItem
  split
  · split
    · exact h.setItem p k _
    · exact h
  · exact h

theorem StoreMatches.handRateDone (h : StoreMatches s) (op : Operation) (last : Slot) (status : Reason) :
    StoreMatches (s.handRateDone op last status) := by
  refine StoreMatches.handCompletion ?_ _ _
  exact h.setCtx rfl

theorem StoreMatches.endRating (h : StoreMatches s) (op : Operation) (status : Reason) : StoreMatches (s.endRating op status) :=
  StoreMatches.handRateDone (s := (s.returnItem op.position op.slot).setEvaluatorState .idle) (h.returnItem _ _) op op.slot status

/-! ### Labels (R41, R156 to R165) -/

theorem StoreMatches.reportLabel (h : StoreMatches s) (p : PositionId) (num : Nat) (st : LabelState) :
    StoreMatches (s.reportLabel p num st) := by
  unfold State.reportLabel
  split
  · exact h.setCtx rfl
  · exact h

theorem StoreMatches.reportMoved (h : StoreMatches s) (jobs : List Job) : StoreMatches (s.reportMoved jobs) := by
  unfold State.reportMoved
  induction jobs generalizing s with
  | nil => exact h
  | cons j js ih => exact ih (h.reportLabel _ _ _)

/-- R156: the head job's attempt is written with its queue. -/
theorem StoreMatches.sendHead (h : StoreMatches s) (l : PrinterId) : StoreMatches (s.sendHead l) := by
  unfold State.sendHead
  split
  · refine StoreMatches.reportLabel ?_ _ _ _
    exact h.saveQueue rfl
  · exact h

theorem StoreMatches.sendHeads (h : StoreMatches s) : StoreMatches s.sendHeads :=
  (((h.sendHead 0).sendHead 1).sendHead 2).sendHead 3

/-- R165: the condition of a job is volatile, so the store need not follow. -/
theorem StoreMatches.returnHead (h : StoreMatches s) (l : PrinterId) (st : PrinterState) : StoreMatches (s.returnHead l st) := by
  unfold State.returnHead
  split
  · next hq =>
    refine StoreMatches.reportLabel ?_ _ _ _
    exact h.setPrinter rfl (by rw [hq]; rfl)
  · exact h.setPrinter rfl rfl

theorem StoreMatches.finishHead (h : StoreMatches s) (l : PrinterId) : StoreMatches (s.finishHead l) := by
  unfold State.finishHead
  split
  · refine StoreMatches.sendHead (.handCompletion (.reportLabel ?_ _ _ _) _ _) l
    exact h.saveQueue rfl
  · exact h.setPrinter rfl rfl

theorem StoreMatches.withdrawJob (h : StoreMatches s) (num : Nat) : StoreMatches (s.withdrawJob num).1 := by
  unfold State.withdrawJob
  split
  · split
    · split
      · refine StoreMatches.sendHead ?_ _
        exact h.saveQueue rfl
      · exact h
    · exact h
  · exact h

theorem StoreMatches.queueJob (h : StoreMatches s) (l : PrinterId) (j : Job) : StoreMatches (s.queueJob l j) := by
  refine StoreMatches.sendHead ?_ l
  exact h.saveQueue rfl

/-! ### The tariff store (R114, R118, R119) -/

/-- R38: the stale mark leaves the settings of a position. -/
theorem PositionContext.markStale_config (b : BankId) (g : Option Word16) (c : PositionContext) :
    (c.markStale b g).config = c.config := by
  rw [PositionContext.markStale_eq]

theorem StoreMatches.expireGrace (h : StoreMatches s) (b : BankId) : StoreMatches (s.expireGrace b) := by
  have hmarked : StoreMatches { s with
      positions := tbuild 16 fun p => (s.ctx p).markStale b (s.bank b).generation,
      evaluator := s.evaluator.notice b (s.bank b).generation } :=
    h.congr rfl (congrArg (fun v => { s.owned with positions := v })
      (map_tbuild_same fun p => PositionContext.markStale_config b _ _))
  exact hmarked.setBank ((keptOf_release _ _).trans (by cases b <;> rfl))

theorem StoreMatches.activate (h : StoreMatches s) (b : BankId) : StoreMatches (s.activate b) := by
  have hactive : StoreMatches
      ((s.setBank b { s.bank b with state := .active }).setBank b.other
        ((s.bank b.other).superseded ((s.bank b).grace.getD 0) (s.bank b).effective)).saveTariffs :=
    h.saveTariffs (by cases b <;> rfl)
  unfold State.activate
  dsimp only
  split
  · exact hactive.expireGrace _
  · exact hactive

theorem StoreMatches.tickGrace (h : StoreMatches s) (b : BankId) : StoreMatches (s.tickGrace b) := by
  unfold State.tickGrace
  split
  · split
    · exact h.expireGrace b
    · exact h.setBank rfl
  · exact h

/-! ### The forced detach (R14) -/

theorem Channel.dropOwner_config (p : PositionId) (ch : Channel) : (ch.dropOwner p).config = ch.config := by
  unfold Channel.dropOwner
  split
  · split_ifs <;> rfl
  · rfl

theorem StoreMatches.forcedDetach (h : StoreMatches s) (p : PositionId) : StoreMatches (s.forcedDetach p) := by
  have hdropped : StoreMatches { s with
      channels := tbuild 8 fun c => (s.channel c).dropOwner p, evaluator := s.evaluator.abandon p } :=
    h.congr rfl (congrArg (fun v => { s.owned with channels := v }) (map_tbuild_same fun c => Channel.dropOwner_config p _))
  unfold State.forcedDetach
  split
  · dsimp only
    split
    · exact (hdropped.releaseAll _).setCtx (by obtain ⟨_, hreleased⟩ := State.releaseAll_shape _ _; rw [hreleased]; rfl)
    · exact hdropped.setCtx rfl
  · exact h

/-! ### The rebuilding (R177) -/

/-- R123, R124: what the store keeps of a bank comes back whole. -/
theorem keptOf_rebuilt (o : Option StoredBank) : keptOf (.rebuilt o) = o := by
  cases o with
  | none => rfl
  | some x =>
    obtain ⟨active, _⟩ := x
    cases active <;> rfl

theorem StoreMatches.rebuild (h : StoreMatches s) : StoreMatches s.rebuild := by
  obtain ⟨-, -, -, -, -, -, -, -, -, -, hprinters⟩ := h
  refine ⟨rfl, rfl, rfl, rfl, (keptOf_rebuilt _).symm, (keptOf_rebuilt _).symm, rfl, rfl, fun p => ?_, fun c => ?_, fun l => ?_⟩
  · simp [State.rebuild, State.ctx, PositionContext.rebuilt]
  · simp [State.rebuild, State.channel, Channel.rebuilt]
  · obtain ⟨-, hqueue⟩ := hprinters l
    simp [State.rebuild, State.printer, Printer.rebuilt, hqueue, Job.stored]

end

end Sys2Proof.Machine
end

section
/-! SUPPORT. The non-volatile store under each meaning of the counter positions, the scales, the rating, the acceptance and the printers (R177): each keeps it equal to what its owners hold. -/

namespace Sys2Proof.Machine

/-! ### Operations that keep the store current -/

/-- R177: the operation keeps the store equal to what its owners hold. -/
def KeepsStore (f : State → State) : Prop := ∀ s, StoreMatches s → StoreMatches (f s)

theorem KeepsStore.running {f : State → State} (hf : KeepsStore f) {s u : State} (h : StoreMatches s) (hu : s.running f = .next u) :
    StoreMatches u := by
  by_cases hp : s.power = .running
  · rw [State.running_on f s hp] at hu
    cases hu
    exact hf _ h
  · rw [State.running_off f s hp] at hu
    cases hu
    exact h

theorem KeepsStore.request {α : Type} {serve : α → State → State × Answer} (hserve : ∀ a, KeepsStore fun s => (serve a s).1)
    (form : RequestForm α) (p : PositionId) (tag : Byte) (payload : List Byte) :
    KeepsStore (State.request form p tag payload serve) := fun s h => by
  obtain ⟨ports, sent, hs⟩ | ⟨a, ports, sent, hs⟩ := State.request_outcome form p tag payload serve s
  · rw [hs]
    exact h
  · rw [hs]
    exact hserve a { s with ports := ports } h

theorem KeepsStore.command {α : Type} {serve : α → State → State × OfficeAnswer} (hserve : ∀ a, KeepsStore fun s => (serve a s).1)
    (code : Byte) (read : List Byte → Option α) (tag : Byte) (payload : List Byte) :
    KeepsStore (State.command code read tag payload serve) := fun s h => by
  obtain ⟨port, sent, hs⟩ | ⟨a, port, sent, hs⟩ := State.command_outcome code read tag payload serve s
  · rw [hs]
    exact h
  · rw [hs]
    exact hserve a { s with officePort := port } h

/-- A run of events each of which keeps the store current. -/
theorem KeepsStore.foldl {α : Type} {f : State → α → State} (hf : ∀ a, KeepsStore fun s => f s a) (events : List α) :
    KeepsStore fun s => events.foldl f s := fun s h => by
  induction events generalizing s with
  | nil => exact h
  | cons a events ih => exact ih _ (hf a s h)

/-! ### Positions, transactions and items -/

theorem lineUp_keepsStore (p : PositionId) : KeepsStore fun s => s.setCtx p (s.ctx p).lineUp := fun _ h => h.setCtx rfl

theorem lineDown_keepsStore (p : PositionId) : KeepsStore (State.lineDown p) := fun s h => by
  have hquiet : StoreMatches { s with ports := tset s.ports p .quiet } := h
  refine StoreMatches.setCtx (.forcedDetach ?_ p) rfl
  exact hquiet.setCtx rfl

theorem receivePosition_keepsStore (p : PositionId) (bytes : List Byte) : KeepsStore (State.receivePosition p bytes) := fun s h => by
  obtain ⟨_, hs⟩ := State.receivePosition_shape p bytes s
  rw [hs]
  exact h

theorem serveAttach_keepsStore (p : PositionId) (x : AccountId × Fin 16) : KeepsStore fun s => (serveAttach p x s).1 := fun s h => by
  unfold serveAttach
  dsimp only
  split_ifs
  · exact h
  · exact h
  · exact h
  · exact h.setCtx rfl

theorem serveDetach_keepsStore (p : PositionId) (x : Unit) : KeepsStore fun s => (serveDetach p x s).1 := fun s h => by
  unfold serveDetach
  dsimp only
  split
  · exact (h.forcedDetach p).setCtx rfl
  · exact h

theorem serveBegin_keepsStore (p : PositionId) (x : Unit) : KeepsStore fun s => (serveBegin p x s).1 := fun s h => by
  unfold serveBegin
  dsimp only
  split
  · exact h.setCtx rfl
  · exact h

theorem serveAdd_keepsStore (p : PositionId) (x : Unit) : KeepsStore fun s => (serveAdd p x s).1 := fun s h => by
  unfold serveAdd
  dsimp only
  split
  · exact h.setItem p _ _
  · exact h

theorem serveAmend_keepsStore (p : PositionId) (m : Amendment) : KeepsStore fun s => (serveAmend p m s).1 := fun s h => by
  unfold serveAmend
  dsimp only
  split
  · split_ifs
    · exact h
    · exact h
    · exact (h.releaseQuote _).setItem p _ _
    · exact h.setItem p _ _
  · exact h

theorem serveDrop_keepsStore (p : PositionId) (k : Slot) : KeepsStore fun s => (serveDrop p k s).1 := fun s h => by
  unfold serveDrop
  dsimp only
  split
  · split
    · exact (h.releaseQuote _).setItem p k none
    · exact h
  · exact h

theorem serveDetail_keepsStore (p : PositionId) (k : Slot) : KeepsStore fun s => (serveDetail p k s).1 := fun s h => by
  unfold serveDetail
  dsimp only
  split <;> exact h

theorem serveFinish_keepsStore (p : PositionId) (x : Nat × Nat) : KeepsStore fun s => (serveFinish p x s).1 := fun s h => by
  unfold serveFinish
  dsimp only
  split
  · next t _ =>
    split_ifs
    · exact h
    · refine (h.releaseAll t).setCtx ?_
      obtain ⟨_, hreleased⟩ := State.releaseAll_shape t s
      rw [hreleased]
      rfl
    · exact h
  · exact h

theorem serveCollect_keepsStore (p : PositionId) (x : Unit) : KeepsStore fun s => (serveCollect p x s).1 := fun s h => by
  unfold serveCollect
  dsimp only
  split
  · exact h.setCtx rfl
  · exact h

/-! ### Scale channels -/

/-- R47 to R52: no sample changes the settings of a channel. -/
theorem Channel.takeGood_config (count : Int) (ch : Channel) : (ch.takeGood count).config = ch.config := by
  have hjudged : ∀ x : Channel, x.judged.config = x.config := fun x => by
    unfold Channel.judged
    split
    · split <;> rfl
    · rfl
  unfold Channel.takeGood
  dsimp only
  split
  · rfl
  · rfl
  · rfl
  · split_ifs
    · rfl
    · rfl
    · exact hjudged _

theorem takeArrival_keepsStore (c : ChannelId) (a : Arrival) : KeepsStore fun s => s.takeArrival c a := fun s h => by
  unfold State.takeArrival
  dsimp only
  split
  · exact h
  · exact h.setChannel (Channel.takeGood_config _ _)
  · exact h
  · split
    · refine StoreMatches.endWeigh ?_ c _ _
      exact h.setChannel rfl
    · exact h.setChannel rfl

theorem receiveSamples_keepsStore (c : ChannelId) (bytes : List Byte) : KeepsStore (State.receiveSamples c bytes) := fun _ h =>
  KeepsStore.foldl (takeArrival_keepsStore c) _ _ h

theorem settle_keepsStore (c : ChannelId) : KeepsStore (State.settle c) := fun s h => by
  unfold State.settle
  dsimp only
  split
  · have hstable : StoreMatches (s.setChannel c { s.channel c with state := .stable, settleTimer := none }) := h.setChannel rfl
    split
    · exact hstable.endWeigh c _ _
    · exact hstable
  · exact h

theorem weighTimer_keepsStore (c : ChannelId) :
    KeepsStore fun s => if (s.channel c).weighTimer.isSome then s.endWeigh c .unstable 0 else s := fun s h => by
  dsimp only
  split
  · exact h.endWeigh c _ _
  · exact h

theorem StoreMatches.startWeigh {s : State} (h : StoreMatches s) (p : PositionId) (k : Slot) : StoreMatches (s.startWeigh p k) :=
  (h.requote p k .weighing).setCtx rfl

theorem StoreMatches.takeWeigh {s : State} (h : StoreMatches s) (p : PositionId) (c : ChannelId) (k : Slot) :
    StoreMatches (s.takeWeigh p c k).1 := by
  unfold State.takeWeigh
  dsimp only
  split
  · exact (h.startWeigh p k).finishWeigh p k _ _
  · exact (h.startWeigh p k).setChannel (by rw [State.channel, State.channel, State.startWeigh_channels])

theorem serveWeigh_keepsStore (p : PositionId) (k : Slot) : KeepsStore fun s => (serveWeigh p k s).1 := fun s h => by
  unfold serveWeigh
  dsimp only
  split
  · exact h
  · exact h
  · split_ifs
    · exact h
    · exact h
    · exact h
    · exact h
    · exact h
    · exact h.takeWeigh p _ k

theorem serveZero_keepsStore (p : PositionId) (x : Unit) : KeepsStore fun s => (serveZero p x s).1 := fun s h => by
  unfold serveZero
  dsimp only
  split
  · exact h
  · split_ifs
    · exact h
    · exact h
    · exact h
    · split
      · split
        · exact h.setChannel rfl
        · exact h
      · exact h

/-! ### Rating -/

theorem serveRate_keepsStore (p : PositionId) (x : Slot × Scope) : KeepsStore fun s => (serveRate p x s).1 := fun s h => by
  have htake : StoreMatches (s.takeRate p x.1 x.2) := by
    have hqueued := h.requote p x.1 .rateQueued
    have hrating : StoreMatches ((s.requote p x.1 .rateQueued).setCtx p
        { (s.requote p x.1 .rateQueued).ctx p with rating := true }) := hqueued.setCtx rfl
    exact hrating
  unfold serveRate
  dsimp only
  split
  · exact h
  · split_ifs
    · exact h
    · exact h
    · exact h
    · exact h
    · exact h
    · exact htake

theorem startEvaluation_keepsStore : KeepsStore State.startEvaluation := fun s h => by
  unfold State.startEvaluation
  dsimp only
  split
  · next op rest _ _ =>
    have hleft : StoreMatches { s with evaluator := { s.evaluator with queue := rest } } := h
    split
    · split
      · split
        · next b _ _ =>
          have hreferenced : StoreMatches (State.reference b { s with evaluator := { s.evaluator with queue := rest } }) :=
            hleft.setBank rfl
          exact hreferenced.setItem op.position op.slot _
        · exact hleft.endRating op .noTariff
      · exact hleft
    · exact hleft
  · exact h

theorem checkStep_keepsStore : KeepsStore State.checkStep := fun s h => by
  unfold State.checkStep
  split
  · split
    · split
      · exact h
      · exact (h.release _).endRating _ _
    · exact h
  · exact h
  · exact h

theorem termStep_keepsStore : KeepsStore State.termStep := fun s h => by
  unfold State.termStep
  split
  · split <;> exact h
  · exact h
  · exact h

theorem StoreMatches.storeQuote {s : State} (h : StoreMatches s) (p : PositionId) (k : Slot) (q : Quote) :
    StoreMatches (s.storeQuote p k q) := by
  unfold State.storeQuote
  split
  · split
    · exact h.setItem p k _
    · exact h
  · exact h

theorem deliveryStep_keepsStore : KeepsStore State.deliveryStep := fun s h => by
  unfold State.deliveryStep
  dsimp only
  split
  · next op ev _ =>
    split
    · next w _ _ =>
      have hquoted := h.storeQuote op.position op.slot (ev.quote (s.bank ev.bank).image w)
      split
      · exact hquoted
      · exact StoreMatches.handRateDone (s := State.setEvaluatorState .idle _) hquoted _ _ _
    · exact h
  · exact h
  · exact h

theorem chainStep_keepsStore : KeepsStore State.chainStep := fun s h => by
  unfold State.chainStep
  dsimp only
  split
  · next op _ =>
    split
    · exact h.requote op.position (slotAfter op.slot) .rateQueued
    · exact StoreMatches.handRateDone (s := s.setEvaluatorState .idle) h _ _ _
  · exact h
  · exact h

theorem haltEvaluation_keepsStore : KeepsStore State.haltEvaluation := fun s h => by
  unfold State.haltEvaluation
  split
  · split
    · exact (h.release _).endRating _ _
    · exact (h.release _).endRating _ _
    · exact h.release _
    · exact h
  · exact h
  · exact h

/-! ### CANCEL -/

theorem cancelOperation_keepsStore (p : PositionId) (target : Option Slot) : KeepsStore (State.cancelOperation p target) := fun s h => by
  unfold State.cancelOperation
  split
  · refine StoreMatches.handRateDone (.returnItem ?_ p _) _ _ _
    exact h
  · split
    · split <;> exact h
    · split
      · exact StoreMatches.handRateDone (s := s.setEvaluatorState .idle) h _ _ _
      · exact h
    · exact h

theorem serveCancel_keepsStore (p : PositionId) (target : Option Slot) : KeepsStore fun s => (serveCancel p target s).1 := fun s h => by
  have hweigh : StoreMatches (s.cancelWeigh p target).1 := by
    unfold State.cancelWeigh
    split
    · split
      · exact h.endWeigh _ _ _
      · exact h
    · exact h
  unfold serveCancel
  dsimp only
  split
  · exact cancelOperation_keepsStore p target _ hweigh
  · exact hweigh

/-! ### Acceptance and void -/

/-- R135: account, allocator, journal and queue are each written with their change. -/
theorem StoreMatches.acceptItem {s : State} (h : StoreMatches s) (p : PositionId) (k : Slot) (a : AccountId) (l : PrinterId)
    (office serial : Nat) (i : Item) (q : Quote) : StoreMatches (s.acceptItem p k a l office serial i q) := by
  have hdebited := h.updateAccount a ((s.account a).debited q.postage)
  have htaken := hdebited.saveAllocator (s.updateAccount a ((s.account a).debited q.postage)).allocator.taken
  exact (((htaken.appendEntry a _).releaseQuote i).setItem p k _).queueJob l _

theorem StoreMatches.acceptChecked {s : State} (h : StoreMatches s) (p : PositionId) (k : Slot) (a : AccountId) (key : Fin 16)
    (i : Item) (q : Quote) : StoreMatches (s.acceptChecked p k a key i q).1 := by
  unfold State.acceptChecked
  dsimp only
  split
  · exact h
  · split
    · exact h
    · split
      · exact h
      · split
        · split
          · exact h
          · split
            · exact h
            · split
              · exact h
              · exact h.acceptItem p k a _ _ _ i q
        · exact h

theorem serveAccept_keepsStore (p : PositionId) (k : Slot) : KeepsStore fun s => (serveAccept p k s).1 := fun s h => by
  unfold serveAccept
  dsimp only
  split
  · exact h
  · split
    · exact h
    · split
      · exact h
      · split
        · exact h
        · split
          · exact h
          · split
            · exact h.acceptChecked p k _ _ _ _
            · exact h

/-- R138: account, journal and queue are each written with their change. -/
theorem StoreMatches.voidItem {s : State} (h : StoreMatches s) (p : PositionId) (k : Slot) (a : AccountId) (num : Nat) (i : Item)
    (q : Quote) : StoreMatches (s.voidItem p k a num i q) :=
  (((h.updateAccount a _).appendEntry a _).withdrawJob num).setItem p k _

theorem serveVoid_keepsStore (p : PositionId) (k : Slot) : KeepsStore fun s => (serveVoid p k s).1 := fun s h => by
  unfold serveVoid
  dsimp only
  split
  · exact h
  · split
    · exact h
    · split
      · exact h
      · split
        · split_ifs
          · exact h
          · exact h
          · exact h
          · exact h.voidItem p k _ _ _ _
        · exact h

/-! ### Printers -/

theorem takePrinterAnswer_keepsStore (l : PrinterId) (a : PrinterAnswer) : KeepsStore fun s => s.takePrinterAnswer l a := fun s h => by
  cases a with
  | done n =>
    simp only [State.takePrinterAnswer, State.takeDone]
    split
    · exact h.finishHead l
    · exact h
  | fault n reason =>
    simp only [State.takePrinterAnswer, State.takeFault]
    split
    · split
      · exact h.returnHead l _
      · exact h
    · exact h.setPrinter rfl rfl
    · exact h.setPrinter rfl rfl
    · exact h
  | ready =>
    simp only [State.takePrinterAnswer, State.takeReady]
    split
    · refine StoreMatches.sendHead ?_ l
      exact h.setPrinter rfl rfl
    · exact (h.returnHead l .ready).sendHead l
    · exact h
    · exact h

theorem receiveAnswers_keepsStore (l : PrinterId) (bytes : List Byte) : KeepsStore (State.receiveAnswers l bytes) := fun _ h =>
  KeepsStore.foldl (takePrinterAnswer_keepsStore l) _ _ h

theorem printTimeout_keepsStore (l : PrinterId) :
    KeepsStore fun s => if (s.printer l).state = .printing ∧ (s.printer l).timer.isSome then s.returnHead l (.faulted .timeout) else s :=
  fun s h => by
    dsimp only
    split
    · exact h.returnHead l _
    · exact h

theorem setEnabled_keepsStore (l : PrinterId) (enabled : Bool) : KeepsStore (State.setEnabled l enabled) := fun s h => by
  unfold State.setEnabled
  split
  · exact h.returnHead l .off
  · exact h.setPrinter rfl rfl
  · exact h.setPrinter rfl rfl
  · exact h
  · refine StoreMatches.sendHead ?_ l
    exact h.setPrinter rfl rfl
  · exact h
  · exact h
  · exact h

theorem servePrinter_keepsStore (x : PrinterId × Bool) : KeepsStore fun s => (servePrinter x s).1 := fun s h => by
  have hset : StoreMatches ((s.setPrinter x.1 { s.printer x.1 with enabled := x.2 }).savePrinter x.1) := h.savePrinter rfl
  exact setEnabled_keepsStore x.1 x.2 _ hset

/-- R163: both queues of a REDIRECT are written, which comes to the same in either order. -/
theorem State.saveQueue_two {l m : PrinterId} (hne : l ≠ m) (x y : Printer) (s : State) :
    ((s.setPrinter l x).setPrinter m y).saveQueue l = ((s.setPrinter l x).saveQueue l).setPrinter m y := by
  simp only [State.saveQueue, State.setPrinter_printer_ne m l y _ hne]
  rfl

theorem serveRedirect_keepsStore (x : PrinterId × PrinterId) : KeepsStore fun s => (serveRedirect x s).1 := fun s h => by
  unfold serveRedirect
  dsimp only
  split_ifs with hsame
  · exact h
  · exact h
  · exact h
  · refine StoreMatches.sendHead (.reportMoved ?_ _) _
    rw [State.saveQueue_two hsame]
    refine StoreMatches.saveQueue ?_ ?_
    · exact h.saveQueue rfl
    · have htarget : ∀ y, ((s.setPrinter x.1 y).saveQueue x.1).printer x.2 = s.printer x.2 := fun y =>
        State.setPrinter_printer_ne x.1 x.2 y s (Ne.symm hsame)
      rw [htarget]

end Sys2Proof.Machine
end

section
/-! SUPPORT. The non-volatile store under the office commands, the load commands and the tick (R177). -/

namespace Sys2Proof.Machine

/-! ### Office commands -/

theorem serveFlags_keepsStore (x : List FlagAction) : KeepsStore fun s => (serveFlags x s).1 := fun s h => by
  unfold serveFlags
  dsimp only
  split
  · exact h
  · exact h.saveFlags _

theorem servePosition_keepsStore (x : PositionId × PositionConfig) : KeepsStore fun s => (servePosition x s).1 := fun s h => by
  unfold servePosition
  dsimp only
  split
  · exact h
  · split
    · exact (h.forcedDetach x.1).savePosition x.1 _
    · exact h.savePosition x.1 _

theorem serveScale_keepsStore (x : ChannelId × ScaleConfig) : KeepsStore fun s => (serveScale x s).1 := fun _ h =>
  (h.saveChannel x.1 _).endWeigh x.1 _ _

theorem serveAccount_keepsStore (x : AccountChange) : KeepsStore fun s => (serveAccount x s).1 := fun s h => by
  unfold serveAccount
  dsimp only
  split
  · exact h
  · exact h.updateAccount _ _

theorem serveCredit_keepsStore (x : AccountId × Nat) : KeepsStore fun s => (serveCredit x s).1 := fun s h => by
  unfold serveCredit
  dsimp only
  split_ifs
  · exact h
  · exact h
  · exact h
  · exact h
  · exact (h.updateAccount x.1 _).appendEntry x.1 _

theorem serveBlock_keepsStore (x : Nat × Nat) : KeepsStore fun s => (serveBlock x s).1 := fun s h => by
  unfold serveBlock
  dsimp only
  split_ifs
  · exact h
  · exact h
  · exact h
  · exact h.saveAllocator _

theorem serveJournalRelease_keepsStore (x : Word32) : KeepsStore fun s => (serveJournalRelease x s).1 := fun s h => by
  unfold serveJournalRelease
  dsimp only
  split
  · exact h
  · exact h.saveJournal _

theorem serveRestart_keepsStore (x : Option Nat) : KeepsStore fun s => (serveRestart x s).1 := fun s h => by
  unfold serveRestart
  dsimp only
  split
  · exact h
  · next code _ => exact h.saveAllocator { s.allocator with officeCode := some code }
  · split <;> exact h

/-! ### Tariff loading and changeover -/

/-- R124: of a bank that is EMPTY, LOADING or RETIRING the store keeps nothing. -/
theorem keptOf_eq_none {bk : Bank} (hloaded : bk.state ≠ .loaded) (hactive : bk.state ≠ .active) : keptOf bk = none :=
  if_neg fun hor => hor.elim hloaded hactive

/-- R110, R112: a LOADING bank is emptied; the store keeps nothing of either. -/
theorem StoreMatches.blankLoading {s : State} (h : StoreMatches s) {b : BankId} (hb : (s.bank b).state = .loading) :
    StoreMatches (s.setBank b .blank) :=
  h.setBank (keptOf_eq_none (by simp [hb]) (by simp [hb])).symm

theorem serveLoadBegin_keepsStore (x : LoadDeclaration) : KeepsStore fun s => (serveLoadBegin x s).1 := fun s h => by
  unfold serveLoadBegin
  dsimp only
  split
  · exact h
  · split
    · next b hb =>
      have hempty := State.emptyBank_empty hb
      exact h.setBank (keptOf_eq_none (by simp [hempty]) (by simp [hempty])).symm
    · exact h

theorem serveLoadPart_keepsStore (x : Nat × List Byte) : KeepsStore fun s => (serveLoadPart x s).1 := fun s h => by
  unfold serveLoadPart
  dsimp only
  split
  · exact h
  · next b hb =>
    have hloading := State.loadingBank_loading hb
    have hkept {bk : Bank} (hbk : bk.state = .loading) : keptOf bk = none := keptOf_eq_none (by simp [hbk]) (by simp [hbk])
    split_ifs
    · exact h
    · exact h
    · refine h.setBank (.trans (hkept ?_) (hkept hloading).symm)
      exact hloading

theorem StoreMatches.admitImage {s : State} (h : StoreMatches s) (b : BankId) : StoreMatches (s.admitImage b) :=
  h.saveTariffs (by cases b <;> rfl)

theorem serveLoadEnd_keepsStore (x : Unit) : KeepsStore fun s => (serveLoadEnd x s).1 := fun s h => by
  unfold serveLoadEnd
  dsimp only
  split
  · exact h
  · next b hb =>
    split
    · exact h.blankLoading (State.loadingBank_loading hb)
    · split
      · exact (h.admitImage b).activate b
      · exact h.admitImage b

theorem serveLoadAbandon_keepsStore (b : BankId) : KeepsStore fun s => (serveLoadAbandon b s).1 := fun s h => by
  unfold serveLoadAbandon
  dsimp only
  split
  · next hb => exact h.blankLoading hb
  · exact h.saveTariffs (by cases b <;> rfl)
  · exact h
  · exact h
  · exact h

theorem serveActivate_keepsStore (b : BankId) : KeepsStore fun s => (serveActivate b s).1 := fun s h => by
  unfold serveActivate
  dsimp only
  split
  · exact h.activate b
  · exact h

theorem tickTariffs_keepsStore : KeepsStore State.tickTariffs := fun s h => by
  have hticked := (h.tickGrace .A).tickGrace .B
  unfold State.tickTariffs
  dsimp only
  split
  · exact hticked.activate _
  · exact hticked

end Sys2Proof.Machine
end

section
/-! ANSWERS. The store stays current (O53). -/

namespace Sys2Proof.Machine

/-! ### Every command -/

theorem exec_storeMatches {s u : State} (h : StoreMatches s) (c : Instr) (hu : exec c s = .next u) : StoreMatches u := by
  cases c with
  | linkUp p => exact (lineUp_keepsStore p).running h hu
  | linkDown p => exact (lineDown_keepsStore p).running h hu
  | positionFrameReceived p bytes => exact (receivePosition_keepsStore p bytes).running h hu
  | attach p tag payload => exact (KeepsStore.request (serveAttach_keepsStore p) _ p tag payload).running h hu
  | detach p tag payload => exact (KeepsStore.request (serveDetach_keepsStore p) _ p tag payload).running h hu
  | beginTransaction p tag payload => exact (KeepsStore.request (serveBegin_keepsStore p) _ p tag payload).running h hu
  | add p tag payload => exact (KeepsStore.request (serveAdd_keepsStore p) _ p tag payload).running h hu
  | amend p tag payload => exact (KeepsStore.request (serveAmend_keepsStore p) _ p tag payload).running h hu
  | drop p tag payload => exact (KeepsStore.request (serveDrop_keepsStore p) _ p tag payload).running h hu
  | weigh p tag payload => exact (KeepsStore.request (serveWeigh_keepsStore p) _ p tag payload).running h hu
  | zero p tag payload => exact (KeepsStore.request (serveZero_keepsStore p) _ p tag payload).running h hu
  | rate p tag payload => exact (KeepsStore.request (serveRate_keepsStore p) _ p tag payload).running h hu
  | detail p tag payload => exact (KeepsStore.request (serveDetail_keepsStore p) _ p tag payload).running h hu
  | accept p tag payload => exact (KeepsStore.request (serveAccept_keepsStore p) _ p tag payload).running h hu
  | void p tag payload => exact (KeepsStore.request (serveVoid_keepsStore p) _ p tag payload).running h hu
  | cancel p tag payload => exact (KeepsStore.request (serveCancel_keepsStore p) _ p tag payload).running h hu
  | collect p tag payload => exact (KeepsStore.request (serveCollect_keepsStore p) _ p tag payload).running h hu
  | finish p tag payload => exact (KeepsStore.request (serveFinish_keepsStore p) _ p tag payload).running h hu
  | query p tag payload => exact (KeepsStore.request (fun _ _ h => h) _ p tag payload).running h hu
  | sampleFrame c bytes => exact (receiveSamples_keepsStore c bytes).running h hu
  | settleTimerExpiry c => exact (settle_keepsStore c).running h hu
  | weighTimerExpiry c => exact (weighTimer_keepsStore c).running h hu
  | evaluationStart => exact startEvaluation_keepsStore.running h hu
  | checkStep => exact checkStep_keepsStore.running h hu
  | termStep => exact termStep_keepsStore.running h hu
  | deliveryStep => exact deliveryStep_keepsStore.running h hu
  | chainStep => exact chainStep_keepsStore.running h hu
  | evaluationHalt => exact haltEvaluation_keepsStore.running h hu
  | officeFrameReceived input => exact KeepsStore.running (f := State.receiveOffice input) (fun _ h => h) h hu
  | status tag payload => exact (KeepsStore.command (fun _ _ h => h) _ _ tag payload).running h hu
  | time tag payload => exact (KeepsStore.command (serve := serveTime) (fun _ _ h => h) _ _ tag payload).running h hu
  | flags tag payload => exact (KeepsStore.command serveFlags_keepsStore _ _ tag payload).running h hu
  | position tag payload => exact (KeepsStore.command servePosition_keepsStore _ _ tag payload).running h hu
  | scale tag payload => exact (KeepsStore.command serveScale_keepsStore _ _ tag payload).running h hu
  | printer tag payload => exact (KeepsStore.command servePrinter_keepsStore _ _ tag payload).running h hu
  | redirect tag payload => exact (KeepsStore.command serveRedirect_keepsStore _ _ tag payload).running h hu
  | account tag payload => exact (KeepsStore.command serveAccount_keepsStore _ _ tag payload).running h hu
  | credit tag payload => exact (KeepsStore.command serveCredit_keepsStore _ _ tag payload).running h hu
  | block tag payload => exact (KeepsStore.command serveBlock_keepsStore _ _ tag payload).running h hu
  | loadBegin tag payload => exact (KeepsStore.command serveLoadBegin_keepsStore _ _ tag payload).running h hu
  | loadPart tag payload => exact (KeepsStore.command serveLoadPart_keepsStore _ _ tag payload).running h hu
  | loadEnd tag payload => exact (KeepsStore.command serveLoadEnd_keepsStore _ _ tag payload).running h hu
  | loadAbandon tag payload => exact (KeepsStore.command serveLoadAbandon_keepsStore _ _ tag payload).running h hu
  | activate tag payload => exact (KeepsStore.command serveActivate_keepsStore _ _ tag payload).running h hu
  | journalRead tag payload => exact (KeepsStore.command (fun _ _ h => h) _ _ tag payload).running h hu
  | journalRelease tag payload => exact (KeepsStore.command serveJournalRelease_keepsStore _ _ tag payload).running h hu
  | restart tag payload => exact (KeepsStore.command serveRestart_keepsStore _ _ tag payload).running h hu
  | restartRebuild =>
    simp only [exec, execRestartRebuild] at hu
    split at hu
    · cases hu
      refine StoreMatches.sendHeads ?_
      exact h.rebuild
    · cases hu; exact h
  | powerOn kept =>
    cases hu
    refine StoreMatches.sendHeads ?_
    exact h.rebuild
  | supplyFailure => cases hu; exact h.rebuild
  | supplySample microvolts => cases hu; exact h
  | tick => exact tickTariffs_keepsStore.running (s := { s with clock := s.clock.advanced }) h hu
  | graceExpiry b =>
    simp only [exec, execGraceExpiry] at hu
    refine KeepsStore.running (fun s h => ?_) h hu
    split
    · exact h.expireGrace b
    · exact h
  | loadIdleTimeout b =>
    simp only [exec, execLoadIdleTimeout] at hu
    refine KeepsStore.running (fun s h => ?_) h hu
    split
    · next hb => exact h.blankLoading hb.1
    · exact h
  | printerDone l noise n reason check => exact (receiveAnswers_keepsStore l _).running h hu
  | printerFault l noise n reason check => exact (receiveAnswers_keepsStore l _).running h hu
  | printerReady l noise n reason check => exact (receiveAnswers_keepsStore l _).running h hu
  | printTimeout l => exact (printTimeout_keepsStore l).running h hu
  | unknownRequestCode p code tag payload =>
    simp only [exec, execUnknownRequestCode] at hu
    refine KeepsStore.running (fun s h => ?_) h hu
    split
    · exact h
    · exact KeepsStore.request nofun _ p tag payload s h
  | unknownCommandCode code tag payload =>
    simp only [exec, execUnknownCommandCode] at hu
    refine KeepsStore.running (fun s h => ?_) h hu
    split
    · exact h
    · exact KeepsStore.command nofun _ _ tag payload s h

/-- Settles O53: each command leaves the stored parts alone, writes the part it changes, or rebuilds every owner from the store. -/
theorem storeStaysCurrent : Obligations.StoreStaysCurrent := by
  intro s u hmatches hstep
  unfold step at hstep
  split at hstep
  · next c rest _ => exact exec_storeMatches (s := { s with pending := rest }) hmatches c hstep
  · cases hstep; exact hmatches

end Sys2Proof.Machine
end

section
/-! ANSWERS. LOAD-BEGIN, LOAD-PART, LOAD-ABANDON and the load idle timer (O43). -/

namespace Sys2Proof.Machine

/-- R108: LOAD-BEGIN takes bank A if it is EMPTY, else bank B if that is, and neither while a load is in progress. -/
theorem serveLoadBegin_eq (d : LoadDeclaration) (s : State) :
    serveLoadBegin d s =
      if (s.bank .A).state = .loading ∨ (s.bank .B).state = .loading ∨ ((s.bank .A).state ≠ .empty ∧ (s.bank .B).state ≠ .empty) then
        (s, .refused .noBank [])
      else if (s.bank .A).state = .empty then (s.setBank .A (.loadingOf d), .done [bankCode .A])
      else (s.setBank .B (.loadingOf d), .done [bankCode .B]) := by
  simp only [serveLoadBegin, State.loadingBank, State.emptyBank, State.bank]
  by_cases hloadingA : s.tariffs.bankA.state = .loading
  · simp [hloadingA]
  by_cases hloadingB : s.tariffs.bankB.state = .loading
  · simp [hloadingA, hloadingB]
  by_cases hemptyA : s.tariffs.bankA.state = .empty
  · simp [hloadingB, hemptyA]
  · by_cases hemptyB : s.tariffs.bankB.state = .empty <;> simp [hloadingA, hloadingB, hemptyA, hemptyB]

theorem readLoadPart_fits (o0 o1 : Byte) {part : List Byte} (h : 1 ≤ part.length) (h' : part.length ≤ 240) :
    readLoadPart (o0 :: o1 :: part) = some (o0.toNat + 256 * o1.toNat, part) := by
  simp [readLoadPart, h, h', leNat]

/-- R109: LOAD-PART without a load. -/
theorem serveLoadPart_none {s : State} (x : Nat × List Byte) (hno : ∀ b, (s.bank b).state ≠ .loading) :
    serveLoadPart x s = (s, .refused .state []) := by
  simp only [serveLoadPart, State.loadingBank_eq_none hno]

/-- R109: LOAD-PART to the one bank that is LOADING. -/
theorem serveLoadPart_eq {s : State} {b : BankId} {d : Declared} (offset : Nat) (part : List Byte) (hb : (s.bank b).state = .loading)
    (ho : (s.bank b.other).state ≠ .loading) (hd : (s.bank b).declared = some d) :
    serveLoadPart (offset, part) s =
      if offset ≠ (s.bank b).image.length then (s, .refused .sequence (leBytes 2 (s.bank b).image.length))
      else if d.length < offset + part.length then (s, .refused .length (leBytes 2 (s.bank b).image.length))
      else
        (s.setBank b { s.bank b with image := (s.bank b).image ++ part, idleTimer := some Config.idleTime },
          .done (leBytes 2 ((s.bank b).image.length + part.length))) := by
  simp only [serveLoadPart, State.loadingBank_eq_some hb ho, hd]

@[simp] theorem readBankName_bankCode (b : BankId) : readBankName [bankCode b] = some b := by cases b <;> rfl

/-- Settles O43: each command's answer follows the states of the banks; the idle timer empties the LOADING bank. -/
theorem loadCommandsBuildImage : Obligations.LoadCommandsBuildImage := by
  refine ⟨fun tag d payload rest s hread hw => ?_, fun tag o0 o1 part rest s hpart hpart' hw => ?_, fun tag b rest s hw => ?_,
    fun b s hp hb htimer => ?_⟩
  · intro f fresh
    have hserve := serveLoadBegin_eq d (s.afterCommand rest [])
    simp only [State.afterCommand_bank] at hserve
    split_ifs at hserve ⊢
    · exact State.running_command_answered hw hread hserve
    · exact State.running_command_answered hw hread hserve
    · exact State.running_command_answered hw hread hserve
  · intro f offset
    have hread := readLoadPart_fits o0 o1 hpart hpart'
    refine ⟨fun hno => ?_, fun b d hb ho hd => ?_⟩
    · exact State.running_command_answered hw hread
        (serveLoadPart_none _ fun b => by rw [State.afterCommand_bank]; exact hno b)
    · intro received
      simp only [← State.afterCommand_bank _ rest [] s] at hb ho hd
      have hserve := serveLoadPart_eq offset part hb ho hd
      simp only [State.afterCommand_bank] at hserve
      split_ifs at hserve ⊢
      · exact State.running_command_answered hw hread hserve
      · exact State.running_command_answered hw hread hserve
      · exact (State.running_command_answered hw hread hserve).trans (by cases b <;> rfl)
  · intro f emptied
    have hread := readBankName_bankCode b
    have hserved := State.running_command_served 0x0E readBankName tag _ serveLoadAbandon rest b s hw hread
    rw [serveLoadAbandon, State.afterCommand_bank] at hserved
    cases hst : (s.bank b).state with
    | loading => rw [hst] at hserved; exact hserved.trans (by cases b <;> rfl)
    | loaded => rw [hst, State.saveTariffs_eq] at hserved; exact hserved.trans (by cases b <;> rfl)
    | empty => rw [hst] at hserved; exact hserved
    | active => rw [hst] at hserved; exact hserved
    | retiring => rw [hst] at hserved; exact hserved
  · refine (State.running_on _ s hp).trans ?_
    simp only [State.bank_sent, hb, htimer, and_self, if_true]
    cases b <;> rfl

end Sys2Proof.Machine
end

section
/-! ANSWERS. ACTIVATE (O45). -/

namespace Sys2Proof.Machine

/-- R115: ACTIVATE of a bank that is not LOADED. -/
theorem serveActivate_refused {b : BankId} {s : State} (h : (s.bank b).state ≠ .loaded) :
    serveActivate b s = (s, .refused .state []) :=
  if_neg h

/-- R115: ACTIVATE of a LOADED bank. -/
theorem serveActivate_loaded {b : BankId} {s : State} (h : (s.bank b).state = .loaded) :
    serveActivate b s = (s.withActivation b, .done []) := by
  rw [← State.activate_eq]
  exact if_pos h

/-- R114, R124: bank `b` is ACTIVE, the other bank is as given, and the store is written. -/
def State.activatedOver (b : BankId) (other : Bank) (s : State) : State :=
  State.withBanksStored { s with tariffs := ((s.setBank b { s.bank b with state := .active }).setBank b.other other).tariffs }

section
variable {b : BankId} {s : State}

/-- R114, R118: an ACTIVE bank with references retires under the grace of the bank that comes into force. -/
theorem State.withActivation_retires {g : Nat} (hst : (s.bank b.other).state = .active) (hrefs : 0 < (s.bank b.other).refs)
    (hg : (s.bank b).grace = some g) :
    s.withActivation b =
      if g = 0 then
        (s.activatedOver b { s.bank b.other with state := .retiring, graceTimer := .running 0 }).withGraceExpired b.other
      else s.activatedOver b { s.bank b.other with state := .retiring, graceTimer := .running (60 * g) } := by
  have hseconds : 60 * (s.bank b).grace.getD 0 = 60 * g := by rw [hg, Option.getD_some]
  unfold State.withActivation
  simp only [hst, if_neg hrefs.ne', hseconds]
  by_cases hzero : g = 0
  · subst hzero
    rfl
  · rw [if_neg (by omega), if_neg hzero]
    rfl

/-- R114: an ACTIVE bank without references is emptied. -/
theorem State.withActivation_empties (hst : (s.bank b.other).state = .active) (hrefs : (s.bank b.other).refs = 0) :
    s.withActivation b = s.activatedOver b .blank := by
  unfold State.withActivation
  simp only [hst, if_pos hrefs]
  rfl

/-- R114: a LOADED bank is emptied when its effective time is no later. -/
theorem State.withActivation_loaded {e e' : Word32} (hst : (s.bank b.other).state = .loaded)
    (he' : (s.bank b.other).effective = some e') (he : (s.bank b).effective = some e) :
    s.withActivation b = s.activatedOver b (if e'.toNat ≤ e.toNat then .blank else s.bank b.other) := by
  unfold State.withActivation
  simp only [hst]
  split
  · next h' h =>
    cases he'.symm.trans h'
    cases he.symm.trans h
    rfl
  · next hnone => exact absurd he (hnone _ _ he')

/-- R114: a bank in any other state stays. -/
theorem State.withActivation_leaves
    (hst : (s.bank b.other).state = .empty ∨ (s.bank b.other).state = .loading ∨ (s.bank b.other).state = .retiring) :
    s.withActivation b = s.activatedOver b (s.bank b.other) := by
  unfold State.withActivation
  obtain hst | hst | hst := hst <;> simp only [hst] <;> rfl

end

/-- Settles O45, by the state of the bank that is superseded. -/
theorem activateSupersedes : Obligations.ActivateSupersedes := by
  intro tag b rest s hw f
  have hread := readBankName_bankCode b
  refine ⟨fun hb => ?_, fun g e hb hg he => ?_⟩
  · exact State.running_command_answered hw hread (serveActivate_refused (by rwa [State.afterCommand_bank]))
  · intro old after
    let answered := s.afterCommand rest [answerTo f [0x00]]
    have hbank : ∀ c, answered.bank c = s.bank c := fun c => State.afterCommand_bank c rest _ s
    have hafter : ∀ other, answered.activatedOver b other = after other := fun _ => by cases b <;> rfl
    have hactivated : exec (.activate tag [bankCode b]) s = .next (answered.withActivation b) :=
      (State.running_command_answered hw hread (serveActivate_loaded (by rwa [State.afterCommand_bank]))).trans
        (congrArg _ (State.withActivation_sent b _ _))
    simp only [hactivated, old, ← hbank, ← hafter] at hg he ⊢
    exact ⟨fun hst hrefs => by rw [State.withActivation_retires hst hrefs hg],
      fun hst hrefs => by rw [State.withActivation_empties hst hrefs],
      fun e' hst he' => by rw [State.withActivation_loaded hst he' he],
      fun hst => by rw [State.withActivation_leaves hst]⟩

end Sys2Proof.Machine
end

section
/-! SUPPORT. The postage of the ACCEPTED items of open transactions (R42), read off the sheet and the accounts of the positions, and what a write of one position does to it. -/

namespace Sys2Proof.Machine

/-! ### The sales of a position -/

/-- R42: the postage that one entry of a sheet adds: that of an ACCEPTED item's quote. -/
def entrySale : Option (ItemState × Option Quote) → Nat
  | some (.accepted, some q) => q.postage
  | _ => 0

/-- R42: the postage of the ACCEPTED items of a position attached to an account. -/
def PositionContext.sales (a : AccountId) (c : PositionContext) : Nat :=
  if c.account = some a then ∑ k, entrySale (c.sheet k) else 0

theorem entrySale_of_not_accepted {e : Option (ItemState × Option Quote)} (h : ∀ quote, e ≠ some (.accepted, quote)) :
    entrySale e = 0 := by
  unfold entrySale
  split
  · exact absurd rfl (h _)
  · rfl

theorem entrySale_item_of_not_accepted {i : Item} (h : i.state ≠ .accepted) : entrySale (sheetEntry (some i)) = 0 :=
  entrySale_of_not_accepted fun _ he => h (congrArg Prod.fst (Option.some.inj he))

/-- R42: the sum that FINISH compares is the sheet's. -/
theorem acceptedPostage_eq (t : Transaction) : acceptedPostage t = ∑ k, entrySale (sheetEntry (tget t k)) := by
  rw [acceptedPostage, sum_toList_map]
  refine Finset.sum_congr rfl fun k _ => ?_
  cases tget t k with
  | none => rfl
  | some i =>
    obtain ⟨st, facts, weight, previous, quote, number, label⟩ := i
    cases st <;> cases quote <;> rfl

theorem PositionContext.sales_closed {c : PositionContext} (h : c.transaction = none) (a : AccountId) : c.sales a = 0 := by
  simp [PositionContext.sales, PositionContext.sheet_closed h, entrySale]

/-- R42: what VOID may still refund to an account, position by position. -/
theorem State.openSales_eq (s : State) (a : AccountId) : s.openSales a = ∑ p, (s.ctx p).sales a := by
  rw [State.openSales, sum_toList_map]
  refine Finset.sum_congr rfl fun p _ => ?_
  rw [State.ctx]
  cases ht : (tget s.positions p).transaction with
  | none =>
    rw [PositionContext.sales_closed ht]
    cases (tget s.positions p).account <;> rfl
  | some t =>
    rw [PositionContext.sales, PositionContext.sheet_of_transaction ht, ← acceptedPostage_eq]
    cases (tget s.positions p).account with
    | none => rfl
    | some b => simp

/-! ### One position written -/

/-- A sum of which one term is replaced. -/
theorem sum_replace {n : Nat} {f g : Fin n → Nat} (i : Fin n) (h : ∀ j, j ≠ i → g j = f j) : ∑ j, g j + f i = ∑ j, f j + g i := by
  have hrest : ∑ j ∈ Finset.univ.erase i, g j = ∑ j ∈ Finset.univ.erase i, f j :=
    Finset.sum_congr rfl fun j hj => h j (Finset.ne_of_mem_erase hj)
  rw [← Finset.add_sum_erase _ f (Finset.mem_univ i), ← Finset.add_sum_erase _ g (Finset.mem_univ i), hrest]
  omega

theorem State.openSales_setCtx (p : PositionId) (c : PositionContext) (s : State) (a : AccountId) :
    (s.setCtx p c).openSales a + (s.ctx p).sales a = s.openSales a + c.sales a := by
  rw [State.openSales_eq, State.openSales_eq]
  have h := sum_replace (f := fun q => (s.ctx q).sales a) (g := fun q => ((s.setCtx p c).ctx q).sales a) p
    fun q hq => by rw [State.setCtx_ctx_ne _ _ _ _ hq]
  simpa only [State.setCtx_ctx_self] using h

/-- R33, R42: one slot of an open transaction is written. -/
theorem State.openSales_writeSlot {s : State} {p : PositionId} {t : Transaction} (ht : (s.ctx p).transaction = some t)
    {c : PositionContext} {k : Slot} {o : Option Item} (hc : c.transaction = some (tset t k o))
    (haccount : c.account = (s.ctx p).account) (a : AccountId) :
    (s.setCtx p c).openSales a + (if (s.ctx p).account = some a then entrySale (sheetEntry (tget t k)) else 0) =
      s.openSales a + if (s.ctx p).account = some a then entrySale (sheetEntry o) else 0 := by
  have hctx := State.openSales_setCtx p c s a
  have hslot : ∑ m : Slot, entrySale (sheetEntry (tget (tset t k o) m)) + entrySale (sheetEntry (tget t k)) =
      ∑ m : Slot, entrySale (sheetEntry (tget t m)) + entrySale (sheetEntry o) := by
    simpa only [tget_tset_self] using sum_replace (f := fun m => entrySale (sheetEntry (tget t m)))
      (g := fun m => entrySale (sheetEntry (tget (tset t k o) m))) k fun m hm => by rw [tget_tset_ne _ _ _ _ hm]
  simp only [PositionContext.sales, PositionContext.sheet_of_transaction ht, PositionContext.sheet_of_transaction hc, haccount] at hctx
  split_ifs at hctx ⊢ <;> omega

end Sys2Proof.Machine
end

section
/-! SUPPORT. The books of the module (R126, R139, R143): accounts, journal, allocator and the sales that VOID may still refund. The shared operations of Ops.lean leave the books alone, and raise no sales. -/

namespace Sys2Proof.Machine

/-- R139, R143, R177: the journal and the allocator, each with its stored copy. -/
def State.ledgers (s : State) : (Journal × Journal) × Allocator × Allocator :=
  ((s.journal, s.nvs.journal), s.allocator, s.nvs.allocator)

/-- Between the two states accounts, journal and allocator have not changed, and no account has more sales open. -/
def BooksKept (s u : State) : Prop :=
  u.accounts = s.accounts ∧ u.ledgers = s.ledgers ∧ ∀ a, u.openSales a ≤ s.openSales a

theorem BooksKept.refl (s : State) : BooksKept s s := ⟨rfl, rfl, fun _ => le_rfl⟩

theorem BooksKept.trans {s u v : State} (h : BooksKept s u) (h' : BooksKept u v) : BooksKept s v := by
  obtain ⟨haccounts, hledgers, hsales⟩ := h
  obtain ⟨haccounts', hledgers', hsales'⟩ := h'
  exact ⟨haccounts'.trans haccounts, hledgers'.trans hledgers, fun a => (hsales' a).trans (hsales a)⟩

section
variable {s u : State}

/-! ### Positions and items (R1, R33) -/

theorem BooksKept.setCtx (h : BooksKept s u) {p : PositionId} {c : PositionContext} (hc : ∀ a, c.sales a ≤ (u.ctx p).sales a) :
    BooksKept s (u.setCtx p c) :=
  h.trans ⟨rfl, rfl, fun a => by have := State.openSales_setCtx p c u a; have := hc a; omega⟩

theorem BooksKept.setCtx_same (h : BooksKept s u) {p : PositionId} {c : PositionContext} (haccount : c.account = (u.ctx p).account)
    (ht : c.transaction = (u.ctx p).transaction) : BooksKept s (u.setCtx p c) :=
  h.setCtx fun a => by
    have hsheet : c.sheet = (u.ctx p).sheet := funext fun k => by rw [PositionContext.sheet, ht]; rfl
    rw [PositionContext.sales, PositionContext.sales, haccount, hsheet]

theorem BooksKept.setCtx_closed (h : BooksKept s u) {p : PositionId} {c : PositionContext} (ht : c.transaction = none) :
    BooksKept s (u.setCtx p c) :=
  h.setCtx fun a => by rw [PositionContext.sales_closed ht]; exact Nat.zero_le _

/-- R33: only an ACCEPTED item adds to the sales. -/
theorem BooksKept.setItem (h : BooksKept s u) (p : PositionId) (k : Slot) {o : Option Item}
    (ho : ∀ i, o = some i → i.state ≠ .accepted) : BooksKept s (u.setItem p k o) := by
  have hsale : entrySale (sheetEntry o) = 0 := by
    cases o with
    | none => rfl
    | some i => exact entrySale_item_of_not_accepted (ho i rfl)
  cases ht : (u.ctx p).transaction with
  | none => simpa only [State.setItem, ht] using h
  | some t =>
    rw [State.setItem_of_transaction ht]
    refine h.trans ⟨rfl, rfl, fun a => ?_⟩
    have hslot := State.openSales_writeSlot ht (c := { u.ctx p with transaction := some (tset t k o) }) rfl rfl a
    rw [hsale, ite_self] at hslot
    omega

/-! ### References on banks (R116) -/

theorem BooksKept.setTariffs (h : BooksKept s u) {v : State} (hv : ∃ ts, v = { u with tariffs := ts }) : BooksKept s v := by
  obtain ⟨ts, rfl⟩ := hv
  exact h

theorem BooksKept.setBank (h : BooksKept s u) (b : BankId) (bk : Bank) : BooksKept s (u.setBank b bk) :=
  h.setTariffs (State.setBank_shape b bk u)

theorem BooksKept.release (h : BooksKept s u) (b : BankId) : BooksKept s (u.release b) := h.setTariffs (State.release_shape b u)

theorem BooksKept.releaseQuote (h : BooksKept s u) (i : Item) : BooksKept s (u.releaseQuote i) :=
  h.setTariffs (State.releaseQuote_shape i u)

theorem BooksKept.releaseAll (h : BooksKept s u) (t : Transaction) : BooksKept s (u.releaseAll t) :=
  h.setTariffs (State.releaseAll_shape t u)

theorem BooksKept.requote (h : BooksKept s u) (p : PositionId) (k : Slot) {st : ItemState} (hst : st ≠ .accepted) :
    BooksKept s (u.requote p k st) := by
  unfold State.requote
  split
  · exact (h.releaseQuote _).setItem p k fun _ hi => by cases hi; exact hst
  · exact h

/-! ### Completion records, weighs and ratings (R16, R35, R100) -/

theorem BooksKept.handCompletion (h : BooksKept s u) (p : PositionId) (r : Completion) : BooksKept s (u.handCompletion p r) := by
  have hctx : BooksKept s (u.setCtx p { u.ctx p with completions := (u.ctx p).completions ++ [r] }) := h.setCtx_same rfl rfl
  unfold State.handCompletion
  dsimp only
  split_ifs
  exacts [hctx, hctx, h]

theorem Item.weighEnded_not_accepted (status : Reason) (reading : Nat) (i : Item) : (i.weighEnded status reading).state ≠ .accepted := by
  unfold Item.weighEnded
  split_ifs <;> simp

theorem BooksKept.applyWeighEnd (h : BooksKept s u) (p : PositionId) (k : Slot) (status : Reason) (reading : Nat) :
    BooksKept s (u.applyWeighEnd p k status reading) := by
  unfold State.applyWeighEnd
  split
  · split
    · exact h.setItem p k fun _ hi => by cases hi; exact Item.weighEnded_not_accepted _ _ _
    · exact h
  · exact h

theorem BooksKept.finishWeigh (h : BooksKept s u) (p : PositionId) (k : Slot) (status : Reason) (reading : Nat) :
    BooksKept s (u.finishWeigh p k status reading) := by
  refine BooksKept.handCompletion ?_ p _
  exact (h.applyWeighEnd p k status reading).setCtx_same rfl rfl

theorem BooksKept.endWeigh (h : BooksKept s u) (c : ChannelId) (status : Reason) (reading : Nat) :
    BooksKept s (u.endWeigh c status reading) := by
  unfold State.endWeigh
  split
  · exact BooksKept.finishWeigh (u := u.setChannel c (u.channel c).freed) h _ _ status reading
  · exact h

theorem BooksKept.returnItem (h : BooksKept s u) (p : PositionId) (k : Slot) : BooksKept s (u.returnItem p k) := by
  unfold State.returnItem
  split
  · split
    · exact h.setItem p k fun _ hi => by cases hi; simp
    · exact h
  · exact h

theorem BooksKept.handRateDone (h : BooksKept s u) (op : Operation) (last : Slot) (status : Reason) :
    BooksKept s (u.handRateDone op last status) := by
  refine BooksKept.handCompletion ?_ _ _
  exact h.setCtx_same rfl rfl

theorem BooksKept.endRating (h : BooksKept s u) (op : Operation) (status : Reason) : BooksKept s (u.endRating op status) :=
  BooksKept.handRateDone (u := (u.returnItem op.position op.slot).setEvaluatorState .idle) (h.returnItem _ _) op op.slot status

/-! ### Labels (R41, R156 to R165) -/

/-- R41: a label report changes no item's state or quote, and no account. -/
theorem BooksKept.reportLabel (h : BooksKept s u) (p : PositionId) (num : Nat) (st : LabelState) :
    BooksKept s (u.reportLabel p num st) := by
  unfold State.reportLabel
  split
  · next t ht =>
    refine h.setCtx fun a => ?_
    simp only [PositionContext.sales, PositionContext.sheet, ht, Option.bind_some, tget_tbuild, Item.relabel_entry]
    exact le_rfl
  · exact h

theorem BooksKept.reportMoved (h : BooksKept s u) (jobs : List Job) : BooksKept s (u.reportMoved jobs) := by
  unfold State.reportMoved
  induction jobs generalizing u with
  | nil => exact h
  | cons j js ih => exact ih (h.reportLabel _ _ _)

theorem BooksKept.sendHead (h : BooksKept s u) (l : PrinterId) : BooksKept s (u.sendHead l) := by
  unfold State.sendHead
  split
  · refine BooksKept.reportLabel ?_ _ _ _
    exact h
  · exact h

theorem BooksKept.sendHeads (h : BooksKept s u) : BooksKept s u.sendHeads :=
  (((h.sendHead 0).sendHead 1).sendHead 2).sendHead 3

theorem BooksKept.returnHead (h : BooksKept s u) (l : PrinterId) (st : PrinterState) : BooksKept s (u.returnHead l st) := by
  unfold State.returnHead
  split
  · refine BooksKept.reportLabel ?_ _ _ _
    exact h
  · exact h

theorem BooksKept.finishHead (h : BooksKept s u) (l : PrinterId) : BooksKept s (u.finishHead l) := by
  unfold State.finishHead
  split
  · refine BooksKept.sendHead (.handCompletion (.reportLabel ?_ _ _ _) _ _) l
    exact h
  · exact h

theorem BooksKept.withdrawJob (h : BooksKept s u) (num : Nat) : BooksKept s (u.withdrawJob num).1 := by
  unfold State.withdrawJob
  split
  · split
    · split
      · refine BooksKept.sendHead ?_ _
        exact h
      · exact h
    · exact h
  · exact h

/-! ### The tariff store (R114, R118, R119) -/

/-- R38: the stale mark reaches QUOTED items alone. -/
theorem entrySale_markStale (b : BankId) (g : Option Word16) (o : Option Item) :
    entrySale (sheetEntry (o.map (Item.markStale b g))) = entrySale (sheetEntry o) := by
  cases o with
  | none => rfl
  | some i =>
    rw [Option.map_some, Item.markStale]
    split
    · next hon =>
      rw [Item.onGeneration_eq, Bool.and_eq_true, decide_eq_true_iff] at hon
      rw [entrySale_item_of_not_accepted (by simp), entrySale_item_of_not_accepted (by simp [hon.1])]
    · rfl

theorem PositionContext.sales_markStale (b : BankId) (g : Option Word16) (c : PositionContext) (a : AccountId) :
    (c.markStale b g).sales a = c.sales a := by
  rw [PositionContext.markStale_eq]
  cases ht : c.transaction with
  | none => simp only [PositionContext.sales, PositionContext.sheet, ht, Option.map_none]
  | some t =>
    simp only [PositionContext.sales, PositionContext.sheet, ht, Option.map_some, Option.bind_some, tget_map, entrySale_markStale]

theorem BooksKept.expireGrace (h : BooksKept s u) (b : BankId) : BooksKept s (u.expireGrace b) := by
  have hmarked : BooksKept u { u with
      positions := tbuild 16 fun p => (u.ctx p).markStale b (u.bank b).generation,
      evaluator := u.evaluator.notice b (u.bank b).generation } :=
    ⟨rfl, rfl, fun a => by simp [State.openSales_eq, State.ctx, PositionContext.sales_markStale]⟩
  exact (h.trans hmarked).setBank b _

theorem BooksKept.activate (h : BooksKept s u) (b : BankId) : BooksKept s (u.activate b) := by
  have hactive : BooksKept s
      ((u.setBank b { u.bank b with state := .active }).setBank b.other
        ((u.bank b.other).superseded ((u.bank b).grace.getD 0) (u.bank b).effective)).saveTariffs :=
    (h.setBank b _).setBank b.other _
  unfold State.activate
  dsimp only
  split
  · exact hactive.expireGrace _
  · exact hactive

theorem BooksKept.tickGrace (h : BooksKept s u) (b : BankId) : BooksKept s (u.tickGrace b) := by
  unfold State.tickGrace
  split
  · split
    · exact h.expireGrace b
    · exact h.setBank b _
  · exact h

/-! ### The forced detach (R14) -/

theorem BooksKept.forcedDetach (h : BooksKept s u) (p : PositionId) : BooksKept s (u.forcedDetach p) := by
  have hdropped : BooksKept s { u with
      channels := tbuild 8 fun c => (u.channel c).dropOwner p, evaluator := u.evaluator.abandon p } := h
  unfold State.forcedDetach
  split
  · dsimp only
    split
    · exact (hdropped.releaseAll _).setCtx_closed rfl
    · exact hdropped.setCtx_closed rfl
  · exact h

end

end Sys2Proof.Machine
end

section
/-! SUPPORT. The soundness of the journal (R143, R145), of the serial allocator (R139 to R141) and of an account (R127, R128) under each entry that a command makes. -/

namespace Sys2Proof.Machine

/-! ### The journal -/

/-- R145, R146: an entry with the next sequence number joins a journal with room. -/
theorem Journal.sound.append {j : Journal} (h : j.sound) (hroom : j.entries.length < 2048) {e : JournalEntry} (he : e.seq = j.next) :
    Journal.sound { entries := j.entries ++ [e], next := j.next + 1 } := by
  obtain ⟨-, hseq⟩ := h
  refine ⟨by simp only [List.length_append, List.length_singleton]; omega, fun n x hx => ?_⟩
  simp only [List.length_append, List.length_singleton]
  by_cases hn : n < j.entries.length
  · rw [List.getElem?_append_left hn] at hx
    have hsucc : j.entries.length + 1 - n = j.entries.length - n + 1 := by omega
    rw [hseq n x hx, hsucc, BitVec.ofNat_add]
    bv_omega
  · rw [List.getElem?_append_right (by omega), List.getElem?_singleton] at hx
    split at hx
    · next hzero =>
      cases hx
      have hone : j.entries.length + 1 - n = 1 := by omega
      rw [he, hone]
      bv_omega
    · cases hx

/-- R149: the oldest entries leave. -/
theorem Journal.sound.drop {j : Journal} (h : j.sound) (m : Nat) : Journal.sound { j with entries := j.entries.drop m } := by
  obtain ⟨hlength, hseq⟩ := h
  refine ⟨by simp only [List.length_drop]; omega, fun n e he => ?_⟩
  rw [List.getElem?_drop] at he
  rw [hseq _ e he, List.length_drop, Nat.sub_sub]

/-! ### The allocator -/

/-- R141: the next serial is taken. -/
theorem Allocator.sound.taken {al : Allocator} (h : al.sound) : al.taken.sound := by
  obtain ⟨office, blocks, next, highest⟩ := al
  obtain ⟨hhighest, hblocks, hsorted, hlength, hnext⟩ := h
  cases blocks with
  | nil => exact ⟨hhighest, hblocks, hsorted, hlength, hnext⟩
  | cons b rest =>
    cases next with
    | none => exact absurd hnext id
    | some n =>
      dsimp only at hhighest hblocks hsorted hlength hnext
      rw [Allocator.taken_eq rfl rfl]
      split
      · refine ⟨hhighest, fun c hc => hblocks c (.tail b hc), hsorted.of_cons, by simp at hlength; dsimp only; omega, ?_⟩
        cases rest with
        | nil => rfl
        | cons c _ => exact ⟨le_rfl, (hblocks c (by simp)).2.1⟩
      · next hlast =>
        exact ⟨hhighest, hblocks, hsorted, hlength, by dsimp only; omega⟩

/-- R140: a block above the highest serial granted joins a queue with room. -/
theorem Allocator.sound.granted {al : Allocator} (h : al.sound) {first last : Nat} (hfirst : al.highest < first) (hle : first ≤ last)
    (hlast : last ≤ 99999999) (hroom : al.blocks.length < 4) : (al.granted first last).sound := by
  obtain ⟨office, blocks, next, highest⟩ := al
  obtain ⟨-, hblocks, hsorted, -, hnext⟩ := h
  dsimp only at hfirst hblocks hsorted hroom hnext
  refine ⟨hlast, fun b hb => ?_, ?_, by simp only [Allocator.granted, List.length_append, List.length_singleton]; omega, ?_⟩
  · simp only [Allocator.granted, List.mem_append, List.mem_singleton] at hb ⊢
    obtain hb | rfl := hb
    · obtain ⟨hone, hbounds, hbelow⟩ := hblocks b hb
      exact ⟨hone, hbounds, by omega⟩
    · exact ⟨by dsimp only; omega, hle, le_rfl⟩
  · refine List.pairwise_append.mpr ⟨hsorted, List.pairwise_singleton _ _, fun b hb c hc => ?_⟩
    obtain rfl := List.mem_singleton.mp hc
    obtain ⟨-, -, hbelow⟩ := hblocks b hb
    dsimp only
    omega
  · cases blocks with
    | nil => exact ⟨le_rfl, hle⟩
    | cons b rest => cases next <;> exact hnext

/-! ### Both ledgers with their stored copies -/

/-- R139, R143: journal and allocator are sound, and so is what is stored of them. -/
def LedgersSound (s : State) : Prop := JournalSound s ∧ AllocatorSound s

theorem LedgersSound.congr {s u : State} (h : LedgersSound s) (hu : u.ledgers = s.ledgers) : LedgersSound u := by
  simp only [State.ledgers, Prod.mk.injEq] at hu
  obtain ⟨⟨hjournal, hstored⟩, hallocator, hstored'⟩ := hu
  rwa [LedgersSound, JournalSound, AllocatorSound, hjournal, hstored, hallocator, hstored']

/-! ### Accounts -/

/-- R127, R128: one account takes new registers, whose LOW mark is worked out afresh; the sales open on the others are no more than before. -/
theorem AccountsSound.write {s u : State} (h : AccountsSound s) {a : AccountId} {x : Account}
    (haccounts : u.accounts = tset s.accounts a x.marked) (hsound : x.marked.sound) (hsales : x.refunded + u.openSales a ≤ x.issued)
    (hothers : ∀ b, b ≠ a → u.openSales b ≤ s.openSales b) : AccountsSound u := by
  intro b
  have hread : u.account b = if b = a then x.marked else s.account b := by
    rw [State.account, haccounts, tget_tset]
    rfl
  by_cases hb : b = a
  · rw [hread, if_pos hb, hb]
    exact ⟨hsound, hsales⟩
  · rw [hread, if_neg hb]
    obtain ⟨hsame, hsold⟩ := h b
    exact ⟨hsame, (Nat.add_le_add_left (hothers b hb) _).trans hsold⟩

/-- R177: accounts as before, or come back from the store, with no more sales open. -/
theorem AccountsSound.congr {s u : State} (h : AccountsSound s) (haccounts : u.accounts = s.accounts)
    (hsales : ∀ a, u.openSales a ≤ s.openSales a) : AccountsSound u := by
  intro a
  obtain ⟨hsame, hsold⟩ := h a
  rw [State.account, haccounts]
  exact ⟨hsame, (Nat.add_le_add_left (hsales a) _).trans hsold⟩

/-! ### What a command must keep -/

/-- R23, R127, R177: what the commands need for the accounts to stay sound: no transaction in LINKED, where ATTACH is served, accounts stored as they are, and the accounts sound. -/
def AccountsReady (s : State) : Prop :=
  (∀ p, (s.ctx p).state = .linked → (s.ctx p).transaction = none) ∧ s.nvs.accounts = s.accounts ∧ AccountsSound s

/-- A step that keeps the ledgers sound, and the accounts when they are ready for it. -/
def BooksSafe (s u : State) : Prop := (LedgersSound s → LedgersSound u) ∧ (AccountsReady s → AccountsSound u)

theorem BooksSafe.refl (s : State) : BooksSafe s s := ⟨id, fun ⟨_, _, h⟩ => h⟩

theorem BooksSafe.of_kept {s u : State} (h : BooksKept s u) : BooksSafe s u := by
  obtain ⟨haccounts, hledgers, hsales⟩ := h
  exact ⟨fun hs => hs.congr hledgers, fun ⟨_, _, hs⟩ => hs.congr haccounts hsales⟩

/-- A safe step, and after it an operation that leaves the books alone. -/
theorem BooksSafe.kept {s u v : State} (h : BooksSafe s u) (h' : BooksKept u v) : BooksSafe s v := by
  obtain ⟨hledgers, haccounts⟩ := h
  obtain ⟨heq, hledgers', hsales⟩ := h'
  exact ⟨fun hs => (hledgers hs).congr hledgers', fun hs => (haccounts hs).congr heq hsales⟩

end Sys2Proof.Machine
end

section
/-! SUPPORT. The books under each command that makes no entry in them: positions, items, scales, rating, printers, tariffs. -/

namespace Sys2Proof.Machine

/-! ### Taking a request or a command -/

/-- Every step of the operation keeps the books safe. -/
def KeepsBooks (f : State → State) : Prop := ∀ s, BooksSafe s (f s)

theorem KeepsBooks.of_kept {f : State → State} (h : ∀ s, BooksKept s (f s)) : KeepsBooks f := fun s => .of_kept (h s)

theorem KeepsBooks.running {f : State → State} (hf : KeepsBooks f) {s u : State} (hu : s.running f = .next u) : BooksSafe s u := by
  by_cases hp : s.power = .running
  · rw [State.running_on f s hp] at hu
    cases hu
    exact hf { s with sent := [] }
  · rw [State.running_off f s hp] at hu
    cases hu
    exact .refl s

theorem KeepsBooks.request {α : Type} {serve : α → State → State × Answer} (hserve : ∀ a, KeepsBooks fun s => (serve a s).1)
    (form : RequestForm α) (p : PositionId) (tag : Byte) (payload : List Byte) :
    KeepsBooks (State.request form p tag payload serve) := fun s => by
  obtain ⟨ports, sent, hs⟩ | ⟨a, ports, sent, hs⟩ := State.request_outcome form p tag payload serve s
  · rw [hs]
    exact .refl s
  · rw [hs]
    exact hserve a { s with ports := ports }

theorem KeepsBooks.request_kept {α : Type} {serve : α → State → State × Answer} (hserve : ∀ a s, BooksKept s (serve a s).1)
    (form : RequestForm α) (p : PositionId) (tag : Byte) (payload : List Byte) :
    KeepsBooks (State.request form p tag payload serve) :=
  .request (fun a => .of_kept (hserve a)) form p tag payload

theorem KeepsBooks.command {α : Type} {serve : α → State → State × OfficeAnswer} (hserve : ∀ a, KeepsBooks fun s => (serve a s).1)
    (code : Byte) (read : List Byte → Option α) (tag : Byte) (payload : List Byte) :
    KeepsBooks (State.command code read tag payload serve) := fun s => by
  obtain ⟨port, sent, hs⟩ | ⟨a, port, sent, hs⟩ := State.command_outcome code read tag payload serve s
  · rw [hs]
    exact .refl s
  · rw [hs]
    exact hserve a { s with officePort := port }

theorem KeepsBooks.command_kept {α : Type} {serve : α → State → State × OfficeAnswer} (hserve : ∀ a s, BooksKept s (serve a s).1)
    (code : Byte) (read : List Byte → Option α) (tag : Byte) (payload : List Byte) :
    KeepsBooks (State.command code read tag payload serve) :=
  .command (fun a => .of_kept (hserve a)) code read tag payload

/-- A run of events each of which leaves the books alone. -/
theorem BooksKept.foldl {α : Type} {f : State → α → State} (hf : ∀ a s, BooksKept s (f s a)) (events : List α) (s : State) :
    BooksKept s (events.foldl f s) := by
  induction events generalizing s with
  | nil => exact .refl s
  | cons a events ih => exact (hf a s).trans (ih _)

section
variable (s : State)

/-! ### Positions and lines -/

theorem BooksKept.lineDown (p : PositionId) : BooksKept s (s.lineDown p) := by
  have hline : BooksKept s (State.setCtx p { s.ctx p with linePresent := false } { s with ports := tset s.ports p .quiet }) :=
    BooksKept.setCtx_same (u := { s with ports := tset s.ports p .quiet }) (.refl s) rfl rfl
  exact (hline.forcedDetach p).setCtx_same rfl rfl

theorem BooksKept.receivePosition (p : PositionId) (bytes : List Byte) : BooksKept s (s.receivePosition p bytes) := by
  obtain ⟨_, hs⟩ := State.receivePosition_shape p bytes s
  rw [hs]
  exact .refl s

/-- R11: an ATTACH changes the account of a position, whose transaction must be closed. -/
theorem serveAttach_booksKept (p : PositionId) (x : AccountId × Fin 16) (h : (s.ctx p).transaction = none) :
    BooksKept s (serveAttach p x s).1 := by
  unfold serveAttach
  dsimp only
  split_ifs
  exacts [.refl s, .refl s, .refl s, (BooksKept.refl s).setCtx_closed h]

theorem serveDetach_booksKept (p : PositionId) (x : Unit) (s : State) : BooksKept s (serveDetach p x s).1 := by
  unfold serveDetach
  split
  · exact ((BooksKept.refl s).forcedDetach p).setCtx_same rfl rfl
  · exact .refl s

theorem serveCollect_booksKept (p : PositionId) (x : Unit) (s : State) : BooksKept s (serveCollect p x s).1 := by
  unfold serveCollect
  split
  · exact (BooksKept.refl s).setCtx_same rfl rfl
  · exact .refl s

/-! ### Transactions and items -/

/-- R24: a new transaction has sold nothing. -/
theorem serveBegin_booksKept (p : PositionId) (x : Unit) (s : State) : BooksKept s (serveBegin p x s).1 := by
  unfold serveBegin
  split
  · refine (BooksKept.refl s).setCtx fun a => ?_
    simp [PositionContext.sales, PositionContext.sheet, emptyTransaction, sheetEntry, entrySale]
  · exact .refl s

theorem serveAdd_booksKept (p : PositionId) (x : Unit) (s : State) : BooksKept s (serveAdd p x s).1 := by
  unfold serveAdd
  split
  · exact (BooksKept.refl s).setItem p _ fun _ hi => by cases hi; simp [Item.fresh]
  · exact .refl s

theorem ItemState.ne_accepted_of_free {st : ItemState} (h : st.free = true) : st ≠ .accepted := by
  rintro rfl; cases h

theorem serveAmend_booksKept (p : PositionId) (m : Amendment) (s : State) : BooksKept s (serveAmend p m s).1 := by
  unfold serveAmend
  split
  · next i _ =>
    split_ifs with hfree
    · exact .refl s
    · exact .refl s
    · exact ((BooksKept.refl s).releaseQuote i).setItem p _ fun _ hi => by cases hi; simp
    · exact (BooksKept.refl s).setItem p _ fun _ hi => by
        cases hi; exact ItemState.ne_accepted_of_free (by simpa using hfree)
  · exact .refl s

theorem serveDrop_booksKept (p : PositionId) (k : Slot) (s : State) : BooksKept s (serveDrop p k s).1 := by
  unfold serveDrop
  split
  · split
    · exact ((BooksKept.refl s).releaseQuote _).setItem p k fun _ hi => by cases hi
    · exact .refl s
  · exact .refl s

theorem serveDetail_booksKept (p : PositionId) (k : Slot) (s : State) : BooksKept s (serveDetail p k s).1 := by
  unfold serveDetail
  split <;> exact .refl s

theorem serveFinish_booksKept (p : PositionId) (x : Nat × Nat) (s : State) : BooksKept s (serveFinish p x s).1 := by
  unfold serveFinish
  dsimp only
  split
  · split_ifs
    exacts [.refl s, ((BooksKept.refl s).releaseAll _).setCtx_closed rfl, .refl s]
  · exact .refl s

/-! ### Scale channels -/

theorem BooksKept.takeArrival (c : ChannelId) (a : Arrival) : BooksKept s (s.takeArrival c a) := by
  unfold State.takeArrival
  dsimp only
  split
  · exact .refl s
  · exact .refl s
  · exact .refl s
  · split
    · exact BooksKept.endWeigh (u := s.setChannel c (s.channel c).failed) (.refl s) c _ _
    · exact .refl s

theorem BooksKept.receiveSamples (c : ChannelId) (bytes : List Byte) : BooksKept s (s.receiveSamples c bytes) :=
  BooksKept.foldl (fun a s => BooksKept.takeArrival s c a) _ { s with scaleLines := _ }

theorem BooksKept.settle (c : ChannelId) : BooksKept s (s.settle c) := by
  unfold State.settle
  dsimp only
  split
  · split
    · exact BooksKept.endWeigh (u := s.setChannel c { s.channel c with state := .stable, settleTimer := none }) (.refl s) c _ _
    · exact .refl s
  · exact .refl s

theorem BooksKept.weighTimer (c : ChannelId) :
    BooksKept s (if (s.channel c).weighTimer.isSome then s.endWeigh c .unstable 0 else s) := by
  split
  · exact (BooksKept.refl s).endWeigh c _ _
  · exact .refl s

theorem BooksKept.startWeigh (p : PositionId) (k : Slot) : BooksKept s (s.startWeigh p k) :=
  ((BooksKept.refl s).requote p k (by simp)).setCtx_same rfl rfl

theorem BooksKept.takeWeigh (p : PositionId) (c : ChannelId) (k : Slot) : BooksKept s (s.takeWeigh p c k).1 := by
  unfold State.takeWeigh
  dsimp only
  split
  · exact (BooksKept.startWeigh s p k).finishWeigh p k _ _
  · exact BooksKept.startWeigh s p k

theorem serveWeigh_booksKept (p : PositionId) (k : Slot) (s : State) : BooksKept s (serveWeigh p k s).1 := by
  unfold serveWeigh
  dsimp only
  split
  · exact .refl s
  · exact .refl s
  · split_ifs
    exacts [.refl s, .refl s, .refl s, .refl s, .refl s, BooksKept.takeWeigh s p _ k]

theorem serveZero_booksKept (p : PositionId) (x : Unit) (s : State) : BooksKept s (serveZero p x s).1 := by
  unfold serveZero
  dsimp only
  split
  · exact .refl s
  · split_ifs
    · exact .refl s
    · exact .refl s
    · exact .refl s
    · split
      · split_ifs <;> exact .refl s
      · exact .refl s

/-! ### Rating -/

theorem serveRate_booksKept (p : PositionId) (x : Slot × Scope) (s : State) : BooksKept s (serveRate p x s).1 := by
  have htake : BooksKept s (s.takeRate p x.1 x.2) := by
    have hqueued := (BooksKept.refl s).requote p x.1 (st := .rateQueued) (by simp)
    exact hqueued.setCtx_same (c := { (s.requote p x.1 .rateQueued).ctx p with rating := true }) rfl rfl
  unfold serveRate
  split
  · exact .refl s
  · split_ifs
    exacts [.refl s, .refl s, .refl s, .refl s, .refl s, htake]

theorem BooksKept.startEvaluation : BooksKept s s.startEvaluation := by
  unfold State.startEvaluation
  dsimp only
  split
  · next op rest _ _ =>
    have hleft : BooksKept s { s with evaluator := { s.evaluator with queue := rest } } := .refl s
    split
    · split
      · split
        · exact (hleft.setBank _ _).setItem op.position op.slot fun _ hi => by cases hi; simp
        · exact hleft.endRating op .noTariff
      · exact .refl s
    · exact .refl s
  · exact .refl s

theorem BooksKept.checkStep : BooksKept s s.checkStep := by
  unfold State.checkStep
  split
  · split
    · split
      · exact .refl s
      · exact ((BooksKept.refl s).release _).endRating _ _
    · exact .refl s
  · exact .refl s
  · exact .refl s

theorem BooksKept.termStep : BooksKept s s.termStep := by
  unfold State.termStep
  split
  · split <;> exact .refl s
  · exact .refl s
  · exact .refl s

theorem BooksKept.storeQuote (p : PositionId) (k : Slot) (q : Quote) : BooksKept s (s.storeQuote p k q) := by
  unfold State.storeQuote
  split
  · split
    · exact (BooksKept.refl s).setItem p k fun _ hi => by cases hi; simp
    · exact .refl s
  · exact .refl s

theorem BooksKept.deliveryStep : BooksKept s s.deliveryStep := by
  unfold State.deliveryStep
  dsimp only
  split
  · next op ev _ =>
    split
    · next w _ _ =>
      have hquoted := BooksKept.storeQuote s op.position op.slot (ev.quote (s.bank ev.bank).image w)
      split
      · exact hquoted
      · exact BooksKept.handRateDone (u := State.setEvaluatorState .idle _) hquoted _ _ _
    · exact .refl s
  · exact .refl s
  · exact .refl s

theorem BooksKept.chainStep : BooksKept s s.chainStep := by
  unfold State.chainStep
  dsimp only
  split
  · next op _ =>
    split
    · exact (BooksKept.refl s).requote op.position (slotAfter op.slot) (by simp)
    · exact BooksKept.handRateDone (u := s.setEvaluatorState .idle) (.refl s) _ _ _
  · exact .refl s
  · exact .refl s

theorem BooksKept.haltEvaluation : BooksKept s s.haltEvaluation := by
  unfold State.haltEvaluation
  split
  · split
    · exact ((BooksKept.refl s).release _).endRating _ _
    · exact ((BooksKept.refl s).release _).endRating _ _
    · exact (BooksKept.refl s).release _
    · exact .refl s
  · exact .refl s
  · exact .refl s

/-! ### CANCEL -/

theorem BooksKept.cancelWeigh (p : PositionId) (target : Option Slot) : BooksKept s (s.cancelWeigh p target).1 := by
  unfold State.cancelWeigh
  split
  · split
    · exact (BooksKept.refl s).endWeigh _ _ _
    · exact .refl s
  · exact .refl s

theorem BooksKept.cancelOperation (p : PositionId) (target : Option Slot) : BooksKept s (s.cancelOperation p target) := by
  unfold State.cancelOperation
  split
  · refine BooksKept.handRateDone (.returnItem ?_ p _) _ _ _
    exact .refl s
  · split
    · split <;> exact .refl s
    · split
      · exact BooksKept.handRateDone (u := s.setEvaluatorState .idle) (.refl s) _ _ _
      · exact .refl s
    · exact .refl s

theorem serveCancel_booksKept (p : PositionId) (target : Option Slot) (s : State) : BooksKept s (serveCancel p target s).1 := by
  unfold serveCancel
  dsimp only
  split
  · exact (BooksKept.cancelWeigh s p target).trans (BooksKept.cancelOperation _ p target)
  · exact BooksKept.cancelWeigh s p target

/-! ### Printers -/

theorem BooksKept.takePrinterAnswer (l : PrinterId) (a : PrinterAnswer) : BooksKept s (s.takePrinterAnswer l a) := by
  cases a with
  | done n =>
    simp only [State.takePrinterAnswer, State.takeDone]
    split
    · exact (BooksKept.refl s).finishHead l
    · exact .refl s
  | fault n reason =>
    simp only [State.takePrinterAnswer, State.takeFault]
    split
    · split
      · exact (BooksKept.refl s).returnHead l _
      · exact .refl s
    · exact .refl s
    · exact .refl s
    · exact .refl s
  | ready =>
    simp only [State.takePrinterAnswer, State.takeReady]
    split
    · exact BooksKept.sendHead (u := s.setPrinter l { s.printer l with state := .ready }) (.refl s) l
    · exact ((BooksKept.refl s).returnHead l .ready).sendHead l
    · exact .refl s
    · exact .refl s

theorem BooksKept.receiveAnswers (l : PrinterId) (bytes : List Byte) : BooksKept s (s.receiveAnswers l bytes) :=
  BooksKept.foldl (fun a s => BooksKept.takePrinterAnswer s l a) _ { s with printerLines := _ }

theorem BooksKept.printTimeout (l : PrinterId) :
    BooksKept s (if (s.printer l).state = .printing ∧ (s.printer l).timer.isSome then s.returnHead l (.faulted .timeout) else s) := by
  split
  · exact (BooksKept.refl s).returnHead l _
  · exact .refl s

theorem BooksKept.setEnabled (l : PrinterId) (enabled : Bool) : BooksKept s (s.setEnabled l enabled) := by
  unfold State.setEnabled
  split
  · exact (BooksKept.refl s).returnHead l .off
  · exact .refl s
  · exact .refl s
  · exact .refl s
  · exact BooksKept.sendHead (u := s.setPrinter l { s.printer l with state := .ready }) (.refl s) l
  · exact .refl s
  · exact .refl s
  · exact .refl s

theorem servePrinter_booksKept (x : PrinterId × Bool) (s : State) : BooksKept s (servePrinter x s).1 :=
  BooksKept.setEnabled ((s.setPrinter x.1 { s.printer x.1 with enabled := x.2 }).savePrinter x.1) x.1 x.2

theorem serveRedirect_booksKept (x : PrinterId × PrinterId) (s : State) : BooksKept s (serveRedirect x s).1 := by
  unfold serveRedirect
  dsimp only
  split_ifs
  · exact .refl s
  · exact .refl s
  · exact .refl s
  · refine BooksKept.sendHead (.reportMoved ?_ _) _
    exact ⟨rfl, rfl, fun _ => le_rfl⟩

/-! ### Office commands and the tariff store -/

theorem serveFlags_booksKept (x : List FlagAction) (s : State) : BooksKept s (serveFlags x s).1 := by
  unfold serveFlags
  dsimp only
  split <;> exact .refl s

theorem servePosition_booksKept (x : PositionId × PositionConfig) (s : State) : BooksKept s (servePosition x s).1 := by
  have hdetached : BooksKept s (if (s.ctx x.1).config.enabled ∧ x.2.enabled = false then s.forcedDetach x.1 else s) := by
    split
    · exact (BooksKept.refl s).forcedDetach x.1
    · exact .refl s
  unfold servePosition
  dsimp only
  split
  · exact .refl s
  · exact hdetached.setCtx_same (c := PositionContext.configured x.2 _) rfl rfl

theorem serveScale_booksKept (x : ChannelId × ScaleConfig) (s : State) : BooksKept s (serveScale x s).1 :=
  BooksKept.endWeigh (u := (s.setChannel x.1 ((s.channel x.1).configured x.2)).saveChannel x.1) (.refl s) x.1 _ _

theorem serveLoadBegin_booksKept (x : LoadDeclaration) (s : State) : BooksKept s (serveLoadBegin x s).1 := by
  unfold serveLoadBegin
  split
  · exact .refl s
  · split
    · exact (BooksKept.refl s).setBank _ _
    · exact .refl s

theorem serveLoadPart_booksKept (x : Nat × List Byte) (s : State) : BooksKept s (serveLoadPart x s).1 := by
  unfold serveLoadPart
  dsimp only
  split
  · exact .refl s
  · split_ifs
    exacts [.refl s, .refl s, (BooksKept.refl s).setBank _ _]

theorem serveLoadEnd_booksKept (x : Unit) (s : State) : BooksKept s (serveLoadEnd x s).1 := by
  unfold serveLoadEnd
  dsimp only
  split
  · exact .refl s
  · next b _ =>
    have hadmitted : BooksKept s (s.admitImage b) := (BooksKept.refl s).setBank b _
    split
    · exact (BooksKept.refl s).setBank b _
    · split
      · exact hadmitted.activate b
      · exact hadmitted

theorem serveLoadAbandon_booksKept (b : BankId) (s : State) : BooksKept s (serveLoadAbandon b s).1 := by
  unfold serveLoadAbandon
  split
  · exact (BooksKept.refl s).setBank b _
  · exact (BooksKept.refl s).setBank b _
  · exact .refl s
  · exact .refl s
  · exact .refl s

theorem serveActivate_booksKept (b : BankId) (s : State) : BooksKept s (serveActivate b s).1 := by
  unfold serveActivate
  split
  · exact (BooksKept.refl s).activate b
  · exact .refl s

theorem BooksKept.tickTariffs : BooksKept s s.tickTariffs := by
  have hticked := ((BooksKept.refl s).tickGrace .A).tickGrace .B
  unfold State.tickTariffs
  dsimp only
  split
  · exact hticked.activate _
  · exact hticked

end

end Sys2Proof.Machine
end

section
/-! SUPPORT. The books under the commands that make entries in them (ACCOUNT, CREDIT, BLOCK, ACCEPT, VOID, JOURNAL-RELEASE, RESTART), under ATTACH, and under the rebuilding from the store. -/

namespace Sys2Proof.Machine

/-! ### One account under each entry (R127 to R130) -/

section
variable {x : Account}

theorem Account.sound.apply (h : x.sound) (change : AccountChange) : (change.apply x).marked.sound := by
  obtain ⟨hidentity, hloaded, hissued, hpieces, -⟩ := h
  exact ⟨hidentity, hloaded, hissued, hpieces, rfl⟩

theorem Account.sound.credited (h : x.sound) {amount : Nat} (hroom : x.loaded + amount ≤ 2 ^ 47 - 1) :
    (x.credited amount).marked.sound := by
  obtain ⟨hidentity, -, hissued, hpieces, -⟩ := h
  exact ⟨by simp only [Account.marked, Account.credited]; omega, hroom, hissued, hpieces, rfl⟩

theorem Account.sound.debited (h : x.sound) {postage : Nat} (hcredit : postage ≤ x.remaining)
    (hissued : x.issued + postage ≤ 2 ^ 47 - 1) : (x.debited postage).marked.sound := by
  obtain ⟨hidentity, hloaded, -, -, -⟩ := h
  exact ⟨by simp only [Account.marked, Account.debited]; omega, hloaded, hissued, Nat.min_le_right _ _, rfl⟩

theorem Account.sound.refundedBy (h : x.sound) (postage : Nat) : (x.refundedBy postage).marked.sound := by
  obtain ⟨hidentity, hloaded, hissued, hpieces, -⟩ := h
  exact ⟨by simp only [Account.marked, Account.refundedBy]; omega, hloaded, hissued, hpieces, rfl⟩

end

/-! ### What a `serve` may take for granted -/

/-- R8 check 3: a request reaches its `serve` only in the states in which it is served. -/
theorem State.request_congr {α : Type} {form : RequestForm α} {p : PositionId} {serve serve' : α → State → State × Answer}
    (h : ∀ a s, form.served (s.ctx p).state = true → serve a s = serve' a s) (tag : Byte) (payload : List Byte) (s : State) :
    s.request form p tag payload serve = s.request form p tag payload serve' := by
  have hjudge : ∀ s : State, s.judge form p payload serve = s.judge form p payload serve' := fun s => by
    unfold State.judge
    split
    · rfl
    · split
      · rfl
      · next a _ =>
        split
        · rfl
        · next hserved => rw [h a s (by simpa using hserved)]
  simp only [State.request, hjudge]

/-- R169: a command reaches its `serve` only with what its payload spells. -/
theorem State.command_congr {α : Type} {code : Byte} {read : List Byte → Option α} {payload : List Byte}
    {serve serve' : α → State → State × OfficeAnswer} (h : ∀ a s, read payload = some a → serve a s = serve' a s) (tag : Byte)
    (s : State) : s.command code read tag payload serve = s.command code read tag payload serve' := by
  unfold State.command
  split
  · split
    · next a hread => simp only [h a _ hread]
    · rfl
  · rfl

/-! ### ATTACH -/

/-- R11, R23: in LINKED no transaction is open. -/
theorem attach_keepsBooks (p : PositionId) (tag : Byte) (payload : List Byte) :
    KeepsBooks (State.request attachForm p tag payload (serveAttach p)) := fun s => by
  rw [State.request_congr (serve' := fun x s => if (s.ctx p).state = .linked then serveAttach p x s else (s, .refuse .state))
    fun x s hserved => by cases hst : (s.ctx p).state <;> simp [attachForm, servedLinked, hst] at hserved ⊢]
  refine KeepsBooks.request (fun x s => ?_) attachForm p tag payload s
  dsimp only
  split
  · next hlinked =>
    have hledgers : (serveAttach p x s).1.ledgers = s.ledgers := by
      unfold serveAttach
      dsimp only
      split_ifs <;> rfl
    refine ⟨fun hs => hs.congr hledgers, fun hready => ?_⟩
    obtain ⟨hclosed, -, haccounts⟩ := hready
    obtain ⟨hsame, -, hsales⟩ := serveAttach_booksKept s p x (hclosed p hlinked)
    exact haccounts.congr hsame hsales
  · exact .refl s

/-! ### Office commands -/

theorem serveAccount_keepsBooks (x : AccountChange) : KeepsBooks fun s => (serveAccount x s).1 := fun s => by
  unfold serveAccount
  dsimp only
  split
  · exact .refl s
  · refine ⟨id, fun ⟨_, _, h⟩ => ?_⟩
    obtain ⟨hsound, hsold⟩ := h x.account
    exact h.write rfl (hsound.apply x) hsold fun _ _ => le_rfl

theorem serveCredit_keepsBooks (x : AccountId × Nat) : KeepsBooks fun s => (serveCredit x s).1 := fun s => by
  unfold serveCredit
  dsimp only
  split_ifs with _ _ hover hfull
  · exact .refl s
  · exact .refl s
  · exact .refl s
  · exact .refl s
  · refine ⟨fun ⟨⟨hjournal, _⟩, hallocator⟩ => ?_, fun ⟨_, _, h⟩ => ?_⟩
    · have hentry := hjournal.append (Nat.not_le.mp (mt (Journal.hasRoom_eq_false_iff _).mpr hfull))
        (e := ⟨s.journal.next, s.clock.value, x.1, .credit x.2⟩) rfl
      exact ⟨⟨hentry, hentry⟩, hallocator⟩
    · obtain ⟨hsound, hsold⟩ := h x.1
      exact h.write rfl (hsound.credited (Nat.not_lt.mp hover)) hsold fun _ _ => le_rfl

/-- R140: a BLOCK grants at least one serial. -/
theorem readBlock_count {payload : List Byte} {x : Nat × Nat} (h : readBlock payload = some x) : 1 ≤ x.2 := by
  unfold readBlock at h
  split at h
  · split at h
    · next hrange =>
      cases h
      obtain ⟨-, -, hcount, -⟩ := hrange
      exact hcount
    · cases h
  · cases h

theorem block_keepsBooks (tag : Byte) (payload : List Byte) :
    KeepsBooks (State.command 0x05 readBlock tag payload serveBlock) := fun s => by
  rw [State.command_congr (serve' := fun x s => if 1 ≤ x.2 then serveBlock x s else (s, .refused .format []))
    fun x s hread => (if_pos (readBlock_count hread)).symm]
  refine KeepsBooks.command (fun x s => ?_) _ _ tag payload s
  unfold serveBlock
  dsimp only
  split_ifs with hcount horder hrange hfull
  · exact .refl s
  · exact .refl s
  · exact .refl s
  · refine ⟨fun ⟨hjournal, hallocator, _⟩ => ?_, fun ⟨_, _, h⟩ => h⟩
    have hgranted := hallocator.granted (Nat.not_le.mp horder) (last := x.1 + x.2 - 1) (by omega) (Nat.not_lt.mp hrange)
      (Nat.not_le.mp hfull)
    exact ⟨hjournal, hgranted, hgranted⟩
  · exact .refl s

theorem serveJournalRelease_keepsBooks (x : Word32) : KeepsBooks fun s => (serveJournalRelease x s).1 := fun s => by
  unfold serveJournalRelease
  dsimp only
  split
  · exact .refl s
  · exact ⟨fun ⟨⟨hjournal, _⟩, hallocator⟩ => ⟨⟨hjournal.drop _, hjournal.drop _⟩, hallocator⟩, fun ⟨_, _, h⟩ => h⟩

/-- R176: the first office code is written with the allocator. -/
theorem serveRestart_keepsBooks (x : Option Nat) : KeepsBooks fun s => (serveRestart x s).1 := fun s => by
  unfold serveRestart
  dsimp only
  split
  · exact .refl s
  · exact ⟨fun ⟨hjournal, hallocator, _⟩ => ⟨hjournal, hallocator, hallocator⟩, fun ⟨_, _, h⟩ => h⟩
  · split <;> exact .refl s

/-! ### ACCEPT (R134, R135) -/

/-- R135, R156: an acceptance, and after it the send of the printer's head job. -/
theorem State.acceptItem_eq_sendHead {p : PositionId} {k : Slot} {t : Transaction} {i : Item} {s : State} (a : AccountId) (l : PrinterId)
    (office serial : Nat) (q : Quote) (ht : (s.ctx p).transaction = some t) :
    s.acceptItem p k a l office serial i q = (s.withAcceptance p k t a l office serial i q).sendHead l := by
  have hstate : ((s.withAcceptance p k t a l office serial i q).printer l).state = (s.printer l).state := by
    simp [State.withAcceptance, State.printer]
  rw [State.acceptItem_eq a l office serial q ht, State.sendHead_eq, hstate]

/-- R127, R135: an acceptance within the credit debits what the item adds to the sales. -/
theorem BooksSafe.acceptItem {s : State} {p : PositionId} {k : Slot} {a : AccountId} {i : Item} {q : Quote}
    (hi : s.item p k = some i) (hst : i.state = .quoted) (hq : i.quote = some q) (ha : (s.ctx p).account = some a)
    (hcredit : q.postage ≤ (s.account a).remaining) (hissued : (s.account a).issued + q.postage ≤ 2 ^ 47 - 1)
    (hroom : s.journal.entries.length < 2048) (l : PrinterId) (office serial : Nat) :
    BooksSafe s (s.acceptItem p k a l office serial i q) := by
  obtain ⟨t, ht⟩ := State.transaction_of_item hi
  rw [State.item_of_transaction ht] at hi
  rw [State.acceptItem_eq_sendHead a l office serial q ht]
  refine BooksSafe.kept ⟨fun ⟨⟨hjournal, _⟩, hallocator, _⟩ => ?_, fun ⟨_, _, h⟩ => ?_⟩ ((BooksKept.refl _).sendHead l)
  · have hentry := hjournal.append hroom
      (e := ⟨s.journal.next, s.clock.value, a, .accept (saleOf p (itemNumber office serial) i q)⟩) rfl
    exact ⟨⟨hentry, hentry⟩, hallocator.taken, hallocator.taken⟩
  · have hsales : ∀ b, (s.withAcceptance p k t a l office serial i q).openSales b =
        s.openSales b + if a = b then q.postage else 0 := fun b => by
      have hslot := State.openSales_writeSlot ht rfl rfl b
        (c := { s.ctx p with transaction := some (tset t k (some (i.acceptedAs (itemNumber office serial)))) })
      have hnew : entrySale (sheetEntry (some (i.acceptedAs (itemNumber office serial)))) = q.postage := by
        simp [sheetEntry, Item.acceptedAs, hq, entrySale]
      rw [hi, entrySale_item_of_not_accepted (by simp [hst]), hnew, ite_self, ha] at hslot
      simp only [Option.some.injEq, Nat.add_zero] at hslot
      exact hslot
    obtain ⟨hsound, hsold⟩ := h a
    refine h.write rfl (hsound.debited hcredit hissued) ?_ fun b hb => ?_
    · rw [hsales, if_pos rfl]
      simp only [Account.debited]
      omega
    · rw [hsales, if_neg (Ne.symm hb), Nat.add_zero]

theorem BooksSafe.acceptChecked {s : State} {p : PositionId} {k : Slot} {a : AccountId} {i : Item} {q : Quote}
    (hi : s.item p k = some i) (hst : i.state = .quoted) (hq : i.quote = some q) (ha : (s.ctx p).account = some a) (key : Fin 16) :
    BooksSafe s (s.acceptChecked p k a key i q).1 := by
  unfold State.acceptChecked
  dsimp only
  split
  · exact .refl s
  · split
    · exact .refl s
    · split
      · exact .refl s
      · next hcredit =>
        obtain ⟨hcredit, hissued⟩ := not_or.mp hcredit
        split
        · split
          · exact .refl s
          · next hfull =>
            split
            · exact .refl s
            · split
              · exact .refl s
              · exact .acceptItem hi hst hq ha (Nat.not_lt.mp hcredit) (Nat.not_lt.mp hissued)
                  (Nat.not_le.mp (mt (Journal.hasRoom_eq_false_iff _).mpr hfull)) _ _ _
        · exact .refl s

theorem serveAccept_keepsBooks (p : PositionId) (k : Slot) : KeepsBooks fun s => (serveAccept p k s).1 := fun s => by
  unfold serveAccept
  dsimp only
  split
  · exact .refl s
  · split
    · exact .refl s
    · split
      · exact .refl s
      · next i hi =>
        split
        · exact .refl s
        · split
          · exact .refl s
          · next hst =>
            split
            · next q a key hq ha _ => exact .acceptChecked hi (not_not.mp hst) hq ha key
            · exact .refl s

/-! ### VOID (R137, R138) -/

/-- R41: label reports, and so the operations of the spool, leave the account of every position. -/
theorem State.reportLabel_account (p q : PositionId) (num : Nat) (st : LabelState) (s : State) :
    ((s.reportLabel p num st).ctx q).account = (s.ctx q).account := by
  rw [State.reportLabel_eq, State.withLabel, State.ctx, tget_tset]
  split
  · next hq => rw [hq]
  · rfl

theorem State.sendHead_account (l : PrinterId) (q : PositionId) (s : State) : ((s.sendHead l).ctx q).account = (s.ctx q).account := by
  unfold State.sendHead
  split
  · exact State.reportLabel_account _ q _ _ _
  · rfl

theorem State.withdrawJob_account (num : Nat) (q : PositionId) (s : State) :
    ((s.withdrawJob num).1.ctx q).account = (s.ctx q).account := by
  unfold State.withdrawJob
  split
  · split
    · split
      · exact State.sendHead_account _ q _
      · rfl
    · rfl
  · rfl

/-- R127, R138: a void refunds what the item no longer adds to the sales. -/
theorem BooksSafe.voidItem {s : State} {p : PositionId} {k : Slot} {a : AccountId} {i : Item} {q : Quote}
    (hi : s.item p k = some i) (hst : i.state = .accepted) (hq : i.quote = some q) (ha : (s.ctx p).account = some a)
    (hroom : s.journal.entries.length < 2048) (num : Nat) : BooksSafe s (s.voidItem p k a num i q) := by
  have hkept := (BooksKept.refl (s.withRefund p a num i q)).withdrawJob num
  have hsheet := State.sheet_of_item hi
  have haccount := State.withdrawJob_account num p (s.withRefund p a num i q)
  obtain ⟨hsame, -, -⟩ := State.withdrawJob_sameRefs num (s.withRefund p a num i q)
  cases hu : (s.withRefund p a num i q).withdrawJob num with
  | mk u withdrawn =>
    rw [hu] at hkept hsame haccount
    obtain ⟨haccounts, hledgers, hfewer⟩ := hkept
    rw [hst, hq, show s.sheet p k = u.sheet p k from congrFun (congrFun hsame.symm p) k] at hsheet
    obtain ⟨j, hj, hentry⟩ := Option.map_eq_some_iff.mp hsheet
    obtain ⟨t, ht⟩ := State.transaction_of_item hj
    rw [State.voidItem_eq hu ht]
    refine ⟨fun ⟨⟨hjournal, _⟩, hallocator⟩ => ?_, fun ⟨_, _, h⟩ => ?_⟩
    · have hentry := hjournal.append hroom (e := ⟨s.journal.next, s.clock.value, a, .void (saleOf p num i q)⟩) rfl
      have hrefund : LedgersSound (s.withRefund p a num i q) := ⟨⟨hentry, hentry⟩, hallocator⟩
      exact hrefund.congr hledgers
    · have hsales : ∀ b, (u.setCtx p { u.ctx p with transaction := some (tset t k (some (i.voidedWith withdrawn))) }).openSales b +
          (if a = b then q.postage else 0) ≤ s.openSales b := fun b => by
        have hslot := State.openSales_writeSlot ht rfl rfl b
          (c := { u.ctx p with transaction := some (tset t k (some (i.voidedWith withdrawn))) })
        have hold : entrySale (sheetEntry (tget t k)) = q.postage := by
          rw [← State.item_of_transaction ht k, hj, sheetEntry, Option.map_some, hentry]
          rfl
        rw [hold, entrySale_item_of_not_accepted (by simp [Item.voidedWith]), ite_self, haccount,
          show ((s.withRefund p a num i q).ctx p).account = some a from ha] at hslot
        simp only [Option.some.injEq] at hslot
        exact hslot.le.trans (hfewer b)
      obtain ⟨hsound, hsold⟩ := h a
      refine h.write haccounts (hsound.refundedBy q.postage) ?_ fun b _ => (Nat.le_add_right _ _).trans (hsales b)
      have hself := hsales a
      rw [if_pos rfl] at hself
      change (s.account a).refunded + q.postage + _ ≤ (s.account a).issued
      omega

theorem serveVoid_keepsBooks (p : PositionId) (k : Slot) : KeepsBooks fun s => (serveVoid p k s).1 := fun s => by
  unfold serveVoid
  dsimp only
  split
  · exact .refl s
  · split
    · exact .refl s
    · next i hi =>
      split
      · exact .refl s
      · next hst =>
        split
        · next q num a key hq _ ha _ =>
          split_ifs with _ _ hfull
          · exact .refl s
          · exact .refl s
          · exact .refl s
          · exact .voidItem hi (not_not.mp hst) hq ha (Nat.not_le.mp (mt (Journal.hasRoom_eq_false_iff _).mpr hfull)) num
        · exact .refl s

/-! ### The rebuilding (R177) -/

/-- R177: the ledgers come back from their copies, the accounts from theirs, and no transaction is open. -/
theorem rebuild_keepsBooks : KeepsBooks State.rebuild := fun s => by
  refine ⟨fun ⟨⟨_, hjournal⟩, _, hallocator⟩ => ⟨⟨hjournal, hjournal⟩, hallocator, hallocator⟩, fun ⟨_, hstored, h⟩ => ?_⟩
  refine h.congr hstored fun a => ?_
  have hclosed : ∀ p, (s.rebuild.ctx p).transaction = none := by simp [State.rebuild, State.ctx, PositionContext.rebuilt]
  rw [State.openSales_eq, Finset.sum_eq_zero fun p _ => PositionContext.sales_closed (hclosed p) a]
  exact Nat.zero_le _

end Sys2Proof.Machine
end

section
/-! ANSWERS. The accounts stay sound (O51), and the journal and the serials (O52). -/

namespace Sys2Proof.Machine

/-! ### Every command -/

/-- R127, R139, R143: what each command makes of the books. -/
theorem exec_booksSafe {s u : State} (c : Instr) (hu : exec c s = .next u) : BooksSafe s u := by
  cases c with
  | linkUp p =>
    exact KeepsBooks.running (f := fun s => s.setCtx p (s.ctx p).lineUp)
      (.of_kept fun s => (BooksKept.refl s).setCtx_same (c := (s.ctx p).lineUp) rfl rfl) hu
  | linkDown p => exact (KeepsBooks.of_kept fun s => .lineDown s p).running hu
  | positionFrameReceived p bytes => exact (KeepsBooks.of_kept fun s => .receivePosition s p bytes).running hu
  | attach p tag payload => exact (attach_keepsBooks p tag payload).running hu
  | detach p tag payload => exact (KeepsBooks.request_kept (serveDetach_booksKept p) _ p tag payload).running hu
  | beginTransaction p tag payload => exact (KeepsBooks.request_kept (serveBegin_booksKept p) _ p tag payload).running hu
  | add p tag payload => exact (KeepsBooks.request_kept (serveAdd_booksKept p) _ p tag payload).running hu
  | amend p tag payload => exact (KeepsBooks.request_kept (serveAmend_booksKept p) _ p tag payload).running hu
  | drop p tag payload => exact (KeepsBooks.request_kept (serveDrop_booksKept p) _ p tag payload).running hu
  | weigh p tag payload => exact (KeepsBooks.request_kept (serveWeigh_booksKept p) _ p tag payload).running hu
  | zero p tag payload => exact (KeepsBooks.request_kept (serveZero_booksKept p) _ p tag payload).running hu
  | rate p tag payload => exact (KeepsBooks.request_kept (serveRate_booksKept p) _ p tag payload).running hu
  | detail p tag payload => exact (KeepsBooks.request_kept (serveDetail_booksKept p) _ p tag payload).running hu
  | accept p tag payload => exact (KeepsBooks.request (serveAccept_keepsBooks p) _ p tag payload).running hu
  | void p tag payload => exact (KeepsBooks.request (serveVoid_keepsBooks p) _ p tag payload).running hu
  | cancel p tag payload => exact (KeepsBooks.request_kept (serveCancel_booksKept p) _ p tag payload).running hu
  | collect p tag payload => exact (KeepsBooks.request_kept (serveCollect_booksKept p) _ p tag payload).running hu
  | finish p tag payload => exact (KeepsBooks.request_kept (serveFinish_booksKept p) _ p tag payload).running hu
  | query p tag payload => exact (KeepsBooks.request_kept (fun _ s => .refl s) _ p tag payload).running hu
  | sampleFrame c bytes => exact (KeepsBooks.of_kept fun s => .receiveSamples s c bytes).running hu
  | settleTimerExpiry c => exact (KeepsBooks.of_kept fun s => .settle s c).running hu
  | weighTimerExpiry c => exact (KeepsBooks.of_kept fun s => .weighTimer s c).running hu
  | evaluationStart => exact (KeepsBooks.of_kept .startEvaluation).running hu
  | checkStep => exact (KeepsBooks.of_kept .checkStep).running hu
  | termStep => exact (KeepsBooks.of_kept .termStep).running hu
  | deliveryStep => exact (KeepsBooks.of_kept .deliveryStep).running hu
  | chainStep => exact (KeepsBooks.of_kept .chainStep).running hu
  | evaluationHalt => exact (KeepsBooks.of_kept .haltEvaluation).running hu
  | officeFrameReceived input => exact KeepsBooks.running (f := State.receiveOffice input) (fun s => .refl s) hu
  | status tag payload => exact (KeepsBooks.command_kept (fun _ s => .refl s) _ _ tag payload).running hu
  | time tag payload => exact (KeepsBooks.command_kept (serve := serveTime) (fun _ s => .refl s) _ _ tag payload).running hu
  | flags tag payload => exact (KeepsBooks.command_kept serveFlags_booksKept _ _ tag payload).running hu
  | position tag payload => exact (KeepsBooks.command_kept servePosition_booksKept _ _ tag payload).running hu
  | scale tag payload => exact (KeepsBooks.command_kept serveScale_booksKept _ _ tag payload).running hu
  | printer tag payload => exact (KeepsBooks.command_kept servePrinter_booksKept _ _ tag payload).running hu
  | redirect tag payload => exact (KeepsBooks.command_kept serveRedirect_booksKept _ _ tag payload).running hu
  | account tag payload => exact (KeepsBooks.command serveAccount_keepsBooks _ _ tag payload).running hu
  | credit tag payload => exact (KeepsBooks.command serveCredit_keepsBooks _ _ tag payload).running hu
  | block tag payload => exact (block_keepsBooks tag payload).running hu
  | loadBegin tag payload => exact (KeepsBooks.command_kept serveLoadBegin_booksKept _ _ tag payload).running hu
  | loadPart tag payload => exact (KeepsBooks.command_kept serveLoadPart_booksKept _ _ tag payload).running hu
  | loadEnd tag payload => exact (KeepsBooks.command_kept serveLoadEnd_booksKept _ _ tag payload).running hu
  | loadAbandon tag payload => exact (KeepsBooks.command_kept serveLoadAbandon_booksKept _ _ tag payload).running hu
  | activate tag payload => exact (KeepsBooks.command_kept serveActivate_booksKept _ _ tag payload).running hu
  | journalRead tag payload => exact (KeepsBooks.command_kept (fun _ s => .refl s) _ _ tag payload).running hu
  | journalRelease tag payload => exact (KeepsBooks.command serveJournalRelease_keepsBooks _ _ tag payload).running hu
  | restart tag payload => exact (KeepsBooks.command serveRestart_keepsBooks _ _ tag payload).running hu
  | restartRebuild =>
    simp only [exec, execRestartRebuild] at hu
    split at hu
    · cases hu
      exact BooksSafe.kept (rebuild_keepsBooks s) (BooksKept.sendHeads (u := { s.rebuild with power := .running, sent := [] }) (.refl _))
    · cases hu; exact .refl s
  | powerOn kept =>
    cases hu
    exact BooksSafe.kept (rebuild_keepsBooks s) (BooksKept.sendHeads
      (u := { s.rebuild with power := .running, supply := .normal, clock := s.clock.afterPower kept, sent := [] }) (.refl _))
  | supplyFailure => cases hu; exact rebuild_keepsBooks s
  | supplySample microvolts => cases hu; exact .refl s
  | tick => exact KeepsBooks.running (s := { s with clock := s.clock.advanced }) (.of_kept .tickTariffs) hu
  | graceExpiry b =>
    simp only [exec, execGraceExpiry] at hu
    refine KeepsBooks.running (.of_kept fun s => ?_) hu
    split
    · exact (BooksKept.refl s).expireGrace b
    · exact .refl s
  | loadIdleTimeout b =>
    simp only [exec, execLoadIdleTimeout] at hu
    refine KeepsBooks.running (.of_kept fun s => ?_) hu
    split
    · exact (BooksKept.refl s).setBank b _
    · exact .refl s
  | printerDone l noise n reason check => exact (KeepsBooks.of_kept fun s => .receiveAnswers s l _).running hu
  | printerFault l noise n reason check => exact (KeepsBooks.of_kept fun s => .receiveAnswers s l _).running hu
  | printerReady l noise n reason check => exact (KeepsBooks.of_kept fun s => .receiveAnswers s l _).running hu
  | printTimeout l => exact (KeepsBooks.of_kept fun s => .printTimeout s l).running hu
  | unknownRequestCode p code tag payload =>
    simp only [exec, execUnknownRequestCode] at hu
    refine KeepsBooks.running (fun s => ?_) hu
    split
    · exact .refl s
    · exact KeepsBooks.request nofun _ p tag payload s
  | unknownCommandCode code tag payload =>
    simp only [exec, execUnknownCommandCode] at hu
    refine KeepsBooks.running (fun s => ?_) hu
    split
    · exact .refl s
    · exact KeepsBooks.command nofun _ _ tag payload s

theorem step_booksSafe {s u : State} (hstep : step s = .next u) : BooksSafe s u := by
  unfold step at hstep
  split at hstep
  · next c rest _ => exact exec_booksSafe (s := { s with pending := rest }) c hstep
  · cases hstep; exact .refl s

/-- Settles O51: the premises make the accounts ready for every command; each debit, refund and credit keeps its account sound, and no other step raises the sales open. -/
theorem accountsStaySound : Obligations.AccountsStaySound := by
  intro s u hlegal hstore haccounts hstep
  have hclosed : ∀ p, (s.ctx p).state = .linked → (s.ctx p).transaction = none := fun p hlinked => by
    obtain ⟨⟨htransaction, -⟩, -⟩ := hlegal.1 p
    rw [hlinked] at htransaction
    simpa using htransaction
  obtain ⟨hstored, -⟩ := hstore
  obtain ⟨-, hsafe⟩ := step_booksSafe hstep
  exact hsafe ⟨hclosed, hstored, haccounts⟩

/-- Settles O52: an entry takes the next number, a release drops the oldest, a serial is taken from the head block, a block joins above the highest serial, and a rebuilding takes the stored copies, which are sound. -/
theorem journalAndSerialsStaySound : Obligations.JournalAndSerialsStaySound := by
  intro s u hjournal hallocator hstep
  obtain ⟨hsafe, -⟩ := step_booksSafe hstep
  exact hsafe ⟨hjournal, hallocator⟩

end Sys2Proof.Machine
end

section
/-! ANSWERS. Item numbers (O32). -/

namespace Sys2Proof.Machine

/-- R142: the check digit is one decimal digit. -/
theorem checkDigit_lt (thirteen : Nat) : checkDigit thirteen < 10 := by
  unfold checkDigit
  dsimp only
  split_ifs <;> omega

/-- R142: the check digit from the weighted sum of the thirteen digits. -/
theorem checkDigit_eq (n : Nat) :
    let digit (k : Nat) : Nat := n / 10 ^ k % 10
    let s :=
      2 * digit 12 + 7 * digit 11 + 6 * digit 10 + 5 * digit 9 + 4 * digit 8 + 3 * digit 7 + 2 * digit 6 + 7 * digit 5 +
        6 * digit 4 + 5 * digit 3 + 4 * digit 2 + 3 * digit 1 + 2 * digit 0
    checkDigit n = if s % 11 ≤ 1 then 0 else 11 - s % 11 := by
  intro digit s
  have hsum : (List.zipWith (· * ·) (digitsReversed 13 n).reverse digitWeights).sum = s := by
    simp only [digitsReversed, digitWeights, Nat.div_div_eq_div_mul, List.reverse_cons, List.reverse_nil, List.nil_append,
      List.cons_append, List.zipWith_cons_cons, List.zipWith_nil_left, List.sum_cons, List.sum_nil, Nat.reduceMul, s, digit,
      Nat.reducePow, Nat.div_one]
    omega
  clear_value s
  unfold checkDigit
  rw [hsum]
  dsimp only
  split_ifs <;> omega

/-- R142: the thirteen digits are read back from an item number, and office code and serial from them. -/
theorem itemNumber_injective {office serial office' serial' : Nat} (hserial : serial ≤ 99999999) (hserial' : serial' ≤ 99999999)
    (h : itemNumber office serial = itemNumber office' serial') : office = office' ∧ serial = serial' := by
  have hdigit := checkDigit_lt (office * 100000000 + serial)
  have hdigit' := checkDigit_lt (office' * 100000000 + serial')
  simp only [itemNumber] at h
  omega

/-- Settles O32: the check digit by its weighted sum, and the thirteen digits before it. -/
theorem itemNumbersFormed : Obligations.ItemNumbersFormed := by
  refine ⟨fun office serial _ _ => ?_, fun office serial office' serial' hserial hserial' h => itemNumber_injective hserial hserial' h⟩
  intro n digit s
  rw [itemNumber, checkDigit_eq, Nat.mul_comm]

end Sys2Proof.Machine
end

section
/-! ANSWERS. ACCOUNT, CREDIT and BLOCK (O39 to O41). -/

namespace Sys2Proof.Machine

/-! ### Their payloads -/

/-- The four bytes of a 32-bit number, as the readers match them. -/
theorem leBytes_four (v : Nat) (h : v < 2 ^ 32) : ∃ b0 b1 b2 b3 : Byte, leBytes 4 v = [b0, b1, b2, b3] ∧ leNat [b0, b1, b2, b3] = v := by
  have hread : leNat (leBytes 4 v) = v := by rw [leNat_leBytes]; exact Nat.mod_eq_of_lt h
  exact ⟨_, _, _, _, rfl, hread⟩

/-- Section 11.6: what CREDIT spells. -/
theorem readCredit_fits (a : AccountId) {amount : Nat} (hone : 1 ≤ amount) (hmost : amount ≤ 99999999) :
    readCredit (BitVec.ofNat 8 a.val :: leBytes 4 amount) = some (a, amount) := by
  obtain ⟨m0, m1, m2, m3, hbytes, hvalue⟩ := leBytes_four amount (by omega)
  rw [hbytes]
  simp only [readCredit, readFin_ofNat (show 4 ≤ 256 by decide), hvalue, hone, hmost, and_self, if_true]

/-- R140, section 11.6: what BLOCK spells, if its figures are in range. -/
theorem readBlock_eq {first count : Nat} (hfirst : first < 2 ^ 32) (hcount : count < 2 ^ 32) :
    readBlock (leBytes 4 first ++ leBytes 4 count) =
      if first = 0 ∨ 99999999 < first ∨ count = 0 ∨ 1000000 < count then none else some (first, count) := by
  obtain ⟨f0, f1, f2, f3, hbytes, hvalue⟩ := leBytes_four first hfirst
  obtain ⟨n0, n1, n2, n3, hbytes', hvalue'⟩ := leBytes_four count hcount
  rw [hbytes, hbytes']
  simp only [List.cons_append, List.nil_append, readBlock, hvalue, hvalue']
  rw [← ite_not]
  exact if_congr (by omega) rfl rfl

/-! ### What their `serve` functions make of the state -/

section
variable (rest : List Frame) (sent : List Sent) (s : State)

@[simp] theorem State.afterCommand_account (a : AccountId) : (s.afterCommand rest sent).account a = s.account a := rfl
@[simp] theorem State.afterCommand_supply : (s.afterCommand rest sent).supply = s.supply := rfl
@[simp] theorem State.afterCommand_clock : (s.afterCommand rest sent).clock = s.clock := rfl
@[simp] theorem State.afterCommand_journal : (s.afterCommand rest sent).journal = s.journal := rfl
@[simp] theorem State.afterCommand_allocator : (s.afterCommand rest sent).allocator = s.allocator := rfl

end

/-- R128, R133: the account with its LOW mark, written through. -/
theorem State.updateAccount_eq (a : AccountId) (x : Account) (s : State) :
    s.updateAccount a x =
      { s with accounts := tset s.accounts a x.marked, nvs := { s.nvs with accounts := tset s.nvs.accounts a x.marked } } := by
  simp [State.updateAccount, State.setAccount, State.saveAccount, State.account]

theorem State.updateAccount_account (a : AccountId) (x : Account) (s : State) : (s.updateAccount a x).account a = x.marked :=
  tget_tset_self _ _ _

/-- R129: KEEP for all three fields only reads the account. -/
theorem serveAccount_eq (x : AccountChange) (s : State) :
    serveAccount x s =
      if x.key = none ∧ x.status = none ∧ x.threshold = none then (s, .done (s.account x.account).bytes)
      else
        (s.updateAccount x.account (x.apply (s.account x.account)), .done (x.apply (s.account x.account)).marked.bytes) := by
  have hkeeps : x.keepsAll = true ↔ x.key = none ∧ x.status = none ∧ x.threshold = none := by
    simp only [AccountChange.keepsAll, Bool.and_eq_true, Option.isNone_iff_eq_none, and_assoc]
  unfold serveAccount
  by_cases hkeep : x.keepsAll = true
  · simp only [if_pos hkeep, if_pos (hkeeps.mp hkeep)]
  · simp only [if_neg hkeep, if_neg (mt hkeeps.mpr hkeep), State.updateAccount_account]

/-- R130: the checks of CREDIT, with the limits of R127 and R146, and its effect. -/
theorem serveCredit_eq (a : AccountId) (amount : Nat) (s : State) :
    serveCredit (a, amount) s =
      if s.supply ≠ .normal then (s, .refused .hold [])
      else if s.clock.valid = false then (s, .refused .state [])
      else if 2 ^ 47 - 1 < (s.account a).loaded + amount then (s, .refused .overflow [])
      else if 2048 ≤ s.journal.entries.length then (s, .refused .journalFull [])
      else
        let x := ((s.account a).credited amount).marked
        ((s.updateAccount a ((s.account a).credited amount)).appendEntry a (.credit amount),
          .done (leBytes 6 x.loaded ++ leBytes 6 x.remaining ++ [boolByte x.low] ++ leBytes 4 s.journal.next.toNat)) := by
  have hread : ((s.updateAccount a ((s.account a).credited amount)).appendEntry a (.credit amount)).account a =
      ((s.account a).credited amount).marked := State.updateAccount_account a _ s
  simp only [serveCredit, hread]
  refine if_congr (by cases s.supply <;> simp) rfl (if_congr Iff.rfl rfl (if_congr Iff.rfl rfl ?_))
  exact if_congr (Journal.hasRoom_eq_false_iff _) rfl rfl

/-- R140: the allocator with a block at the tail of its queue. -/
theorem Allocator.granted_eq (first last : Nat) (al : Allocator) :
    al.granted first last =
      { al with
        blocks := al.blocks ++ [⟨first, last⟩], next := if al.blocks = [] then some first else al.next, highest := last } := by
  simp only [Allocator.granted, List.isEmpty_iff]

/-- R140: the checks of BLOCK and its effect. -/
theorem serveBlock_eq (first count : Nat) (s : State) :
    serveBlock (first, count) s =
      if first ≤ s.allocator.highest then (s, .refused .order [])
      else if 99999999 < first + count - 1 then (s, .refused .range [])
      else if 4 ≤ s.allocator.blocks.length then (s, .refused .full [])
      else
        let al := s.allocator.granted first (first + count - 1)
        ({ s with allocator := al, nvs := { s.nvs with allocator := al } }, .done (leBytes 4 al.serialsLeft)) := rfl

/-! ### The commands -/

/-- Settles O39: an ACCOUNT that keeps all three fields only reads; any other writes the account with its LOW mark. -/
theorem accountSetsFields : Obligations.AccountSetsFields := by
  intro tag x payload rest s hread hw a threshold a'
  have hserve := serveAccount_eq x (s.afterCommand rest [])
  rw [State.updateAccount_eq] at hserve
  split_ifs at hserve ⊢ <;> exact State.running_command_answered hw hread hserve

/-- Settles O40: the checks of R130 in order, and the credit with its entry. -/
theorem creditChecksAndEffect : Obligations.CreditChecksAndEffect := by
  intro tag a amount payload rest s hone hmost hpayload hw f x low x' journal
  have hread : readCredit payload = some (a, amount) := by rw [hpayload, readCredit_fits a hone hmost]
  have hserve := serveCredit_eq a amount (s.afterCommand rest [])
  simp only [State.updateAccount_eq, State.afterCommand_supply, State.afterCommand_clock, State.afterCommand_account,
    State.afterCommand_journal] at hserve
  split_ifs at hserve ⊢ <;> exact State.running_command_answered hw hread hserve

/-- Settles O41: figures out of range are malformed; else the checks of R140 in order, and the block at the tail. -/
theorem blockChecksAndEffect : Obligations.BlockChecksAndEffect := by
  intro tag first count rest s hfirst hcount hw f last al al'
  have hread := readBlock_eq hfirst hcount
  have hserve := serveBlock_eq first count (s.afterCommand rest [])
  have hgranted : s.allocator.granted first (first + count - 1) = al' := Allocator.granted_eq _ _ _
  simp only [State.afterCommand_allocator, hgranted] at hserve
  by_cases hrange : first = 0 ∨ 99999999 < first ∨ count = 0 ∨ 1000000 < count
  · rw [if_pos hrange] at hread ⊢
    exact State.running_command_malformed 0x05 readBlock tag _ serveBlock rest s hw hread
  · rw [if_neg hrange] at hread ⊢
    split_ifs at hserve ⊢ <;> exact State.running_command_answered hw hread hserve

end Sys2Proof.Machine
end

section
/-! ANSWERS. JOURNAL-RELEASE (O42). -/

namespace Sys2Proof.Machine

/-- The number of a word with a byte joined below it. -/
theorem toNat_append_byte {w : Nat} (x : BitVec w) (b : Byte) : (x ++ b).toNat = 256 * x.toNat + b.toNat := by
  rw [BitVec.toNat_append, ← Nat.shiftLeft_add_eq_or_of_lt b.isLt, Nat.shiftLeft_eq, Nat.mul_comm]

/-- Section 11.6: four bytes, least significant first, spell the 32-bit word that joins them. -/
theorem readWord32_eq_append (b0 b1 b2 b3 : Byte) : readWord32 [b0, b1, b2, b3] = b3 ++ b2 ++ b1 ++ b0 := by
  have hvalue : leNat [b0, b1, b2, b3] = (b3 ++ b2 ++ b1 ++ b0).toNat := by
    simp only [leNat, toNat_append_byte]
    omega
  rw [readWord32, hvalue, BitVec.ofNat_toNat, BitVec.setWidth_eq]

/-- R149, R151: a release that takes no entry changes nothing; any other drops the oldest entries and writes the journal. -/
theorem serveJournalRelease_eq (seq : Word32) (s : State) :
    serveJournalRelease seq s =
      let n := s.journal.releaseCount seq
      let j := s.journal.released seq
      ({ s with journal := j, nvs := if n = 0 then s.nvs else { s.nvs with journal := j } }, .done (j.releaseBytes n)) := by
  by_cases hnone : s.journal.releaseCount seq = 0
  · have hkept : s.journal.released seq = s.journal := by rw [Journal.released, hnone, List.drop_zero]
    simp only [serveJournalRelease, hnone, hkept, if_true]
  · simp only [serveJournalRelease, if_neg hnone, State.saveJournal]

/-- R149: the count released, by the distance from the oldest entry; an empty journal has no oldest, and its distance 0 releases none of its none. -/
theorem Journal.releaseCount_eq (seq : Word32) (j : Journal) :
    let distance := match j.entries with | oldest :: _ => (seq - oldest.seq).toNat | [] => 0
    j.releaseCount seq =
      if distance < j.entries.length then distance + 1 else if distance < 2 ^ 31 then j.entries.length else 0 := by
  unfold Journal.releaseCount
  cases j.entries with
  | nil => rfl
  | cons oldest newer => rfl

/-- Settles O42: the bytes spell the number, the count released is by its distance from the oldest, and the answer is the journal's after it. -/
theorem journalReleaseByDistance : Obligations.JournalReleaseByDistance := by
  intro tag b0 b1 b2 b3 rest s hw j distance removed j'
  have hread : readTime [b0, b1, b2, b3] = some (b3 ++ b2 ++ b1 ++ b0) := congrArg some (readWord32_eq_append b0 b1 b2 b3)
  have hserve := serveJournalRelease_eq (b3 ++ b2 ++ b1 ++ b0) (s.afterCommand rest [])
  have hcount : s.journal.releaseCount (b3 ++ b2 ++ b1 ++ b0) = removed := Journal.releaseCount_eq _ _
  have hjournal : s.journal.released (b3 ++ b2 ++ b1 ++ b0) = j' := by rw [Journal.released, hcount]
  simp only [State.afterCommand_journal, hcount, hjournal] at hserve
  exact State.running_command_answered hw hread hserve

end Sys2Proof.Machine
end

section
/-! SUPPORT. The operations and the meanings that leave the printers alone. -/

namespace Sys2Proof.Machine

section
variable (s : State)

/-! ### Shared operations -/

@[simp] theorem State.setItem_printers (p : PositionId) (k : Slot) (i : Option Item) : (s.setItem p k i).printers = s.printers := by
  obtain ⟨_, h⟩ := State.setItem_shape p k i s
  rw [h]

@[simp] theorem State.release_printers (b : BankId) : (s.release b).printers = s.printers := by
  obtain ⟨_, h⟩ := State.release_shape b s
  rw [h]

@[simp] theorem State.releaseQuote_printers (i : Item) : (s.releaseQuote i).printers = s.printers := by
  obtain ⟨_, h⟩ := State.releaseQuote_shape i s
  rw [h]

@[simp] theorem State.requote_printers (p : PositionId) (k : Slot) (st : ItemState) : (s.requote p k st).printers = s.printers := by
  obtain ⟨_, _, h⟩ := State.requote_shape p k st s
  rw [h]

@[simp] theorem State.releaseAll_printers (t : Transaction) : (s.releaseAll t).printers = s.printers := by
  obtain ⟨_, h⟩ := State.releaseAll_shape t s
  rw [h]

@[simp] theorem State.handCompletion_printers (p : PositionId) (r : Completion) : (s.handCompletion p r).printers = s.printers := by
  obtain ⟨_, _, h⟩ := State.handCompletion_shape p r s
  rw [h]

@[simp] theorem State.finishWeigh_printers (p : PositionId) (k : Slot) (status : Reason) (reading : Nat) :
    (s.finishWeigh p k status reading).printers = s.printers := by
  obtain ⟨_, _, h⟩ := State.finishWeigh_shape p k status reading s
  rw [h]

@[simp] theorem State.endWeigh_printers (c : ChannelId) (status : Reason) (reading : Nat) :
    (s.endWeigh c status reading).printers = s.printers := by
  obtain ⟨_, _, _, h⟩ := State.endWeigh_shape c status reading s
  rw [h]

@[simp] theorem State.returnItem_printers (p : PositionId) (k : Slot) : (s.returnItem p k).printers = s.printers := by
  obtain ⟨_, h⟩ := State.returnItem_shape p k s
  rw [h]

@[simp] theorem State.handRateDone_printers (op : Operation) (last : Slot) (status : Reason) :
    (s.handRateDone op last status).printers = s.printers := by
  obtain ⟨_, _, h⟩ := State.handRateDone_shape op last status s
  rw [h]

@[simp] theorem State.endRating_printers (op : Operation) (status : Reason) : (s.endRating op status).printers = s.printers := by
  obtain ⟨_, _, _, h⟩ := State.endRating_shape op status s
  rw [h]

@[simp] theorem State.reportLabel_printers (p : PositionId) (num : Nat) (st : LabelState) :
    (s.reportLabel p num st).printers = s.printers := by
  obtain ⟨_, h⟩ := State.reportLabel_shape p num st s
  rw [h]

@[simp] theorem State.reportMoved_printers (jobs : List Job) : (s.reportMoved jobs).printers = s.printers := by
  rw [State.reportMoved_eq, State.withQueued_printers]

@[simp] theorem State.updateAccount_printers (a : AccountId) (x : Account) : (s.updateAccount a x).printers = s.printers := rfl

@[simp] theorem State.appendEntry_printers (a : AccountId) (e : JournalEvent) : (s.appendEntry a e).printers = s.printers := rfl

@[simp] theorem State.expireGrace_printers (b : BankId) : (s.expireGrace b).printers = s.printers := by
  obtain ⟨_, _, _, h⟩ := State.expireGrace_shape b s
  rw [h]

@[simp] theorem State.activate_printers (b : BankId) : (s.activate b).printers = s.printers := by
  obtain ⟨_, _, _, _, h⟩ := State.activate_shape b s
  rw [h]

@[simp] theorem State.tickGrace_printers (b : BankId) : (s.tickGrace b).printers = s.printers := by
  obtain ⟨_, _, _, h⟩ := State.tickGrace_shape b s
  rw [h]

@[simp] theorem State.forcedDetach_printers (p : PositionId) : (s.forcedDetach p).printers = s.printers := by
  obtain ⟨_, _, _, _, h⟩ := State.forcedDetach_shape p s
  rw [h]

/-! ### Positions, transactions and items -/

theorem State.lineDown_printers (p : PositionId) : (s.lineDown p).printers = s.printers := by
  simp [State.lineDown, State.setPositionState]

theorem State.receivePosition_printers (p : PositionId) (bytes : List Byte) : (s.receivePosition p bytes).printers = s.printers := by
  obtain ⟨_, h⟩ := State.receivePosition_shape p bytes s
  rw [h]

theorem serveAttach_printers (p : PositionId) (x : AccountId × Fin 16) : (serveAttach p x s).1.printers = s.printers := by
  unfold serveAttach
  dsimp only
  split_ifs <;> rfl

theorem serveDetach_printers (p : PositionId) (x : Unit) : (serveDetach p x s).1.printers = s.printers := by
  unfold serveDetach
  split_ifs <;> simp [State.setPositionState]

theorem serveCollect_printers (p : PositionId) (x : Unit) : (serveCollect p x s).1.printers = s.printers := by
  unfold serveCollect
  split <;> rfl

theorem serveBegin_printers (p : PositionId) (x : Unit) : (serveBegin p x s).1.printers = s.printers := by
  unfold serveBegin
  split_ifs <;> rfl

theorem serveAdd_printers (p : PositionId) (x : Unit) : (serveAdd p x s).1.printers = s.printers := by
  unfold serveAdd
  split <;> simp

theorem serveAmend_printers (p : PositionId) (m : Amendment) : (serveAmend p m s).1.printers = s.printers := by
  unfold serveAmend
  split
  · split_ifs <;> simp
  · rfl

theorem serveDrop_printers (p : PositionId) (k : Slot) : (serveDrop p k s).1.printers = s.printers := by
  unfold serveDrop
  split
  · split_ifs <;> simp
  · rfl

theorem serveDetail_printers (p : PositionId) (k : Slot) : (serveDetail p k s).1.printers = s.printers := by
  unfold serveDetail
  split <;> rfl

theorem serveFinish_printers (p : PositionId) (x : Nat × Nat) : (serveFinish p x s).1.printers = s.printers := by
  unfold serveFinish
  dsimp only
  split
  · split_ifs <;> simp
  · rfl

/-! ### Scale channels -/

theorem State.takeArrival_printers (c : ChannelId) (a : Arrival) : (s.takeArrival c a).printers = s.printers := by
  unfold State.takeArrival
  dsimp only
  split
  · rfl
  · rfl
  · rfl
  · split_ifs <;> simp

theorem State.receiveSamples_printers (c : ChannelId) (bytes : List Byte) : (s.receiveSamples c bytes).printers = s.printers := by
  unfold State.receiveSamples
  dsimp only
  generalize (scanSamples _ _).1 = arrivals
  induction arrivals using List.reverseRecOn with
  | nil => rfl
  | append_singleton arrivals a ih => rw [List.foldl_append, List.foldl_cons, List.foldl_nil, State.takeArrival_printers, ih]

theorem State.settle_printers (c : ChannelId) : (s.settle c).printers = s.printers := by
  unfold State.settle
  dsimp only
  split
  · split <;> simp
  · rfl

theorem State.weighTimer_printers (c : ChannelId) :
    (if (s.channel c).weighTimer.isSome then s.endWeigh c .unstable 0 else s).printers = s.printers := by
  split <;> simp

theorem State.takeWeigh_printers (p : PositionId) (c : ChannelId) (k : Slot) : (s.takeWeigh p c k).1.printers = s.printers := by
  unfold State.takeWeigh
  dsimp only
  split <;> simp [State.startWeigh]

theorem serveWeigh_printers (p : PositionId) (k : Slot) : (serveWeigh p k s).1.printers = s.printers := by
  unfold serveWeigh
  dsimp only
  split
  · rfl
  · rfl
  · split_ifs <;> simp [State.takeWeigh_printers]

theorem serveZero_printers (p : PositionId) (x : Unit) : (serveZero p x s).1.printers = s.printers := by
  unfold serveZero
  dsimp only
  split
  · rfl
  · split_ifs
    · rfl
    · rfl
    · rfl
    · split
      · split_ifs <;> rfl
      · rfl

/-! ### Rating -/

theorem serveRate_printers (p : PositionId) (x : Slot × Scope) : (serveRate p x s).1.printers = s.printers := by
  unfold serveRate
  split
  · rfl
  · split_ifs <;> simp [State.takeRate]

theorem State.startEvaluation_printers : s.startEvaluation.printers = s.printers := by
  unfold State.startEvaluation
  dsimp only
  split
  · split
    · split
      · split <;> simp [State.reference]
      · rfl
    · rfl
  · rfl

theorem State.checkStep_printers : s.checkStep.printers = s.printers := by
  unfold State.checkStep
  split
  · split
    · split <;> simp
    · rfl
  · rfl
  · rfl

theorem State.termStep_printers : s.termStep.printers = s.printers := by
  unfold State.termStep
  split
  · split <;> rfl
  · rfl
  · rfl

theorem State.storeQuote_printers (p : PositionId) (k : Slot) (q : Quote) : (s.storeQuote p k q).printers = s.printers := by
  unfold State.storeQuote
  split
  · split_ifs <;> simp
  · rfl

theorem State.deliveryStep_printers : s.deliveryStep.printers = s.printers := by
  unfold State.deliveryStep
  dsimp only
  split
  · split
    · split_ifs <;> simp [State.storeQuote_printers]
    · rfl
  · rfl
  · rfl

theorem State.chainStep_printers : s.chainStep.printers = s.printers := by
  unfold State.chainStep
  dsimp only
  split
  · split_ifs <;> simp
  · rfl
  · rfl

theorem State.haltEvaluation_printers : s.haltEvaluation.printers = s.printers := by
  unfold State.haltEvaluation
  split
  · split <;> simp
  · rfl
  · rfl

theorem State.cancelWeigh_printers (p : PositionId) (target : Option Slot) : (s.cancelWeigh p target).1.printers = s.printers := by
  unfold State.cancelWeigh
  split
  · split <;> simp
  · rfl

theorem State.cancelOperation_printers (p : PositionId) (target : Option Slot) :
    (s.cancelOperation p target).printers = s.printers := by
  unfold State.cancelOperation
  split
  · simp
  · split
    · split <;> rfl
    · split <;> simp
    · rfl

theorem serveCancel_printers (p : PositionId) (target : Option Slot) : (serveCancel p target s).1.printers = s.printers := by
  unfold serveCancel
  dsimp only
  split
  · rw [State.cancelOperation_printers, State.cancelWeigh_printers]
  · exact State.cancelWeigh_printers s p target

/-! ### Office commands and the tariff store -/

theorem serveFlags_printers (x : List FlagAction) : (serveFlags x s).1.printers = s.printers := by
  unfold serveFlags
  dsimp only
  split <;> rfl

theorem servePosition_printers (x : PositionId × PositionConfig) : (servePosition x s).1.printers = s.printers := by
  unfold servePosition
  dsimp only
  split
  · rfl
  · split <;> simp

theorem serveScale_printers (x : ChannelId × ScaleConfig) : (serveScale x s).1.printers = s.printers := by
  simp [serveScale]

theorem serveAccount_printers (x : AccountChange) : (serveAccount x s).1.printers = s.printers := by
  unfold serveAccount
  dsimp only
  split <;> rfl

theorem serveCredit_printers (x : AccountId × Nat) : (serveCredit x s).1.printers = s.printers := by
  unfold serveCredit
  dsimp only
  split_ifs <;> rfl

theorem serveBlock_printers (x : Nat × Nat) : (serveBlock x s).1.printers = s.printers := by
  unfold serveBlock
  dsimp only
  split_ifs <;> rfl

theorem serveJournalRelease_printers (x : Word32) : (serveJournalRelease x s).1.printers = s.printers := by
  unfold serveJournalRelease
  dsimp only
  split <;> rfl

theorem serveRestart_printers (x : Option Nat) : (serveRestart x s).1.printers = s.printers := by
  unfold serveRestart
  split
  · rfl
  · rfl
  · split <;> rfl

theorem serveLoadBegin_printers (x : LoadDeclaration) : (serveLoadBegin x s).1.printers = s.printers := by
  unfold serveLoadBegin
  split
  · rfl
  · split <;> simp

theorem serveLoadPart_printers (x : Nat × List Byte) : (serveLoadPart x s).1.printers = s.printers := by
  unfold serveLoadPart
  dsimp only
  split
  · rfl
  · split_ifs <;> simp

theorem serveLoadEnd_printers (x : Unit) : (serveLoadEnd x s).1.printers = s.printers := by
  unfold serveLoadEnd
  dsimp only
  split
  · rfl
  · split
    · simp
    · split <;> simp [State.admitImage]

theorem serveLoadAbandon_printers (b : BankId) : (serveLoadAbandon b s).1.printers = s.printers := by
  unfold serveLoadAbandon
  split <;> simp

theorem serveActivate_printers (b : BankId) : (serveActivate b s).1.printers = s.printers := by
  unfold serveActivate
  split <;> simp

theorem State.tickTariffs_printers : s.tickTariffs.printers = s.printers := by
  unfold State.tickTariffs
  dsimp only
  split <;> simp

end

end Sys2Proof.Machine
end

section
/-! SUPPORT. The soundness of one printer (R153, R154, R156) under each change that the label spool makes of it. -/

namespace Sys2Proof.Machine

/-! ### A sound printer rests or sends -/

/-- R153, R154: not PRINTING: the print timer stopped, all jobs WAITING. -/
def Printer.resting (pr : Printer) : Prop :=
  pr.state ≠ .printing ∧ pr.timer = none ∧ ∀ j ∈ pr.queue, j.condition = .waiting

/-- R156: PRINTING: the print timer running, the head job alone PRINTING. -/
def Printer.sending (pr : Printer) : Prop :=
  pr.state = .printing ∧ pr.timer.isSome = true ∧
    ∃ j rest, pr.queue = j :: rest ∧ j.condition = .printing ∧ ∀ x ∈ rest, x.condition = .waiting

/-- R156: a printer that is sound once its head job has been sent, if it is READY and has one. -/
def Printer.sendable (pr : Printer) : Prop := (pr.enabled = false ↔ pr.state = .off) ∧ (pr.resting ∨ pr.sending)

theorem Printer.sound_iff (pr : Printer) : pr.sound ↔ pr.sendable ∧ (pr.state = .ready → pr.queue = []) := by
  constructor
  · rintro ⟨henabled, hready, htimer, hbehind, hhead⟩
    refine ⟨⟨henabled, ?_⟩, hready⟩
    by_cases hst : pr.state = .printing
    · obtain ⟨j, rest, hq, hj⟩ := hhead.mp hst
      exact .inr ⟨hst, htimer.mpr hst, j, rest, hq, hj, by simpa [hq] using hbehind⟩
    · refine .inl ⟨hst, by simpa [hst] using htimer, fun j hj => ?_⟩
      cases hq : pr.queue with
      | nil => simp [hq] at hj
      | cons x rest =>
        obtain rfl | hj : j = x ∨ j ∈ rest := by simpa [hq] using hj
        · cases hc : j.condition with
          | waiting => rfl
          | printing => exact absurd (hhead.mpr ⟨j, rest, hq, hc⟩) hst
        · exact hbehind j (by simpa [hq] using hj)
  · rintro ⟨⟨henabled, ⟨hst, htimer, hwaiting⟩ | ⟨hst, htimer, j, rest, hq, hj, hrest⟩⟩, hready⟩
    · refine ⟨henabled, hready, by simp [htimer, hst], fun j hj => hwaiting j (List.mem_of_mem_tail hj), ?_⟩
      refine ⟨fun h => absurd h hst, fun ⟨j, rest, hq, hj⟩ => ?_⟩
      simp [hwaiting j (by simp [hq])] at hj
    · exact ⟨henabled, hready, by simp [htimer, hst], by simpa [hq] using hrest, fun _ => ⟨j, rest, hq, hj⟩, fun _ => hst⟩

section
variable {pr : Printer}

theorem Printer.sendable.sound (h : pr.sendable) (hst : pr.state ≠ .ready) : pr.sound :=
  (Printer.sound_iff pr).mpr ⟨h, fun hready => absurd hready hst⟩

theorem Printer.sound.sendable (h : pr.sound) : pr.sendable := ((Printer.sound_iff pr).mp h).1

theorem Printer.sound.queue_of_ready (h : pr.sound) : pr.state = .ready → pr.queue = [] := ((Printer.sound_iff pr).mp h).2

theorem Printer.sound.enabled_iff (h : pr.sound) : pr.enabled = false ↔ pr.state = .off := h.sendable.1

theorem Printer.sound.resting (h : pr.sound) (hst : pr.state ≠ .printing) : pr.resting :=
  h.sendable.2.resolve_right fun ⟨hprinting, _⟩ => hst hprinting

theorem Printer.sound.sending (h : pr.sound) (hst : pr.state = .printing) : pr.sending :=
  h.sendable.2.resolve_left fun ⟨hresting, _⟩ => hresting hst

/-! ### Another state or setting (R158, R159, R164) -/

theorem Printer.resting.withState (h : pr.resting) {st : PrinterState} (hst : st ≠ .printing) (enabled : Bool) :
    Printer.resting { pr with state := st, enabled := enabled } := by
  obtain ⟨-, htimer, hwaiting⟩ := h
  exact ⟨hst, htimer, hwaiting⟩

/-- R158: a FAULT in READY or FAULTED. -/
theorem Printer.sound.faulted (h : pr.sound) (hst : pr.state ≠ .printing) (hoff : pr.state ≠ .off) (reason : FaultReason) :
    Printer.sound { pr with state := .faulted reason } :=
  Printer.sendable.sound ⟨by simp [h.enabled_iff, hoff], .inl ((h.resting hst).withState (by simp) pr.enabled)⟩ (by simp)

/-- R159: a READY in FAULTED. -/
theorem Printer.sound.readied (h : pr.sound) (hst : pr.state ≠ .printing) (hoff : pr.state ≠ .off) :
    Printer.sendable { pr with state := .ready } :=
  ⟨by simp [h.enabled_iff, hoff], .inl ((h.resting hst).withState (by simp) pr.enabled)⟩

/-- R164: disabled while not PRINTING. -/
theorem Printer.sound.disabled (h : pr.sound) (hst : pr.state ≠ .printing) :
    Printer.sound { pr with state := .off, enabled := false } :=
  Printer.sendable.sound ⟨by simp, .inl ((h.resting hst).withState (by simp) false)⟩ (by simp)

/-- R164: enabled while OFF. -/
theorem Printer.sound.enabled (h : pr.sound) (hoff : pr.state = .off) :
    Printer.sendable { pr with state := .ready, enabled := true } :=
  ⟨by simp, .inl ((h.resting (by simp [hoff])).withState (by simp) true)⟩

/-! ### The head job returned or printed (R157 to R160) -/

/-- R158, R159, R160, R164: the printer after the return of its head job. -/
def Printer.headReturned (st : PrinterState) (pr : Printer) : Printer :=
  { pr with
    state := st, timer := none
    queue := match pr.queue with | j :: rest => { j with condition := .waiting } :: rest | [] => [] }

theorem Printer.headReturned_queue_length (st : PrinterState) (pr : Printer) :
    (pr.headReturned st).queue.length = pr.queue.length := by
  unfold Printer.headReturned
  split <;> simp [*]

theorem Printer.sending.headReturned (h : pr.sending) {st : PrinterState} (hst : st ≠ .printing) (enabled : Bool) :
    Printer.resting (Printer.headReturned st { pr with enabled := enabled }) := by
  obtain ⟨-, -, j, rest, hq, -, hrest⟩ := h
  exact ⟨hst, rfl, by simpa [Printer.headReturned, hq] using hrest⟩

/-- R158, R159, R160: the printer does not become OFF. -/
theorem Printer.sound.headReturned (h : pr.sound) (hprinting : pr.state = .printing) {st : PrinterState} (hst : st ≠ .printing)
    (hoff : st ≠ .off) : (pr.headReturned st).sendable := by
  refine ⟨?_, .inl ((h.sending hprinting).headReturned hst pr.enabled)⟩
  have henabled := h.enabled_iff
  simp only [hprinting, reduceCtorEq, iff_false] at henabled
  simp [Printer.headReturned, henabled, hoff]

/-- R164: disabled while PRINTING. -/
theorem Printer.sound.headReturned_off (h : pr.sound) (hprinting : pr.state = .printing) :
    (Printer.headReturned .off { pr with enabled := false }).sound :=
  Printer.sendable.sound ⟨by simp [Printer.headReturned], .inl ((h.sending hprinting).headReturned (by simp) false)⟩
    (by simp [Printer.headReturned])

/-- R157: the head job has been printed and has left the queue. -/
theorem Printer.sound.headPrinted (h : pr.sound) (hprinting : pr.state = .printing) {j : Job} {rest : List Job}
    (hq : pr.queue = j :: rest) : Printer.sendable { pr with state := .ready, queue := rest, timer := none } := by
  obtain ⟨-, -, _, _, hq', -, hrest⟩ := h.sending hprinting
  cases hq.symm.trans hq'
  exact ⟨by simp [h.enabled_iff, hprinting], .inl ⟨by simp, rfl, hrest⟩⟩

/-! ### Jobs that join or leave the queue (R155, R162, R163) -/

/-- R155, R163: WAITING jobs join the tail. -/
theorem Printer.sendable.append (h : pr.sendable) {jobs : List Job} (hjobs : ∀ j ∈ jobs, j.condition = .waiting) :
    Printer.sendable { pr with queue := pr.queue ++ jobs } := by
  obtain ⟨henabled, ⟨hst, htimer, hwaiting⟩ | ⟨hst, htimer, j, rest, hq, hj, hrest⟩⟩ := h
  · exact ⟨henabled, .inl ⟨hst, htimer, List.forall_mem_append.mpr ⟨hwaiting, hjobs⟩⟩⟩
  · exact ⟨henabled, .inr ⟨hst, htimer, j, rest ++ jobs, by simp [hq], hj, List.forall_mem_append.mpr ⟨hrest, hjobs⟩⟩⟩

/-- R162: a WAITING job, the first that the search meets, leaves the queue. -/
theorem Printer.sendable.withdrawn (h : pr.sendable) {found : Job → Bool} {j : Job} (hfind : pr.queue.find? found = some j)
    (hj : j.condition = .waiting) : Printer.sendable { pr with queue := pr.queue.eraseP found } := by
  obtain ⟨henabled, ⟨hst, htimer, hwaiting⟩ | ⟨hst, htimer, head, rest, hq, hhead, hrest⟩⟩ := h
  · exact ⟨henabled, .inl ⟨hst, htimer, fun x hx => hwaiting x (List.mem_of_mem_eraseP hx)⟩⟩
  · have hother : ¬found head = true := fun hmet => by
      rw [hq, List.find?_cons_of_pos hmet, Option.some_inj] at hfind
      simp [← hfind, hhead] at hj
    exact ⟨henabled, .inr ⟨hst, htimer, head, rest.eraseP found, by simp [hq, List.eraseP_cons_of_neg hother], hhead,
      fun x hx => hrest x (List.mem_of_mem_eraseP hx)⟩⟩

/-- R163: the WAITING jobs leave; a PRINTING head job stays. -/
theorem Printer.sound.withoutWaiting (h : pr.sound) :
    Printer.sound { pr with queue := pr.queue.filter fun j => decide (j.condition ≠ .waiting) } := by
  refine (Printer.sound_iff _).mpr ⟨⟨h.enabled_iff, ?_⟩, fun hready => by simp [h.queue_of_ready hready]⟩
  obtain ⟨hst, htimer, hwaiting⟩ | ⟨hst, htimer, j, rest, hq, hj, hrest⟩ := h.sendable.2
  · exact .inl ⟨hst, htimer, fun x hx => hwaiting x (List.mem_of_mem_filter hx)⟩
  · have hhead : pr.queue.filter (fun j => decide (j.condition ≠ .waiting)) = [j] := by simpa [hq, hj] using hrest
    exact .inr ⟨hst, htimer, j, [], hhead, hj, by simp⟩

/-! ### The head job sent (R156, R165) -/

/-- R156: the printer after the send of its head job, which only a READY printer with a job makes. -/
def Printer.headSent (pr : Printer) : Printer :=
  match pr.state, pr.queue with
  | .ready, j :: rest =>
    { pr with
      state := .printing, queue := j.sending :: rest, sendNumber := pr.sendNumber + 1, timer := some Config.printTime }
  | _, _ => pr

theorem Printer.headSent_queue_length (pr : Printer) : pr.headSent.queue.length = pr.queue.length := by
  unfold Printer.headSent
  split <;> simp [*]

theorem Printer.sendable.headSent_sound (h : pr.sendable) : pr.headSent.sound := by
  unfold Printer.headSent
  split
  · next j rest hst hq =>
    obtain ⟨henabled, hwork⟩ := h
    obtain ⟨-, -, hwaiting⟩ := hwork.resolve_right fun ⟨hprinting, _⟩ => by simp [hst] at hprinting
    refine Printer.sendable.sound ⟨by simp [henabled, hst], .inr ⟨rfl, rfl, j.sending, rest, rfl, rfl, fun x hx => ?_⟩⟩ (by simp)
    exact hwaiting x (by simp [hq, hx])
  · next hnone =>
    refine (Printer.sound_iff pr).mpr ⟨h, fun hst => ?_⟩
    cases hq : pr.queue with
    | nil => rfl
    | cons j rest => exact (hnone j rest hst hq).elim

/-- R165, R177: a printer rebuilt from the store rests. -/
theorem Printer.rebuilt_sendable (enabled : Bool) (queue : List Job) : (Printer.rebuilt enabled queue).sendable := by
  refine ⟨?_, .inl ⟨?_, rfl, by simp [Printer.rebuilt, Job.stored]⟩⟩ <;> cases enabled <;> simp [Printer.rebuilt]

end

end Sys2Proof.Machine
end

section
/-! ANSWERS. The printers stay sound (O59). -/

namespace Sys2Proof.Machine

/-! ### All printers -/

/-- R153: what `PrintersSound` says while the supply is present. -/
def SpoolSound (s : State) : Prop := ∀ l, (s.printer l).queue.length ≤ 16 ∧ (s.printer l).sound

theorem PrintersSound.spool {s : State} (h : PrintersSound s) (hp : s.power ≠ .off) : SpoolSound s := fun l =>
  ⟨(h l).1, (h l).2 hp⟩

theorem SpoolSound.printers {s : State} (h : SpoolSound s) : PrintersSound s := fun l => ⟨(h l).1, fun _ => (h l).2⟩

theorem SpoolSound.congr {s u : State} (h : SpoolSound s) (hu : u.printers = s.printers) : SpoolSound u := fun l => by
  rw [State.printer, hu]
  exact h l

/-- One printer replaced by a sound one. -/
theorem SpoolSound.replaced {s u : State} (h : SpoolSound s) {l : PrinterId} {pr : Printer} (hpr : pr.sound)
    (hlength : pr.queue.length ≤ 16) (hu : u.printers = tset s.printers l pr) : SpoolSound u := fun m => by
  rw [State.printer, hu, tget_tset]
  split
  · exact ⟨hlength, hpr⟩
  · exact h m

/-! ### Heads sent and returned (R156 to R160) -/

theorem State.sendHead_printers (l : PrinterId) (s : State) :
    (s.sendHead l).printers = tset s.printers l (s.printer l).headSent := by
  unfold State.sendHead
  split
  · next j rest hst hq => simp [Printer.headSent, hst, hq]
  · next hnone =>
    have hsame : (s.printer l).headSent = s.printer l := by
      unfold Printer.headSent
      split
      · next j rest hst hq => exact (hnone j rest hst hq).elim
      · rfl
    rw [hsame]
    exact (tset_tget _ _).symm

theorem State.sendHead_printer (l m : PrinterId) (s : State) :
    (s.sendHead l).printer m = if m = l then (s.printer l).headSent else s.printer m := by
  rw [State.printer, State.sendHead_printers, tget_tset]
  rfl

theorem State.sendHeads_printer (l : PrinterId) (s : State) : s.sendHeads.printer l = (s.printer l).headSent := by
  unfold State.sendHeads
  fin_cases l <;> simp [State.sendHead_printer]

theorem State.returnHead_printers (l : PrinterId) (st : PrinterState) (s : State) :
    (s.returnHead l st).printers = tset s.printers l ((s.printer l).headReturned st) := by
  unfold State.returnHead Printer.headReturned
  split <;> simp [*]

/-- R156: one printer replaced by one whose head job may have to be sent, and that send. -/
theorem SpoolSound.sendHead {s u : State} (h : SpoolSound s) {l : PrinterId} {pr : Printer} (hpr : pr.sendable)
    (hlength : pr.queue.length ≤ 16) (hu : u.printers = tset s.printers l pr) : SpoolSound (u.sendHead l) := by
  have hl : u.printer l = pr := by rw [State.printer, hu, tget_tset_self]
  refine h.replaced (l := l) hpr.headSent_sound ?_ ?_
  · rwa [Printer.headSent_queue_length]
  · rw [State.sendHead_printers, hl, hu, tset_tset]

/-- R157. -/
theorem SpoolSound.finishHead {s : State} (h : SpoolSound s) {l : PrinterId} (hst : (s.printer l).state = .printing) :
    SpoolSound (s.finishHead l) := by
  obtain ⟨hlength, hsound⟩ := h l
  unfold State.finishHead
  split
  · next j rest hq =>
    refine h.sendHead (hsound.headPrinted hst hq) ?_ (by simp)
    exact (Nat.le_succ _).trans (by simpa [hq] using hlength)
  · next hq =>
    obtain ⟨-, -, j, rest, hcons, -⟩ := hsound.sending hst
    simp [hq] at hcons

/-- R158, R160: a PRINTING printer becomes FAULTED. -/
theorem SpoolSound.returnHead_faulted {s : State} (h : SpoolSound s) {l : PrinterId} (hst : (s.printer l).state = .printing)
    (reason : FaultReason) : SpoolSound (s.returnHead l (.faulted reason)) := by
  obtain ⟨hlength, hsound⟩ := h l
  refine h.replaced ((hsound.headReturned hst (st := .faulted reason) (by simp) (by simp)).sound ?_) ?_
    (State.returnHead_printers _ _ _)
  · simp [Printer.headReturned]
  · rwa [Printer.headReturned_queue_length]

/-- R162. -/
theorem SpoolSound.withdrawJob {s : State} (h : SpoolSound s) (num : Nat) : SpoolSound (s.withdrawJob num).1 := by
  unfold State.withdrawJob
  split
  · next l _ =>
    obtain ⟨hlength, hsound⟩ := h l
    split
    · next j hfind =>
      split
      · next hj =>
        refine h.sendHead (hsound.sendable.withdrawn hfind hj) ?_ (by simp)
        exact List.length_eraseP_le.trans hlength
      · exact h
    · exact h
  · exact h

/-- R155: a job joins a queue with room. -/
theorem SpoolSound.queueJob {s u : State} (h : SpoolSound s) (hu : u.printers = s.printers) {l : PrinterId} {j : Job}
    (hroom : (s.printer l).queue.length < 16) (hj : j.condition = .waiting) : SpoolSound (u.queueJob l j) := by
  have hl : u.printer l = s.printer l := by rw [State.printer, hu, State.printer]
  refine h.sendHead (l := l) ((h l).2.sendable.append (jobs := [j]) (by simpa using hj)) ?_ (by simp [hl, hu])
  simpa using hroom

/-! ### What a command must keep -/

/-- The operation keeps every printer sound. -/
def KeepsSpool (f : State → State) : Prop := ∀ s, SpoolSound s → SpoolSound (f s)

theorem KeepsSpool.of_same {f : State → State} (h : ∀ s, (f s).printers = s.printers) : KeepsSpool f :=
  fun s hs => hs.congr (h s)

/-- R176, R177: events reach the printers only while the supply is present. -/
theorem KeepsSpool.running {f : State → State} (hf : KeepsSpool f) {s u : State} (h : PrintersSound s)
    (hu : s.running f = .next u) : PrintersSound u := by
  by_cases hp : s.power = .running
  · rw [State.running_on f s hp] at hu
    cases hu
    exact (hf { s with sent := [] } (h.spool (by simp [hp]))).printers
  · rw [State.running_off f s hp] at hu
    cases hu
    exact h

theorem KeepsSpool.request {α : Type} {serve : α → State → State × Answer} (hserve : ∀ a, KeepsSpool fun s => (serve a s).1)
    (form : RequestForm α) (p : PositionId) (tag : Byte) (payload : List Byte) :
    KeepsSpool (State.request form p tag payload serve) := fun s h => by
  obtain ⟨ports, sent, hs⟩ | ⟨a, ports, sent, hs⟩ := State.request_outcome form p tag payload serve s
  · exact h.congr (by rw [hs])
  · exact (hserve a { s with ports := ports } h).congr (by rw [hs])

theorem KeepsSpool.command {α : Type} {serve : α → State → State × OfficeAnswer}
    (hserve : ∀ a, KeepsSpool fun s => (serve a s).1) (code : Byte) (read : List Byte → Option α) (tag : Byte)
    (payload : List Byte) : KeepsSpool (State.command code read tag payload serve) := fun s h => by
  obtain ⟨port, sent, hs⟩ | ⟨a, port, sent, hs⟩ := State.command_outcome code read tag payload serve s
  · exact h.congr (by rw [hs])
  · exact (hserve a { s with officePort := port } h).congr (by rw [hs])

/-- A request that leaves the printers alone. -/
theorem KeepsSpool.request_same {α : Type} {serve : α → State → State × Answer}
    (hserve : ∀ s a, (serve a s).1.printers = s.printers) (form : RequestForm α) (p : PositionId) (tag : Byte)
    (payload : List Byte) : KeepsSpool (State.request form p tag payload serve) :=
  .request (fun a => .of_same (hserve · a)) form p tag payload

/-- A command that leaves the printers alone. -/
theorem KeepsSpool.command_same {α : Type} {serve : α → State → State × OfficeAnswer}
    (hserve : ∀ s a, (serve a s).1.printers = s.printers) (code : Byte) (read : List Byte → Option α) (tag : Byte)
    (payload : List Byte) : KeepsSpool (State.command code read tag payload serve) :=
  .command (fun a => .of_same (hserve · a)) code read tag payload

/-- A run of events each of which keeps every printer sound. -/
theorem KeepsSpool.foldl {α : Type} {f : State → α → State} (hf : ∀ a, KeepsSpool fun s => f s a) (events : List α) :
    KeepsSpool fun s => events.foldl f s := fun s h => by
  induction events generalizing s with
  | nil => exact h
  | cons a events ih => exact ih _ (hf a s h)

/-! ### ACCEPT and VOID (R155, R162) -/

/-- R134 check 9: the queue of the position's printer has room. -/
theorem acceptChecked_keepsSpool (p : PositionId) (k : Slot) (a : AccountId) (key : Fin 16) (i : Item) (q : Quote) :
    KeepsSpool fun s => (s.acceptChecked p k a key i q).1 := fun s h => by
  unfold State.acceptChecked
  dsimp only
  split
  · exact h
  · split
    · exact h
    · split
      · exact h
      · split
        · split_ifs with _ hfull
          · exact h
          · exact h
          · split
            · exact h
            · next l hl =>
              refine h.queueJob (by simp) ?_ rfl
              simp only [hl, Option.any_some, decide_eq_true_eq, not_or, not_le] at hfull
              exact hfull.2.2
        · exact h

theorem serveAccept_keepsSpool (p : PositionId) (k : Slot) : KeepsSpool fun s => (serveAccept p k s).1 := fun s h => by
  unfold serveAccept
  dsimp only
  split_ifs
  · exact h
  · exact h
  · split
    · exact h
    · split_ifs
      · exact h
      · exact h
      · split
        · exact acceptChecked_keepsSpool p k _ _ _ _ s h
        · exact h

theorem SpoolSound.voidItem {s : State} (h : SpoolSound s) (p : PositionId) (k : Slot) (a : AccountId) (num : Nat) (i : Item)
    (q : Quote) : SpoolSound (s.voidItem p k a num i q) := by
  refine SpoolSound.congr (SpoolSound.withdrawJob ?_ num) (State.setItem_printers _ p k _)
  exact h.congr rfl

theorem serveVoid_keepsSpool (p : PositionId) (k : Slot) : KeepsSpool fun s => (serveVoid p k s).1 := fun s h => by
  unfold serveVoid
  dsimp only
  split
  · exact h
  · split
    · exact h
    · split
      · exact h
      · split
        · split_ifs
          · exact h
          · exact h
          · exact h
          · exact h.voidItem p k _ _ _ _
        · exact h

/-! ### The answers of a printer (R157 to R160, R181) -/

theorem takePrinterAnswer_keepsSpool (l : PrinterId) (a : PrinterAnswer) : KeepsSpool fun s => s.takePrinterAnswer l a := fun s h => by
  obtain ⟨hlength, hsound⟩ := h l
  cases a with
  | done n =>
    simp only [State.takePrinterAnswer, State.takeDone]
    split
    · next hdone => exact h.finishHead hdone.1
    · exact h
  | fault n reason =>
    simp only [State.takePrinterAnswer, State.takeFault]
    split
    · next hst =>
      split
      · exact h.returnHead_faulted hst reason
      · exact h
    · next hst => exact h.replaced (hsound.faulted (by simp [hst]) (by simp [hst]) reason) hlength rfl
    · next hst => exact h.replaced (hsound.faulted (by simp [hst]) (by simp [hst]) reason) hlength rfl
    · exact h
  | ready =>
    simp only [State.takePrinterAnswer, State.takeReady]
    split
    · next hst => exact h.sendHead (hsound.readied (by simp [hst]) (by simp [hst])) hlength rfl
    · next hst =>
      refine h.sendHead (hsound.headReturned hst (st := .ready) (by simp) (by simp)) ?_ (State.returnHead_printers _ _ _)
      rwa [Printer.headReturned_queue_length]
    · exact h
    · exact h

theorem receiveAnswers_keepsSpool (l : PrinterId) (bytes : List Byte) : KeepsSpool (State.receiveAnswers l bytes) := fun _ h =>
  KeepsSpool.foldl (takePrinterAnswer_keepsSpool l) _ _ h

theorem printTimeout_keepsSpool (l : PrinterId) :
    KeepsSpool fun s => if (s.printer l).state = .printing ∧ (s.printer l).timer.isSome then s.returnHead l (.faulted .timeout) else s :=
  fun s h => by
    dsimp only
    split
    · next hrun => exact h.returnHead_faulted hrun.1 .timeout
    · exact h

/-! ### PRINTER and REDIRECT (R163, R164) -/

/-- R164: the setting of a printer has been written, and the printer is treated. -/
theorem SpoolSound.setEnabled {s u : State} (h : SpoolSound s) {l : PrinterId} {enabled : Bool}
    (hu : u.printers = tset s.printers l { s.printer l with enabled := enabled }) : SpoolSound (u.setEnabled l enabled) := by
  obtain ⟨hlength, hsound⟩ := h l
  have hl : u.printer l = { s.printer l with enabled := enabled } := by rw [State.printer, hu, tget_tset_self]
  have hstate : (u.printer l).state = (s.printer l).state := by rw [hl]
  have hset (st : PrinterState) : (u.setPrinter l { u.printer l with state := st }).printers =
      tset s.printers l { s.printer l with state := st, enabled := enabled } := by
    simp [hl, hu]
  have hkept (hon : (s.printer l).enabled = enabled) : SpoolSound u := by
    refine h.congr ?_
    rw [hu, ← hon]
    exact tset_tget _ _
  have hon (hst : (u.printer l).state ≠ .off) : (s.printer l).enabled = true := by
    rw [hstate, ne_eq, ← hsound.enabled_iff] at hst
    simpa using hst
  unfold State.setEnabled
  rw [hstate]
  cases enabled with
  | false =>
    cases hst : (s.printer l).state with
    | printing =>
      refine h.replaced (hsound.headReturned_off hst) ?_ (by rw [State.returnHead_printers, hl, hu, tset_tset])
      rwa [Printer.headReturned_queue_length]
    | ready => exact h.replaced (hsound.disabled (by simp [hst])) hlength (hset .off)
    | faulted r => exact h.replaced (hsound.disabled (by simp [hst])) hlength (hset .off)
    | off => exact hkept (hsound.enabled_iff.mpr hst)
  | true =>
    cases hst : (s.printer l).state with
    | off => exact h.sendHead (hsound.enabled hst) hlength (hset .ready)
    | ready => exact hkept (hon (by simp [hstate, hst]))
    | printing => exact hkept (hon (by simp [hstate, hst]))
    | faulted r => exact hkept (hon (by simp [hstate, hst]))

theorem servePrinter_keepsSpool (x : PrinterId × Bool) : KeepsSpool fun s => (servePrinter x s).1 := fun _ h =>
  h.setEnabled rfl

/-- R163: the source is left with its PRINTING job; the target, with room for the WAITING ones, may have to send its head. -/
theorem serveRedirect_keepsSpool (x : PrinterId × PrinterId) : KeepsSpool fun s => (serveRedirect x s).1 := fun s h => by
  obtain ⟨hsourceLength, hsource⟩ := h x.1
  obtain ⟨htargetLength, htarget⟩ := h x.2
  unfold serveRedirect
  dsimp only
  split_ifs with hsame hoff hroom
  · exact h
  · exact h
  · exact h
  · have hleft : SpoolSound (s.setPrinter x.1
        { s.printer x.1 with queue := (s.printer x.1).queue.filter fun j => decide (j.condition ≠ .waiting) }) :=
      h.replaced hsource.withoutWaiting ((List.length_filter_le _ _).trans hsourceLength) rfl
    refine hleft.sendHead (htarget.sendable.append (jobs := waitingJobs (s.printer x.1).queue) ?_) ?_ (by simp)
    · simp [waitingJobs]
    · simp only [Config.printerQueue, List.length_append] at hroom ⊢
      omega

/-! ### The rebuilding (R165, R177) -/

theorem StoreMatches.queue_length {s : State} (h : StoreMatches s) (l : PrinterId) :
    (tget s.nvs.queues l).length = (s.printer l).queue.length := by
  obtain ⟨-, -, -, -, -, -, -, -, -, -, hprinters⟩ := h
  rw [(hprinters l).2, List.length_map]

theorem State.rebuild_printer (l : PrinterId) (s : State) :
    s.rebuild.printer l = .rebuilt (tget s.nvs.printersEnabled l) (tget s.nvs.queues l) := tget_tbuild _ l

/-- R165: no queue comes back from the store longer than it was. -/
theorem PrintersSound.rebuild_queue_length {s : State} (h : PrintersSound s) (hstore : StoreMatches s) (l : PrinterId) :
    (s.rebuild.printer l).queue.length ≤ 16 := by
  rw [State.rebuild_printer, Printer.rebuilt, List.length_map, hstore.queue_length]
  exact (h l).1

/-- R165, R177: the printers rebuilt from the store, and their head jobs sent. -/
theorem PrintersSound.rebuild_sendHeads {s u : State} (h : PrintersSound s) (hstore : StoreMatches s)
    (hu : u.printers = s.rebuild.printers) : PrintersSound u.sendHeads := by
  refine SpoolSound.printers fun l => ?_
  have hl : u.printer l = s.rebuild.printer l := by rw [State.printer, hu, State.printer]
  rw [State.sendHeads_printer, hl, Printer.headSent_queue_length]
  refine ⟨h.rebuild_queue_length hstore l, Printer.sendable.headSent_sound ?_⟩
  rw [State.rebuild_printer]
  exact Printer.rebuilt_sendable _ _

/-! ### Every command -/

theorem exec_printersSound {s u : State} (hstore : StoreMatches s) (h : PrintersSound s) (c : Instr) (hu : exec c s = .next u) :
    PrintersSound u := by
  cases c with
  | linkUp p => exact KeepsSpool.running (f := fun s => s.setCtx p (s.ctx p).lineUp) (.of_same fun _ => rfl) h hu
  | linkDown p => exact (KeepsSpool.of_same (State.lineDown_printers · p)).running h hu
  | positionFrameReceived p bytes => exact (KeepsSpool.of_same (State.receivePosition_printers · p bytes)).running h hu
  | attach p tag payload => exact (KeepsSpool.request_same (serveAttach_printers · p) _ p tag payload).running h hu
  | detach p tag payload => exact (KeepsSpool.request_same (serveDetach_printers · p) _ p tag payload).running h hu
  | beginTransaction p tag payload => exact (KeepsSpool.request_same (serveBegin_printers · p) _ p tag payload).running h hu
  | add p tag payload => exact (KeepsSpool.request_same (serveAdd_printers · p) _ p tag payload).running h hu
  | amend p tag payload => exact (KeepsSpool.request_same (serveAmend_printers · p) _ p tag payload).running h hu
  | drop p tag payload => exact (KeepsSpool.request_same (serveDrop_printers · p) _ p tag payload).running h hu
  | weigh p tag payload => exact (KeepsSpool.request_same (serveWeigh_printers · p) _ p tag payload).running h hu
  | zero p tag payload => exact (KeepsSpool.request_same (serveZero_printers · p) _ p tag payload).running h hu
  | rate p tag payload => exact (KeepsSpool.request_same (serveRate_printers · p) _ p tag payload).running h hu
  | detail p tag payload => exact (KeepsSpool.request_same (serveDetail_printers · p) _ p tag payload).running h hu
  | accept p tag payload => exact (KeepsSpool.request (serveAccept_keepsSpool p) _ p tag payload).running h hu
  | void p tag payload => exact (KeepsSpool.request (serveVoid_keepsSpool p) _ p tag payload).running h hu
  | cancel p tag payload => exact (KeepsSpool.request_same (serveCancel_printers · p) _ p tag payload).running h hu
  | collect p tag payload => exact (KeepsSpool.request_same (serveCollect_printers · p) _ p tag payload).running h hu
  | finish p tag payload => exact (KeepsSpool.request_same (serveFinish_printers · p) _ p tag payload).running h hu
  | query p tag payload => exact (KeepsSpool.request_same (fun _ _ => rfl) _ p tag payload).running h hu
  | sampleFrame c bytes => exact (KeepsSpool.of_same (State.receiveSamples_printers · c bytes)).running h hu
  | settleTimerExpiry c => exact (KeepsSpool.of_same (State.settle_printers · c)).running h hu
  | weighTimerExpiry c => exact (KeepsSpool.of_same (State.weighTimer_printers · c)).running h hu
  | evaluationStart => exact (KeepsSpool.of_same State.startEvaluation_printers).running h hu
  | checkStep => exact (KeepsSpool.of_same State.checkStep_printers).running h hu
  | termStep => exact (KeepsSpool.of_same State.termStep_printers).running h hu
  | deliveryStep => exact (KeepsSpool.of_same State.deliveryStep_printers).running h hu
  | chainStep => exact (KeepsSpool.of_same State.chainStep_printers).running h hu
  | evaluationHalt => exact (KeepsSpool.of_same State.haltEvaluation_printers).running h hu
  | officeFrameReceived input => exact (KeepsSpool.of_same (f := State.receiveOffice input) fun _ => rfl).running h hu
  | status tag payload => exact (KeepsSpool.command_same (fun _ _ => rfl) _ _ tag payload).running h hu
  | time tag payload => exact (KeepsSpool.command_same (serve := serveTime) (fun _ _ => rfl) _ _ tag payload).running h hu
  | flags tag payload => exact (KeepsSpool.command_same serveFlags_printers _ _ tag payload).running h hu
  | position tag payload => exact (KeepsSpool.command_same servePosition_printers _ _ tag payload).running h hu
  | scale tag payload => exact (KeepsSpool.command_same serveScale_printers _ _ tag payload).running h hu
  | printer tag payload => exact (KeepsSpool.command servePrinter_keepsSpool _ _ tag payload).running h hu
  | redirect tag payload => exact (KeepsSpool.command serveRedirect_keepsSpool _ _ tag payload).running h hu
  | account tag payload => exact (KeepsSpool.command_same serveAccount_printers _ _ tag payload).running h hu
  | credit tag payload => exact (KeepsSpool.command_same serveCredit_printers _ _ tag payload).running h hu
  | block tag payload => exact (KeepsSpool.command_same serveBlock_printers _ _ tag payload).running h hu
  | loadBegin tag payload => exact (KeepsSpool.command_same serveLoadBegin_printers _ _ tag payload).running h hu
  | loadPart tag payload => exact (KeepsSpool.command_same serveLoadPart_printers _ _ tag payload).running h hu
  | loadEnd tag payload => exact (KeepsSpool.command_same serveLoadEnd_printers _ _ tag payload).running h hu
  | loadAbandon tag payload => exact (KeepsSpool.command_same serveLoadAbandon_printers _ _ tag payload).running h hu
  | activate tag payload => exact (KeepsSpool.command_same serveActivate_printers _ _ tag payload).running h hu
  | journalRead tag payload => exact (KeepsSpool.command_same (fun _ _ => rfl) _ _ tag payload).running h hu
  | journalRelease tag payload => exact (KeepsSpool.command_same serveJournalRelease_printers _ _ tag payload).running h hu
  | restart tag payload => exact (KeepsSpool.command_same serveRestart_printers _ _ tag payload).running h hu
  | restartRebuild =>
    simp only [exec, execRestartRebuild] at hu
    split at hu
    · cases hu; exact h.rebuild_sendHeads hstore rfl
    · cases hu; exact h
  | powerOn kept => cases hu; exact h.rebuild_sendHeads hstore rfl
  | supplyFailure =>
    cases hu
    exact fun l => ⟨h.rebuild_queue_length hstore l, fun hp => absurd rfl hp⟩
  | supplySample microvolts => cases hu; exact h
  | tick => exact (KeepsSpool.of_same State.tickTariffs_printers).running (s := { s with clock := s.clock.advanced }) h hu
  | graceExpiry b =>
    simp only [exec, execGraceExpiry] at hu
    refine KeepsSpool.running (KeepsSpool.of_same fun s => ?_) h hu
    split <;> simp
  | loadIdleTimeout b =>
    simp only [exec, execLoadIdleTimeout] at hu
    refine KeepsSpool.running (KeepsSpool.of_same fun s => ?_) h hu
    split <;> simp
  | printerDone l noise n reason check => exact (receiveAnswers_keepsSpool l _).running h hu
  | printerFault l noise n reason check => exact (receiveAnswers_keepsSpool l _).running h hu
  | printerReady l noise n reason check => exact (receiveAnswers_keepsSpool l _).running h hu
  | printTimeout l => exact (printTimeout_keepsSpool l).running h hu
  | unknownRequestCode p code tag payload =>
    simp only [exec, execUnknownRequestCode] at hu
    refine KeepsSpool.running (fun s h => ?_) h hu
    split
    · exact h
    · exact KeepsSpool.request nofun _ p tag payload s h
  | unknownCommandCode code tag payload =>
    simp only [exec, execUnknownCommandCode] at hu
    refine KeepsSpool.running (fun s h => ?_) h hu
    split
    · exact h
    · exact KeepsSpool.command nofun _ _ tag payload s h

/-- Settles O59: each command leaves the printers alone, keeps the one it treats sound, or rebuilds them all from the store. -/
theorem printersStaySound : Obligations.PrintersStaySound := by
  intro s u hstore hsound hstep
  unfold step at hstep
  split at hstep
  · next c rest _ => exact exec_printersSound (s := { s with pending := rest }) hstore hsound c hstep
  · cases hstep; exact hsound

end Sys2Proof.Machine
end

section
/-! ANSWERS. TIME and FLAGS (O34). -/

namespace Sys2Proof.Machine

/-! ### The action bytes of FLAGS (section 11.6) -/

/-- The action that a byte of a FLAGS command names: CLEAR, SET or KEEP. -/
def flagActionOf (b : Byte) : FlagAction := if b = 0x00 then .clear else if b = 0x01 then .set else .keep

theorem readFlagAction_eq {b : Byte} (h : b.toNat ≤ 2) : readFlagAction b = some (flagActionOf b) := by
  unfold readFlagAction flagActionOf
  split_ifs with hclear hset hkeep
  · rfl
  · rfl
  · rfl
  · bv_omega

theorem flagActionOf_eq_keep {b : Byte} (h : b.toNat ≤ 2) : flagActionOf b = .keep ↔ b = 0x02 := by
  unfold flagActionOf
  split_ifs with hclear hset
  · simp [hclear]
  · simp [hset]
  · exact iff_of_true rfl (by bv_omega)

theorem FlagAction.apply_flagActionOf (held : Bool) (b : Byte) :
    (flagActionOf b).apply held = if b = 0x00 then false else if b = 0x01 then true else held := by
  unfold flagActionOf
  split_ifs <;> rfl

theorem mapM_readFlagAction {l : List Byte} (h : ∀ b ∈ l, b.toNat ≤ 2) :
    l.mapM readFlagAction = some (l.map flagActionOf) := by
  induction l with
  | nil => rfl
  | cons b l ih =>
    obtain ⟨hb, hrest⟩ := List.forall_mem_cons.mp h
    simp [readFlagAction_eq hb, ih hrest]

/-- The actions that the eight bytes of a FLAGS command name, flag 0 first. -/
def flagActions (actions : Vector Byte 8) : List FlagAction := List.ofFn fun f => flagActionOf (tget actions f)

theorem readFlags_toList {actions : Vector Byte 8} (h : ∀ f, (tget actions f).toNat ≤ 2) :
    readFlags actions.toList = some (flagActions actions) := by
  have hall : ∀ b ∈ actions.toList, b.toNat ≤ 2 := by
    rw [toList_eq_ofFn]
    exact List.forall_mem_ofFn_iff.mpr h
  rw [readFlags, if_pos actions.length_toList, mapM_readFlagAction hall, toList_eq_ofFn, List.map_ofFn]
  rfl

theorem flagActions_getD (actions : Vector Byte 8) (f : Fin 8) :
    (flagActions actions).getD f.val .keep = flagActionOf (tget actions f) := by
  rw [flagActions, List.getD_eq_getElem?_getD, List.getElem?_ofFn, dif_pos f.isLt]
  rfl

theorem flagActions_all_keep {actions : Vector Byte 8} (h : ∀ f, (tget actions f).toNat ≤ 2) :
    (∀ a ∈ flagActions actions, a = .keep) ↔ ∀ f, tget actions f = 0x02 :=
  List.forall_mem_ofFn_iff.trans (forall_congr' fun f => flagActionOf_eq_keep (h f))

/-! ### The flags after a command (R172) -/

/-- The number whose bits below `n` are the values of `bit`, summed power by power. -/
def numberOfBits (bit : Nat → Bool) (n : Nat) : Nat :=
  (List.range n).foldl (fun acc f => if bit f then acc + 2 ^ f else acc) 0

theorem numberOfBits_succ (bit : Nat → Bool) (n : Nat) :
    numberOfBits bit (n + 1) = if bit n then numberOfBits bit n + 2 ^ n else numberOfBits bit n := by
  simp [numberOfBits, List.range_succ]

theorem numberOfBits_lt (bit : Nat → Bool) (n : Nat) : numberOfBits bit n < 2 ^ n := by
  induction n with
  | zero => exact Nat.one_pos
  | succ n ih =>
    rw [numberOfBits_succ, Nat.pow_succ]
    split <;> omega

theorem numberOfBits_testBit (bit : Nat → Bool) {n i : Nat} (h : i < n) : (numberOfBits bit n).testBit i = bit i := by
  induction n with
  | zero => exact absurd h (Nat.not_lt_zero i)
  | succ n ih =>
    have hlow := numberOfBits_lt bit n
    rw [numberOfBits_succ]
    obtain hi | rfl := Nat.lt_succ_iff_lt_or_eq.mp h
    · split
      · rw [Nat.add_comm, Nat.testBit_two_pow_add_gt hi, ih hi]
      · exact ih hi
    · have hclear := Nat.testBit_lt_two_pow hlow
      split
      · next hset => rw [Nat.add_comm, Nat.testBit_two_pow_add_eq, hclear, hset]; rfl
      · next hunset => rw [hclear, Bool.eq_false_iff.mpr hunset]

theorem flagsAfter_getLsbD (flags : BitVec 8) (actions : List FlagAction) (f : Fin 8) :
    (flagsAfter flags actions).getLsbD f.val = (actions.getD f.val .keep).apply (flags.getLsbD f.val) := by
  have hbits : flagsAfter flags actions =
      BitVec.ofNat 8 (numberOfBits (fun f => (actions.getD f .keep).apply (flags.getLsbD f)) 8) := rfl
  rw [hbits, BitVec.getLsbD_ofNat, decide_eq_true f.isLt, Bool.true_and, numberOfBits_testBit _ f.isLt]

/-- R172: KEEP for all flags changes none. -/
theorem flagsAfter_keep (flags : BitVec 8) {actions : List FlagAction} (h : ∀ a ∈ actions, a = .keep) :
    flagsAfter flags actions = flags := by
  refine BitVec.eq_of_getLsbD_eq fun f hf => ?_
  have hkeep : actions.getD f .keep = .keep := by
    rw [List.getD_eq_getElem?_getD]
    cases hget : actions[f]? with
    | none => rfl
    | some a => exact h a (List.mem_of_getElem? hget)
  rw [flagsAfter_getLsbD flags actions ⟨f, hf⟩, hkeep]
  rfl

/-- R172: the flags take their new values, and the store follows them unless every action is KEEP. -/
theorem serveFlags_eq (actions : List FlagAction) (s : State) :
    serveFlags actions s =
      let flags := flagsAfter s.flags actions
      ({ s with flags := flags, nvs := if ∀ a ∈ actions, a = .keep then s.nvs else { s.nvs with flags := flags } },
        .done [flags]) := by
  by_cases hkeep : ∀ a ∈ actions, a = .keep
  · have hall : (actions.all fun a => decide (a = .keep)) = true := by simpa using hkeep
    simp only [serveFlags, hall, if_pos hkeep, flagsAfter_keep s.flags hkeep, if_true]
  · have hall : ¬ (actions.all fun a => decide (a = .keep)) = true := by simpa using hkeep
    simp only [serveFlags, if_neg hall, if_neg hkeep, State.saveFlags]

/-! ### The commands -/

/-- Settles O34: TIME by the number its four bytes spell; FLAGS by the eight actions its bytes name. -/
theorem timeAndFlagsSet : Obligations.TimeAndFlagsSet := by
  refine ⟨fun tag b0 b1 b2 b3 rest s hw => ?_, fun tag actions rest s hrange hw => ?_⟩
  · have hread : readTime [b0, b1, b2, b3] = some (b3 ++ b2 ++ b1 ++ b0) := congrArg some (readWord32_eq_append b0 b1 b2 b3)
    exact State.running_command_answered (serve := serveTime) hw hread rfl
  · refine ⟨_, State.running_command_answered hw (readFlags_toList hrange) (serveFlags_eq _ _), fun f => ?_, ?_⟩
    · exact (flagsAfter_getLsbD s.flags _ f).trans (by rw [flagActions_getD, FlagAction.apply_flagActionOf])
    · simp only [flagActions_all_keep hrange]
      rfl

end Sys2Proof.Machine
end

section
/-! ANSWERS. The queue of commands (O1). -/

namespace Sys2Proof.Machine

/-- The front command finds itself already taken off the queue when it runs. -/
theorem step_of_pending_cons {s : State} {c : Instr} {rest : List Instr} (h : s.pending = c :: rest) :
    step s = exec c { s with pending := rest } := by
  rw [step, h]

/-- The idling on an empty queue (log 1). -/
theorem step_of_pending_nil {s : State} (h : s.pending = []) : step s = .next s := by
  rw [step, h]

/-- Settles O1, by the two shapes of the queue. -/
theorem queueFrontRuns : Obligations.QueueFrontRuns :=
  ⟨fun _ _ _ => step_of_pending_cons rfl, fun _ => step_of_pending_nil⟩

end Sys2Proof.Machine
end

section
/-! SUPPORT. The outline of the module: the contexts without what their items hold, the ports, the waiting commands, and the work of each position (R17, R61, R78, R161): records, weigh, rating, label jobs and places in the rating work. The shared operations of Ops.lean that write items, banks, accounts and printers keep it. -/

namespace Sys2Proof.Machine

/-! ### The work of a position and the outline of the module -/

/-- R1: a context without what its items hold, and whether a transaction is open. -/
def PositionContext.outline (c : PositionContext) : PositionContext × Bool :=
  ({ c with transaction := none }, c.transaction.isSome)

/-- R17, R78, R161: the records a position holds, its weigh and rating in flight, its label jobs by the spool's count and in the queues, and its places in the rating work. -/
structure Work where
  records : Nat
  weigh : Option Slot
  rating : Bool
  counted : Nat
  jobs : Nat
  places : Nat

def State.work (s : State) (p : PositionId) : Work :=
  { records := (s.ctx p).completions.length, weigh := (s.ctx p).weigh, rating := (s.ctx p).rating,
    counted := tget s.labelCounts p, jobs := s.labelsOf p, places := s.ratingsOf p }

/-- Between the two states neither a context but for what its items hold, nor a port, a waiting command, the work of a position or the weigh of a channel has changed. -/
structure OutlineKept (s u : State) : Prop where
  pending : u.pending = s.pending
  ports : u.ports = s.ports
  officePort : u.officePort = s.officePort
  contexts : ∀ p, (u.ctx p).outline = (s.ctx p).outline
  work : ∀ p, u.work p = s.work p
  weighs : ∀ c, (u.channel c).weigh = (s.channel c).weigh

theorem OutlineKept.refl (s : State) : OutlineKept s s := ⟨rfl, rfl, rfl, fun _ => rfl, fun _ => rfl, fun _ => rfl⟩

theorem OutlineKept.trans {s u v : State} (h : OutlineKept s u) (h' : OutlineKept u v) : OutlineKept s v :=
  ⟨h'.pending.trans h.pending, h'.ports.trans h.ports, h'.officePort.trans h.officePort,
    fun p => (h'.contexts p).trans (h.contexts p), fun p => (h'.work p).trans (h.work p),
    fun c => (h'.weighs c).trans (h.weighs c)⟩

/-! ### The work after the write of one unit -/

/-- The work of a position whose context becomes `c`. -/
def Work.under (w : Work) (c : PositionContext) : Work :=
  { w with records := c.completions.length, weigh := c.weigh, rating := c.rating }

theorem State.work_setCtx (p q : PositionId) (c : PositionContext) (s : State) :
    (s.setCtx p c).work q = if q = p then (s.work p).under c else s.work q := by
  split
  · next h => subst h; simp only [State.work, State.setCtx_ctx_self]; rfl
  · next h => simp only [State.work, State.setCtx_ctx_ne _ _ _ _ h]; rfl

/-- R153: the jobs of a position in the queue of one printer. -/
def Printer.jobsOf (pr : Printer) (p : PositionId) : Nat := pr.queue.countP fun j => decide (j.position = p)

theorem State.labelsOf_eq (s : State) (p : PositionId) : s.labelsOf p = ∑ l, (s.printer l).jobsOf p := sum_toList_map _ _

/-- R153: one printer replaced: the jobs of a position change by what its queue gains or loses. -/
theorem State.labelsOf_replaced {s u : State} {l : PrinterId} {pr : Printer} (hu : u.printers = tset s.printers l pr) (p : PositionId) :
    u.labelsOf p + (s.printer l).jobsOf p = s.labelsOf p + pr.jobsOf p := by
  have hother : ∀ m ∈ Finset.univ.erase l, (u.printer m).jobsOf p = (s.printer m).jobsOf p := fun m hm => by
    rw [State.printer, hu, tget_tset_ne _ _ _ _ (Finset.ne_of_mem_erase hm)]
    rfl
  have hself : u.printer l = pr := by rw [State.printer, hu, tget_tset_self]
  rw [State.labelsOf_eq, State.labelsOf_eq, ← Finset.add_sum_erase _ _ (Finset.mem_univ l),
    ← Finset.add_sum_erase _ _ (Finset.mem_univ l), Finset.sum_congr rfl hother, hself]
  omega

/-- R78: the places of a position in the rating work, an abandoned evaluation not counted. -/
def Evaluator.placesOf (e : Evaluator) (p : PositionId) : Nat :=
  (e.queue.countP fun op => decide (op.position = p)) +
    match e.state with
    | .idle => 0
    | .chaining op => if op.position = p then 1 else 0
    | .evaluating op ev => if op.position = p ∧ ev.halt ≠ some .abandoned then 1 else 0

theorem State.ratingsOf_eq (s : State) (p : PositionId) : s.ratingsOf p = s.evaluator.placesOf p := rfl

section
variable {s u : State}

/-- The work of a position is read off the outline of its context, the spool and the evaluator. -/
theorem State.work_congr {p : PositionId} (hctx : (u.ctx p).outline = (s.ctx p).outline)
    (hcounted : tget u.labelCounts p = tget s.labelCounts p) (hjobs : u.labelsOf p = s.labelsOf p)
    (hplaces : u.ratingsOf p = s.ratingsOf p) : u.work p = s.work p := by
  obtain ⟨hsame, -⟩ := Prod.mk.inj hctx
  obtain ⟨-, -, -, -, -, -, hrecords, hweigh, hrating⟩ := PositionContext.mk.inj hsame
  simp only [State.work, hrecords, hweigh, hrating, hcounted, hjobs, hplaces]

theorem OutlineKept.setCtx (h : OutlineKept s u) {p : PositionId} {c : PositionContext} (hc : c.outline = (u.ctx p).outline) :
    OutlineKept s (u.setCtx p c) := by
  have hctx : ∀ q, ((u.setCtx p c).ctx q).outline = (u.ctx q).outline := fun q => by
    by_cases hq : q = p
    · rw [hq, State.setCtx_ctx_self, hc]
    · rw [State.setCtx_ctx_ne _ _ _ _ hq]
  exact h.trans ⟨rfl, rfl, rfl, hctx, fun q => State.work_congr (hctx q) rfl rfl rfl, fun _ => rfl⟩

theorem OutlineKept.setChannel (h : OutlineKept s u) {c : ChannelId} {ch : Channel} (hc : ch.weigh = (u.channel c).weigh) :
    OutlineKept s (u.setChannel c ch) := by
  refine h.trans ⟨rfl, rfl, rfl, fun _ => rfl, fun _ => rfl, fun d => ?_⟩
  by_cases hd : d = c
  · rw [hd, State.setChannel_channel_self, hc]
  · rw [State.setChannel_channel_ne _ _ _ _ hd]

/-- The jobs of a queue that come from the same positions in the same order count the same. -/
theorem Printer.jobsOf_congr {pr pr' : Printer} (h : pr'.queue.map Job.position = pr.queue.map Job.position) (p : PositionId) :
    pr'.jobsOf p = pr.jobsOf p := by
  have hmap : ∀ queue : List Job, queue.countP (fun j => decide (j.position = p)) =
      (queue.map Job.position).countP fun q => decide (q = p) := fun queue => by rw [List.countP_map]; rfl
  rw [Printer.jobsOf, Printer.jobsOf, hmap, hmap, h]

theorem OutlineKept.setPrinter (h : OutlineKept s u) {l : PrinterId} {pr : Printer}
    (hq : pr.queue.map Job.position = (u.printer l).queue.map Job.position) : OutlineKept s (u.setPrinter l pr) := by
  refine h.trans ⟨rfl, rfl, rfl, fun _ => rfl, fun p => ?_, fun _ => rfl⟩
  have hjobs := State.labelsOf_replaced (State.setPrinter_printers l pr u) p
  rw [Printer.jobsOf_congr hq] at hjobs
  exact congrArg (fun n => { u.work p with jobs := n }) (Nat.add_right_cancel hjobs)

theorem OutlineKept.setEvaluator (h : OutlineKept s u) {e : Evaluator} (he : ∀ p, e.placesOf p = u.evaluator.placesOf p) :
    OutlineKept s { u with evaluator := e } :=
  h.trans ⟨rfl, rfl, rfl, fun _ => rfl, fun p => congrArg (fun n => { u.work p with places := n }) (he p), fun _ => rfl⟩

/-! ### References and items (R33, R116) -/

theorem OutlineKept.setTariffs (h : OutlineKept s u) {v : State} (hv : ∃ ts, v = { u with tariffs := ts }) : OutlineKept s v := by
  obtain ⟨ts, rfl⟩ := hv
  exact h.trans ⟨rfl, rfl, rfl, fun _ => rfl, fun _ => rfl, fun _ => rfl⟩

theorem OutlineKept.setBank (h : OutlineKept s u) (b : BankId) (bk : Bank) : OutlineKept s (u.setBank b bk) :=
  h.setTariffs (State.setBank_shape b bk u)

theorem OutlineKept.release (h : OutlineKept s u) (b : BankId) : OutlineKept s (u.release b) := h.setTariffs (State.release_shape b u)

theorem OutlineKept.releaseQuote (h : OutlineKept s u) (i : Item) : OutlineKept s (u.releaseQuote i) :=
  h.setTariffs (State.releaseQuote_shape i u)

theorem OutlineKept.releaseAll (h : OutlineKept s u) (t : Transaction) : OutlineKept s (u.releaseAll t) :=
  h.setTariffs (State.releaseAll_shape t u)

theorem OutlineKept.setItem (h : OutlineKept s u) (p : PositionId) (k : Slot) (o : Option Item) : OutlineKept s (u.setItem p k o) := by
  unfold State.setItem
  split
  · next t ht => exact h.setCtx (by simp [PositionContext.outline, ht])
  · exact h

theorem OutlineKept.requote (h : OutlineKept s u) (p : PositionId) (k : Slot) (st : ItemState) : OutlineKept s (u.requote p k st) := by
  unfold State.requote
  split
  · exact (h.releaseQuote _).setItem p k _
  · exact h

theorem OutlineKept.returnItem (h : OutlineKept s u) (p : PositionId) (k : Slot) : OutlineKept s (u.returnItem p k) := by
  unfold State.returnItem
  split
  · split
    · exact h.setItem p k _
    · exact h
  · exact h

theorem OutlineKept.applyWeighEnd (h : OutlineKept s u) (p : PositionId) (k : Slot) (status : Reason) (reading : Nat) :
    OutlineKept s (u.applyWeighEnd p k status reading) := by
  unfold State.applyWeighEnd
  split
  · split
    · exact h.setItem p k _
    · exact h
  · exact h

theorem OutlineKept.storeQuote (h : OutlineKept s u) (p : PositionId) (k : Slot) (q : Quote) :
    OutlineKept s (u.storeQuote p k q) := by
  unfold State.storeQuote
  split
  · split
    · exact h.setItem p k _
    · exact h
  · exact h

/-! ### Accounts, journal and allocator (R126, R139, R143) -/

theorem OutlineKept.updateAccount (h : OutlineKept s u) (a : AccountId) (x : Account) : OutlineKept s (u.updateAccount a x) :=
  h.trans ⟨rfl, rfl, rfl, fun _ => rfl, fun _ => rfl, fun _ => rfl⟩

theorem OutlineKept.appendEntry (h : OutlineKept s u) (a : AccountId) (e : JournalEvent) : OutlineKept s (u.appendEntry a e) :=
  h.trans ⟨rfl, rfl, rfl, fun _ => rfl, fun _ => rfl, fun _ => rfl⟩

/-! ### Labels (R41, R156 to R165) -/

theorem OutlineKept.reportLabel (h : OutlineKept s u) (p : PositionId) (num : Nat) (st : LabelState) :
    OutlineKept s (u.reportLabel p num st) := by
  unfold State.reportLabel
  split
  · next t ht => exact h.setCtx (by simp [PositionContext.outline, ht])
  · exact h

theorem OutlineKept.reportMoved (h : OutlineKept s u) (jobs : List Job) : OutlineKept s (u.reportMoved jobs) := by
  unfold State.reportMoved
  induction jobs generalizing u with
  | nil => exact h
  | cons j js ih => exact ih (h.reportLabel _ _ _)

theorem OutlineKept.saveQueue (h : OutlineKept s u) (l : PrinterId) : OutlineKept s (u.saveQueue l) :=
  h.trans ⟨rfl, rfl, rfl, fun _ => rfl, fun _ => rfl, fun _ => rfl⟩

theorem OutlineKept.emit (h : OutlineKept s u) (x : Sent) : OutlineKept s (u.emit x) :=
  h.trans ⟨rfl, rfl, rfl, fun _ => rfl, fun _ => rfl, fun _ => rfl⟩

theorem OutlineKept.sendHead (h : OutlineKept s u) (l : PrinterId) : OutlineKept s (u.sendHead l) := by
  unfold State.sendHead
  split
  · next hq => exact (((h.setPrinter (by rw [hq]; rfl)).saveQueue l).emit _).reportLabel _ _ _
  · exact h

theorem OutlineKept.sendHeads (h : OutlineKept s u) : OutlineKept s u.sendHeads :=
  (((h.sendHead 0).sendHead 1).sendHead 2).sendHead 3

theorem OutlineKept.returnHead (h : OutlineKept s u) (l : PrinterId) (st : PrinterState) : OutlineKept s (u.returnHead l st) := by
  unfold State.returnHead
  split
  · next hq => exact (h.setPrinter (by rw [hq]; rfl)).reportLabel _ _ _
  · exact h.setPrinter rfl

/-! ### The tariff store (R104, R114, R118, R119) -/

theorem PositionContext.markStale_outline (b : BankId) (g : Option Word16) (c : PositionContext) :
    (c.markStale b g).outline = c.outline := by
  rw [PositionContext.markStale_eq, PositionContext.outline, Option.isSome_map]
  rfl

/-- R104: the notice to halt RE-RATE leaves every place in the rating work. -/
theorem Evaluator.notice_placesOf (b : BankId) (g : Option Word16) (e : Evaluator) (p : PositionId) :
    (e.notice b g).placesOf p = e.placesOf p := by
  unfold Evaluator.notice
  split
  · next op ev he =>
    split
    · next hhalt => simp [Evaluator.placesOf, he, hhalt.2.2]
    · rfl
  · rfl
  · rfl

theorem OutlineKept.expireGrace (h : OutlineKept s u) (b : BankId) : OutlineKept s (u.expireGrace b) := by
  have hmarked : OutlineKept u { u with
      positions := tbuild 16 fun p => (u.ctx p).markStale b (u.bank b).generation } := by
    have hctx : ∀ p, (State.ctx { u with
        positions := tbuild 16 fun p => (u.ctx p).markStale b (u.bank b).generation } p).outline = (u.ctx p).outline :=
      fun p => by rw [State.ctx, tget_tbuild, PositionContext.markStale_outline]
    exact ⟨rfl, rfl, rfl, hctx, fun p => State.work_congr (hctx p) rfl rfl rfl, fun _ => rfl⟩
  exact ((h.trans hmarked).setEvaluator (Evaluator.notice_placesOf b (u.bank b).generation u.evaluator)).setBank b _

theorem OutlineKept.activate (h : OutlineKept s u) (b : BankId) : OutlineKept s (u.activate b) := by
  have hactive : OutlineKept s
      ((u.setBank b { u.bank b with state := .active }).setBank b.other
        ((u.bank b.other).superseded ((u.bank b).grace.getD 0) (u.bank b).effective)).saveTariffs :=
    ((h.setBank b _).setBank b.other _).trans ⟨rfl, rfl, rfl, fun _ => rfl, fun _ => rfl, fun _ => rfl⟩
  unfold State.activate
  dsimp only
  split
  · exact hactive.expireGrace _
  · exact hactive

theorem OutlineKept.tickGrace (h : OutlineKept s u) (b : BankId) : OutlineKept s (u.tickGrace b) := by
  unfold State.tickGrace
  split
  · split
    · exact h.expireGrace b
    · exact h.setBank b _
  · exact h

end

end Sys2Proof.Machine
end

section
/-! SUPPORT. What a step keeps of the contexts (R1), the ports (R6, R168), the budgets and the rating work (R17, R61, R78, R161), and of the queue of commands: the relation `Lawful`, and the changes of one context, of the evaluator and of the spool that are lawful. -/

namespace Sys2Proof.Machine

/-! ### The two relations -/

/-- The step leaves the waiting commands and keeps the contexts and ports legal. -/
structure LegalStep (s u : State) : Prop where
  pending : u.pending = s.pending
  legal : ContextsLegal s → ContextsLegal u

/-- A legal step that also keeps the work of the positions counted. -/
structure Lawful (s u : State) : Prop extends LegalStep s u where
  counted : WorkCounted s → WorkCounted u

theorem LegalStep.refl (s : State) : LegalStep s s := ⟨rfl, id⟩

theorem LegalStep.trans {s u v : State} (h : LegalStep s u) (h' : LegalStep u v) : LegalStep s v :=
  ⟨h'.pending.trans h.pending, h'.legal ∘ h.legal⟩

theorem Lawful.refl (s : State) : Lawful s s := ⟨.refl s, id⟩

theorem Lawful.trans {s u v : State} (h : Lawful s u) (h' : Lawful u v) : Lawful s v :=
  ⟨h.toLegalStep.trans h'.toLegalStep, h'.counted ∘ h.counted⟩

/-! ### What R17, R78 and R161 say of the work of one position -/

/-- R17: the budget total. -/
def Work.budget (w : Work) : Nat := w.records + (w.weigh.toList.length + if w.rating = true then 1 else 0) + w.counted

/-- R17, R78, R161: what `WorkCounted` says of one position. -/
def Work.fits (w : Work) : Prop :=
  w.budget ≤ 8 ∧ w.jobs ≤ 4 ∧ w.counted = w.jobs ∧ w.places ≤ if w.rating then 1 else 0

/-- R61: what `WorkCounted` says of the weighs that channels hold. -/
def WeighsHeld (s : State) : Prop :=
  ∀ c p k, (s.channel c).weigh = .waiting p k →
    (s.ctx p).weigh = some k ∧ ∀ d m, (s.channel d).weigh = .waiting p m → d = c

/-- R17: the budget total, part by part. -/
theorem Work.budget_eq (records counted jobs places : Nat) (weigh : Option Slot) (rating : Bool) :
    Work.budget ⟨records, weigh, rating, counted, jobs, places⟩ =
      records + (if weigh.isSome then 1 else 0) + (if rating then 1 else 0) + counted := by
  cases weigh <;> cases rating <;> rfl

theorem workCounted_iff (s : State) : WorkCounted s ↔ (∀ p, (s.work p).fits) ∧ WeighsHeld s := Iff.rfl

theorem State.budgetTotal_eq (s : State) (p : PositionId) : s.budgetTotal p = (s.work p).budget := rfl

/-- R61: every weigh held by a channel of `u` was held by it in `s`, for a position with the same weigh in flight. -/
theorem WeighsHeld.fewer {s u : State} (h : WeighsHeld s)
    (hfewer : ∀ c p k, (u.channel c).weigh = .waiting p k →
      (s.channel c).weigh = .waiting p k ∧ (u.ctx p).weigh = (s.ctx p).weigh) : WeighsHeld u := fun c p k hc => by
  obtain ⟨hold, hsame⟩ := hfewer c p k hc
  obtain ⟨hweigh, hone⟩ := h c p k hold
  exact ⟨hsame.trans hweigh, fun d m hd => hone d m (hfewer d p m hd).1⟩

/-! ### Steps that keep the outline -/

/-- R1: what is legal in a context does not depend on what its items hold. -/
theorem PositionContext.legal_congr {c c' : PositionContext} (h : c'.outline = c.outline) (hc : c.legal) : c'.legal := by
  obtain ⟨hsame, hopen⟩ := Prod.mk.inj h
  obtain ⟨hconfig, hstate, hline, haccount, hkey, -, hrecords, hweigh, hrating⟩ := PositionContext.mk.inj hsame
  unfold PositionContext.legal at hc ⊢
  rwa [hconfig, hstate, hline, haccount, hkey, hrecords, hweigh, hrating, hopen]

theorem OutlineKept.lawful {s u : State} (h : OutlineKept s u) : Lawful s u := by
  refine ⟨⟨h.pending, fun ⟨hpositions, hoffice⟩ => ⟨fun p => ⟨?_, ?_⟩, ?_⟩⟩, fun hs => ?_⟩
  · exact PositionContext.legal_congr (h.contexts p) (hpositions p).1
  · rw [h.ports]; exact (hpositions p).2
  · rw [h.officePort]; exact hoffice
  · obtain ⟨hfits, hheld⟩ := (workCounted_iff s).mp hs
    refine (workCounted_iff u).mpr ⟨fun p => by rw [h.work]; exact hfits p, hheld.fewer fun c p k hc => ?_⟩
    exact ⟨h.weighs c ▸ hc, congrArg Work.weigh (h.work p)⟩

theorem OutlineKept.of_legalStep {s u v : State} (h : LegalStep s u) (h' : OutlineKept u v) : LegalStep s v :=
  h.trans h'.lawful.toLegalStep

/-- The evaluator set aside, what is kept is kept. -/
theorem OutlineKept.withEvaluator {s u : State} (h : OutlineKept s u) (e : Evaluator) :
    OutlineKept { s with evaluator := e } { u with evaluator := e } :=
  ⟨h.pending, h.ports, h.officePort, h.contexts,
    fun p => State.work_congr (h.contexts p) (congrArg Work.counted (h.work p)) (congrArg Work.jobs (h.work p)) rfl, h.weighs⟩

/-! ### One context replaced -/

theorem ContextsLegal.setCtx {s : State} (h : ContextsLegal s) {p : PositionId} {c : PositionContext} (hc : c.legal) :
    ContextsLegal (s.setCtx p c) := by
  obtain ⟨hpositions, hoffice⟩ := h
  refine ⟨fun q => ⟨?_, (hpositions q).2⟩, hoffice⟩
  by_cases hq : q = p
  · rw [hq, State.setCtx_ctx_self]; exact hc
  · rw [State.setCtx_ctx_ne _ _ _ _ hq]; exact (hpositions q).1

theorem LegalStep.setCtx {s : State} {p : PositionId} {c : PositionContext} (hc : (s.ctx p).legal → c.legal) :
    LegalStep s (s.setCtx p c) :=
  ⟨rfl, fun h => h.setCtx (hc (h.1 p).1)⟩

section
variable {s u : State}

/-- R17, R61: the context of a position is replaced by one whose work fits; the weigh in flight stays, or no channel holds it. -/
theorem WorkCounted.setCtx (h : WorkCounted s) {p : PositionId} {c : PositionContext}
    (hfits : ((s.work p).under c).fits)
    (hweigh : c.weigh = (s.ctx p).weigh ∨ ∀ ch k, (s.channel ch).weigh ≠ .waiting p k) : WorkCounted (s.setCtx p c) := by
  obtain ⟨hs, hheld⟩ := (workCounted_iff s).mp h
  refine (workCounted_iff _).mpr ⟨fun q => ?_, hheld.fewer fun ch q k hch => ⟨hch, ?_⟩⟩
  · rw [State.work_setCtx]
    split
    · exact hfits
    · exact hs q
  · by_cases hq : q = p
    · subst hq
      rw [State.setCtx_ctx_self]
      exact hweigh.resolve_right fun hnone => hnone ch k hch
    · rw [State.setCtx_ctx_ne _ _ _ _ hq]

/-- A context that holds as many records, the same weigh and the same rating. -/
theorem Lawful.setCtx_same {p : PositionId} {c : PositionContext} (hlegal : (s.ctx p).legal → c.legal)
    (hrecords : c.completions = (s.ctx p).completions) (hweigh : c.weigh = (s.ctx p).weigh)
    (hrating : c.rating = (s.ctx p).rating) : Lawful s (s.setCtx p c) := by
  refine ⟨.setCtx hlegal, fun h => h.setCtx ?_ (.inl hweigh)⟩
  rw [Work.under, hrecords, hweigh, hrating]
  exact ((workCounted_iff s).mp h).1 p

/-! ### Completion records (R16, R19) -/

theorem PositionState.not_clerked {st : PositionState} (h : st = .offline ∨ st = .linked) : ¬st.clerked = true := by
  obtain rfl | rfl := h <;> exact nofun

theorem LegalStep.handCompletion (p : PositionId) (r : Completion) : LegalStep s (s.handCompletion p r) := by
  have hctx (hclerked : (s.ctx p).state.clerked = true) :
      LegalStep s (s.setCtx p { s.ctx p with completions := (s.ctx p).completions ++ [r] }) :=
    .setCtx fun ⟨hopen, haccount, hkey, _, hidle, hline⟩ =>
      ⟨hopen, haccount, hkey, fun hst => absurd hclerked (PositionState.not_clerked hst), hidle, hline⟩
  unfold State.handCompletion
  dsimp only
  split
  · next hclerked =>
    split
    · exact (hctx hclerked).trans ((OutlineKept.refl _).emit _).lawful.toLegalStep
    · exact hctx hclerked
  · exact .refl s

/-- R17: a record for a position with room in its budget. -/
theorem WorkCounted.handCompletion (h : WorkCounted s) {p : PositionId} (hroom : (s.work p).budget < 8) (r : Completion) :
    WorkCounted (s.handCompletion p r) := by
  have hctx : WorkCounted (s.setCtx p { s.ctx p with completions := (s.ctx p).completions ++ [r] }) := by
    obtain ⟨-, hjobs, hcounted, hplaces⟩ := ((workCounted_iff s).mp h).1 p
    refine h.setCtx ⟨?_, hjobs, hcounted, hplaces⟩ (.inl rfl)
    simp only [State.work, Work.under, Work.budget_eq, List.length_append, List.length_singleton] at hroom ⊢
    omega
  unfold State.handCompletion
  dsimp only
  split
  · split
    · exact ((OutlineKept.refl _).emit _).lawful.counted hctx
    · exact hctx
  · exact h

/-! ### Weighs (R35, R56, R57, R61) -/

theorem LegalStep.finishWeigh (p : PositionId) (k : Slot) (status : Reason) (reading : Nat) :
    LegalStep s (s.finishWeigh p k status reading) := by
  have happly := ((OutlineKept.refl s).applyWeighEnd p k status reading).lawful.toLegalStep
  refine (happly.trans (.setCtx fun ⟨hopen, haccount, hkey, hrecords, hidle, hline⟩ => ?_)).trans (.handCompletion p _)
  exact ⟨hopen, haccount, hkey, hrecords, fun hst => ⟨rfl, (hidle hst).2⟩, hline⟩

/-- R57: the end of a weigh in flight that no channel holds any more. -/
theorem WorkCounted.finishWeigh (h : WorkCounted s) {p : PositionId} (hweigh : (s.ctx p).weigh.isSome = true)
    (hfree : ∀ c m, (s.channel c).weigh ≠ .waiting p m) (k : Slot) (status : Reason) (reading : Nat) :
    WorkCounted (s.finishWeigh p k status reading) := by
  have happly := (OutlineKept.refl s).applyWeighEnd p k status reading
  have hwork := happly.work p
  have happlied := happly.lawful.counted h
  unfold State.finishWeigh
  generalize s.applyWeighEnd p k status reading = s1 at happly hwork happlied ⊢
  obtain ⟨hbudget, hjobs, hcounted, hplaces⟩ := ((workCounted_iff s1).mp happlied).1 p
  have hroom : ((s1.work p).under { s1.ctx p with weigh := none }).budget < 8 := by
    have hsome : (s1.ctx p).weigh.isSome = true := (congrArg (fun w => w.weigh.isSome) hwork).trans hweigh
    simp only [State.work, Work.under, Work.budget_eq, hsome, Option.isSome_none, Bool.false_eq_true, if_true, if_false] at hbudget ⊢
    omega
  refine WorkCounted.handCompletion (happlied.setCtx ⟨hroom.le, hjobs, hcounted, hplaces⟩ (.inr fun c m => ?_)) ?_ _
  · rw [happly.weighs]; exact hfree c m
  · rw [State.work_setCtx, if_pos rfl]; exact hroom

/-- R57: a channel gives its weigh up. -/
theorem Lawful.freeChannel (c : ChannelId) : Lawful s (s.setChannel c (s.channel c).freed) := by
  refine ⟨⟨rfl, id⟩, fun h => ?_⟩
  obtain ⟨hs, hheld⟩ := (workCounted_iff s).mp h
  refine (workCounted_iff _).mpr ⟨hs, hheld.fewer fun d q k hd => ⟨?_, rfl⟩⟩
  by_cases hdc : d = c
  · rw [hdc, State.setChannel_channel_self] at hd; cases hd
  · rwa [State.setChannel_channel_ne _ _ _ _ hdc] at hd

/-- R57: the end of a WAITING weigh. -/
theorem Lawful.endWeigh (c : ChannelId) (status : Reason) (reading : Nat) : Lawful s (s.endWeigh c status reading) := by
  unfold State.endWeigh
  split
  · next p k hc =>
    have hfree : Lawful s (s.setChannel c (s.channel c).freed) := .freeChannel c
    refine ⟨hfree.toLegalStep.trans (.finishWeigh p k status reading), fun h => ?_⟩
    obtain ⟨hweigh, hone⟩ := h.2 c p k hc
    refine (hfree.counted h).finishWeigh (by exact hweigh ▸ rfl) (fun d m hd => ?_) k status reading
    by_cases hdc : d = c
    · rw [hdc, State.setChannel_channel_self] at hd; cases hd
    · rw [State.setChannel_channel_ne _ _ _ _ hdc] at hd
      exact hdc (hone d m hd)
  · exact .refl s

/-! ### The rating work (R78, R100, R103) -/

/-- R78: places given up at the evaluator. -/
theorem Lawful.setEvaluator {e : Evaluator} (he : ∀ p, e.placesOf p ≤ s.evaluator.placesOf p) : Lawful s { s with evaluator := e } := by
  refine ⟨⟨rfl, id⟩, fun h => ?_⟩
  obtain ⟨hs, hheld⟩ := (workCounted_iff s).mp h
  refine (workCounted_iff _).mpr ⟨fun p => ?_, hheld⟩
  obtain ⟨hbudget, hjobs, hcounted, hplaces⟩ := hs p
  exact ⟨hbudget, hjobs, hcounted, (he p).trans hplaces⟩

/-- R78: a position that has a place in the rating work has its rating in flight, and no other place. -/
theorem WorkCounted.rating_of_place (h : WorkCounted s) {p : PositionId} {n : Nat} (hn : n < s.ratingsOf p) :
    (s.ctx p).rating = true ∧ n = 0 := by
  obtain ⟨-, -, -, hplaces⟩ := ((workCounted_iff s).mp h).1 p
  cases hr : (s.ctx p).rating with
  | true =>
    simp only [State.work, hr, if_true] at hplaces
    exact ⟨rfl, by omega⟩
  | false =>
    simp only [State.work, hr, Bool.false_eq_true, if_false] at hplaces
    omega

theorem LegalStep.handRateDone (op : Operation) (last : Slot) (status : Reason) : LegalStep s (s.handRateDone op last status) :=
  LegalStep.trans
    (.setCtx fun ⟨hopen, haccount, hkey, hrecords, hidle, hline⟩ =>
      ⟨hopen, haccount, hkey, hrecords, fun hst => ⟨(hidle hst).1, rfl⟩, hline⟩)
    (.handCompletion op.position _)

/-- R100: the RATE-DONE of a rating in flight that has no place left in the rating work. -/
theorem WorkCounted.handRateDone (h : WorkCounted s) {op : Operation} (hr : (s.ctx op.position).rating = true)
    (hplaces : s.ratingsOf op.position = 0) (last : Slot) (status : Reason) : WorkCounted (s.handRateDone op last status) := by
  obtain ⟨hbudget, hjobs, hcounted, -⟩ := ((workCounted_iff s).mp h).1 op.position
  have hroom : ((s.work op.position).under { s.ctx op.position with rating := false }).budget < 8 := by
    simp only [State.work, Work.under, Work.budget_eq, hr, Bool.false_eq_true, if_true, if_false] at hbudget ⊢
    omega
  refine WorkCounted.handCompletion (h.setCtx ⟨hroom.le, hjobs, hcounted, ?_⟩ (.inl rfl)) ?_ _
  · exact hplaces.le
  · rw [State.work_setCtx, if_pos rfl]; exact hroom

/-- R100: an operation gives its one place up and hands its RATE-DONE over, whatever its item then holds. -/
theorem Lawful.handRateDone {e : Evaluator} {op : Operation} (hkept : OutlineKept { s with evaluator := e } u)
    (hle : ∀ p, e.placesOf p ≤ s.evaluator.placesOf p) (hlt : e.placesOf op.position < s.evaluator.placesOf op.position)
    (last : Slot) (status : Reason) : Lawful s (u.handRateDone op last status) := by
  have hleft : Lawful s u := (Lawful.setEvaluator hle).trans hkept.lawful
  refine ⟨hleft.toLegalStep.trans (.handRateDone op last status), fun h => ?_⟩
  obtain ⟨hr, hzero⟩ := h.rating_of_place hlt
  have hwork := hkept.work op.position
  exact (hleft.counted h).handRateDone ((congrArg Work.rating hwork).trans hr) ((congrArg Work.places hwork).trans hzero) last status

/-- R87, R102: an operation that is under evaluation and not abandoned, or between two slots, ends. -/
theorem Lawful.endRating {op : Operation} (hkept : OutlineKept s u) (hstate : u.evaluator = s.evaluator)
    (hplace : Evaluator.placesOf { s.evaluator with state := .idle } op.position < s.evaluator.placesOf op.position)
    (status : Reason) : Lawful s (u.endRating op status) := by
  have hitem := (hkept.returnItem op.position op.slot).withEvaluator { s.evaluator with state := .idle }
  have heq : (u.returnItem op.position op.slot).setEvaluatorState .idle =
      { u.returnItem op.position op.slot with evaluator := { s.evaluator with state := .idle } } := by
    rw [State.setEvaluatorState, State.returnItem_evaluator, hstate]
  unfold State.endRating
  rw [heq]
  exact .handRateDone hitem (fun p => Nat.add_le_add_left (Nat.zero_le _) _) hplace op.slot status

/-- R103: the abandonment takes every place of a position in the rating work, and no other. -/
theorem Evaluator.abandon_placesOf (p q : PositionId) (e : Evaluator) :
    (e.abandon p).placesOf q = if q = p then 0 else e.placesOf q := by
  have hqueue : (e.queue.filter fun op => decide (op.position ≠ p)).countP (fun op => decide (op.position = q)) =
      if q = p then 0 else e.queue.countP fun op => decide (op.position = q) := by
    rw [List.countP_filter]
    split
    · next hq => subst hq; exact List.countP_eq_zero.mpr fun op _ => by simp
    · next hq => exact List.countP_congr fun op _ => by simpa using fun h => h ▸ hq
  unfold Evaluator.placesOf Evaluator.abandon
  dsimp only
  rw [hqueue]
  cases hst : e.state with
  | idle => split <;> simp
  | chaining op =>
    by_cases hop : op.position = p <;> by_cases hq : q = p <;> simp [hop, hq, @eq_comm _ p q]
  | evaluating op ev =>
    by_cases hop : op.position = p <;> by_cases hq : q = p <;> simp [hop, hq, @eq_comm _ p q]

/-! ### Label jobs (R153, R161) -/

/-- R157, R162: a job has left the queue of a printer and the count of its position. -/
theorem WorkCounted.removeJob (h : WorkCounted s) {l : PrinterId} {pr : Printer} {p : PositionId}
    (hjobs : ∀ q, (s.printer l).jobsOf q = pr.jobsOf q + if q = p then 1 else 0) :
    WorkCounted ((s.setPrinter l pr).countLabels p (tget s.labelCounts p - 1)) ∧
      (((s.setPrinter l pr).countLabels p (tget s.labelCounts p - 1)).work p).budget < 8 := by
  obtain ⟨hs, hheld⟩ := (workCounted_iff s).mp h
  have hlabels : ∀ q, ((s.setPrinter l pr).countLabels p (tget s.labelCounts p - 1)).labelsOf q + (if q = p then 1 else 0) =
      s.labelsOf q := fun q => by
    have hreplaced := State.labelsOf_replaced (u := (s.setPrinter l pr).countLabels p (tget s.labelCounts p - 1)) rfl q
    rw [hjobs] at hreplaced
    omega
  have hcount : ∀ q, tget ((s.setPrinter l pr).countLabels p (tget s.labelCounts p - 1)).labelCounts q =
      tget s.labelCounts q - if q = p then 1 else 0 := fun q => by
    rw [State.countLabels_labelCounts, State.setPrinter_labelCounts, tget_tset]
    split
    · next hq => rw [hq]
    · rfl
  have hself := hlabels p
  obtain ⟨hbudget, -, hcounted, -⟩ := hs p
  refine ⟨(workCounted_iff _).mpr ⟨fun q => ?_, hheld⟩, ?_⟩
  · obtain ⟨hbudget, hjobs, hcounted, hplaces⟩ := hs q
    have hq := hlabels q
    have hctx : ((s.setPrinter l pr).countLabels p (tget s.labelCounts p - 1)).ctx q = s.ctx q := rfl
    simp only [Work.fits, State.work, Work.budget_eq, hcount, hctx] at hbudget hjobs hcounted ⊢
    exact ⟨by omega, by omega, by omega, hplaces⟩
  · have hctx : ((s.setPrinter l pr).countLabels p (tget s.labelCounts p - 1)).ctx p = s.ctx p := rfl
    simp only [State.work, Work.budget_eq, hcount, hctx, if_true] at hbudget hcounted hself ⊢
    omega

/-- R155: a job joins the queue of a printer and the count of its position, which has room for it. -/
theorem WorkCounted.addJob (h : WorkCounted s) (l : PrinterId) {j : Job} (hbudget : (s.work j.position).budget < 8)
    (hlabels : tget s.labelCounts j.position < 4) :
    WorkCounted ((s.setPrinter l { s.printer l with queue := (s.printer l).queue ++ [j] }).countLabels j.position
      (tget s.labelCounts j.position + 1)) := by
  obtain ⟨hs, hheld⟩ := (workCounted_iff s).mp h
  refine (workCounted_iff _).mpr ⟨fun q => ?_, hheld⟩
  have hreplaced := State.labelsOf_replaced
    (u := (s.setPrinter l { s.printer l with queue := (s.printer l).queue ++ [j] }).countLabels j.position
      (tget s.labelCounts j.position + 1)) rfl q
  have hjobs : Printer.jobsOf { s.printer l with queue := (s.printer l).queue ++ [j] } q =
      (s.printer l).jobsOf q + if j.position = q then 1 else 0 := by
    simp [Printer.jobsOf, List.countP_append, List.countP_singleton]
  rw [hjobs] at hreplaced
  obtain ⟨hbudget', hjobs', hcounted, hplaces⟩ := hs q
  have hctx : ((s.setPrinter l { s.printer l with queue := (s.printer l).queue ++ [j] }).countLabels j.position
      (tget s.labelCounts j.position + 1)).ctx q = s.ctx q := rfl
  simp only [Work.fits, State.work, Work.budget_eq, State.countLabels_labelCounts, State.setPrinter_labelCounts, tget_tset,
    hctx] at hbudget hbudget' hjobs' hcounted ⊢
  by_cases hq : q = j.position
  · subst hq
    simp only [if_true] at hreplaced ⊢
    exact ⟨by omega, by omega, by omega, hplaces⟩
  · simp only [Ne.symm hq, hq, if_false] at hreplaced ⊢
    exact ⟨hbudget', by omega, by omega, hplaces⟩

end

end Sys2Proof.Machine
end

section
/-! SUPPORT. Lawful commands: the positions, their requests, and the scale channels. -/

namespace Sys2Proof.Machine

/-! ### Taking a request or a command -/

/-- R6: the frames of a port that are left when one is taken. -/
theorem Lawful.setPort {s : State} {p : PositionId} {port : Port}
    (h : (tget s.ports p).held.length ≤ 4 → port.held.length ≤ 4) : Lawful s { s with ports := tset s.ports p port } := by
  refine ⟨⟨rfl, fun ⟨hpositions, hoffice⟩ => ⟨fun q => ⟨(hpositions q).1, ?_⟩, hoffice⟩⟩, id⟩
  rw [tget_tset]
  split
  · exact h (hpositions p).2
  · exact (hpositions q).2

theorem Lawful.setOfficePort {s : State} {port : Port} (h : s.officePort.held.length ≤ 2 → port.held.length ≤ 2) :
    Lawful s { s with officePort := port } :=
  ⟨⟨rfl, fun ⟨hpositions, hoffice⟩ => ⟨hpositions, h hoffice⟩⟩, id⟩

theorem Lawful.takeRequest {p : PositionId} {f : Frame} {s s1 : State} (h : s.takeRequest p f = some s1) : Lawful s s1 := by
  unfold State.takeRequest at h
  split at h
  · next hheld =>
    split at h
    · cases h; exact .setPort fun hroom => (Nat.le_succ _).trans (by simpa [hheld] using hroom)
    · cases h
  · cases h

theorem Lawful.takeCommand {f : Frame} {s s1 : State} (h : s.takeCommand f = some s1) : Lawful s s1 := by
  unfold State.takeCommand at h
  split at h
  · next hheld =>
    split at h
    · cases h; exact .setOfficePort fun hroom => (Nat.le_succ _).trans (by simpa [hheld] using hroom)
    · cases h
  · cases h

/-- R9, R168: an answer is only sent. -/
theorem OutlineKept.sent (s : State) (sent : List Sent) : OutlineKept s { s with sent := sent } :=
  ⟨rfl, rfl, rfl, fun _ => rfl, fun _ => rfl, fun _ => rfl⟩

theorem Lawful.request {α : Type} {serve : α → State → State × Answer} (hserve : ∀ a s, Lawful s (serve a s).1)
    (form : RequestForm α) (p : PositionId) (tag : Byte) (payload : List Byte) (s : State) :
    Lawful s (s.request form p tag payload serve) := by
  unfold State.request
  split
  · next s1 htaken =>
    have hjudged : Lawful s1 (s1.judge form p payload serve).1 := by
      obtain hsame | ⟨a, hserved⟩ := State.judge_outcome form p payload serve s1
      · rw [hsame]; exact .refl s1
      · rw [hserved]; exact hserve a s1
    exact ((Lawful.takeRequest htaken).trans hjudged).trans (OutlineKept.sent _ _).lawful
  · exact .refl s

theorem Lawful.command {α : Type} {serve : α → State → State × OfficeAnswer} (hserve : ∀ a s, Lawful s (serve a s).1)
    (code : Byte) (read : List Byte → Option α) (tag : Byte) (payload : List Byte) (s : State) :
    Lawful s (s.command code read tag payload serve) := by
  unfold State.command
  split
  · next s1 htaken =>
    have htake := Lawful.takeCommand htaken
    split
    · exact (htake.trans (hserve _ s1)).trans (OutlineKept.sent _ _).lawful
    · exact htake.trans (OutlineKept.sent _ _).lawful
  · exact .refl s

/-- R176, R177: while the module does not run, an event changes nothing. -/
theorem Lawful.running {f : State → State} (hf : ∀ s, Lawful s (f s)) {s u : State} (hu : s.running f = .next u) : Lawful s u := by
  have hsent := (OutlineKept.sent s []).lawful
  by_cases hp : s.power = .running
  · rw [State.running_on f s hp] at hu
    cases hu
    exact hsent.trans (hf _)
  · rw [State.running_off f s hp] at hu
    cases hu
    exact hsent

theorem Lawful.foldl {α : Type} {f : State → α → State} (hf : ∀ a s, Lawful s (f s a)) (events : List α) (s : State) :
    Lawful s (events.foldl f s) := by
  induction events generalizing s with
  | nil => exact .refl s
  | cons a events ih => exact (hf a s).trans (ih _)

/-! ### Lines (R2 to R4, R6, R168) -/

/-- R3: an enabled OFFLINE position is LINKED by its line. -/
theorem PositionContext.legal.lineUp {c : PositionContext} (h : c.legal) : c.lineUp.legal := by
  obtain ⟨hopen, haccount, hkey, hrecords, hidle, hline⟩ := h
  unfold PositionContext.lineUp
  split
  · next hup =>
    obtain ⟨henabled, hoff⟩ := hup
    simp only [PositionContext.legal, hoff, henabled] at *
    simp_all
  · exact ⟨hopen, haccount, hkey, hrecords, hidle, fun hst => ⟨(hline hst).1, rfl⟩⟩

theorem Lawful.lineUp (p : PositionId) (s : State) : Lawful s (s.setCtx p (s.ctx p).lineUp) :=
  .setCtx_same (fun h => h.lineUp) rfl rfl rfl

theorem Lawful.receivePosition (p : PositionId) (bytes : List Byte) (s : State) : Lawful s (s.receivePosition p bytes) := by
  unfold State.receivePosition
  split
  · exact .setPort fun h => Port.receive_room _ 4 bytes _ h
  · exact .refl s

theorem Lawful.receiveOffice (input : LineInput) (s : State) : Lawful s (s.receiveOffice input) := by
  refine .setOfficePort fun h => ?_
  have hroom := Port.receive_room officeSync 2 input.bytes _ h
  split
  · exact hroom
  · exact hroom

/-! ### The forced detach (R14) -/

theorem State.forcedDetach_ctx (p q : PositionId) (s : State) :
    (s.forcedDetach p).ctx q = if q = p ∧ (s.ctx p).state.clerked = true then (s.ctx p).cleared else s.ctx q := by
  unfold State.forcedDetach
  split
  · next hclerked =>
    dsimp only
    by_cases hq : q = p
    · subst hq
      rw [State.setCtx_ctx_self, if_pos ⟨rfl, hclerked⟩]
    · rw [State.setCtx_ctx_ne _ _ _ _ hq, if_neg (by simp [hq])]
      split
      · next t _ =>
        obtain ⟨_, hs⟩ := State.releaseAll_shape t
          { s with channels := tbuild 8 fun c => (s.channel c).dropOwner p, evaluator := s.evaluator.abandon p }
        rw [hs]
        rfl
      · rfl
  · next hclerked => rw [if_neg (by simp [hclerked])]

/-- R14, R57: the weighs that are left are those of other positions. -/
theorem Channel.dropOwner_weigh {p q : PositionId} {k : Slot} {ch : Channel} (h : (ch.dropOwner p).weigh = .waiting q k) :
    ch.weigh = .waiting q k ∧ q ≠ p := by
  unfold Channel.dropOwner at h
  split at h
  · next owner m hw =>
    split at h
    · cases h
    · next howner =>
      obtain ⟨rfl, rfl⟩ := WeighState.waiting.inj (hw.symm.trans h)
      exact ⟨hw, howner⟩
  · next hw => rw [hw] at h; cases h

theorem WorkCounted.forcedDetach {s : State} (h : WorkCounted s) (p : PositionId) : WorkCounted (s.forcedDetach p) := by
  unfold State.forcedDetach
  split
  · obtain ⟨hs, hheld⟩ := (workCounted_iff s).mp h
    have hdropped : WorkCounted { s with
        channels := tbuild 8 fun c => (s.channel c).dropOwner p, evaluator := s.evaluator.abandon p } := by
      refine (workCounted_iff _).mpr ⟨fun q => ?_, hheld.fewer fun c q k hc => ⟨?_, rfl⟩⟩
      · obtain ⟨hbudget, hjobs, hcounted, hplaces⟩ := hs q
        refine ⟨hbudget, hjobs, hcounted, (le_of_eq (s.evaluator.abandon_placesOf p q)).trans ?_⟩
        split
        · exact Nat.zero_le _
        · exact hplaces
      · rw [State.channel, tget_tbuild] at hc
        exact (Channel.dropOwner_weigh hc).1
    have hfree : ∀ (ch : ChannelId) (k : Slot),
        (State.channel { s with
          channels := tbuild 8 fun c => (s.channel c).dropOwner p, evaluator := s.evaluator.abandon p } ch).weigh ≠
            .waiting p k := fun ch k hch => by
      rw [State.channel, tget_tbuild] at hch
      exact (Channel.dropOwner_weigh hch).2 rfl
    have hplaces := (s.evaluator.abandon_placesOf p p).trans (if_pos rfl)
    generalize hu : ({ s with channels := tbuild 8 fun c => (s.channel c).dropOwner p, evaluator := s.evaluator.abandon p } : State) = u
      at hdropped hfree ⊢
    have hplaces' : (u.work p).places = 0 := by rw [← hu]; exact hplaces
    have hcleared : ∀ v, OutlineKept u v → WorkCounted (v.setCtx p (s.ctx p).cleared) := fun v hkept => by
      have hcounted := hkept.lawful.counted hdropped
      obtain ⟨-, hjobs, hcount, -⟩ := ((workCounted_iff v).mp hcounted).1 p
      refine hcounted.setCtx ⟨?_, hjobs, hcount, ?_⟩ (.inr fun ch k => by rw [hkept.weighs]; exact hfree ch k)
      · have hfour : (v.work p).counted ≤ 4 := hcount.trans_le hjobs
        simp only [Work.under, Work.budget_eq, PositionContext.cleared, List.length_nil, Option.isSome_none, Bool.false_eq_true,
          if_false]
        omega
      · exact (congrArg Work.places (hkept.work p)).trans hplaces' |>.le
    dsimp only
    split
    · exact hcleared _ ((OutlineKept.refl u).releaseAll _)
    · exact hcleared u (.refl u)
  · exact h

/-- R14: the forced detach under a context `d`, and the context `c` that its cause then sets; the other contexts stay. -/
theorem LegalStep.detached {p : PositionId} {c : PositionContext} {s : State} (d : PositionContext) (hc : (s.ctx p).legal → c.legal) :
    LegalStep s (((s.setCtx p d).forcedDetach p).setCtx p c) := by
  obtain ⟨_, _, _, _, hs⟩ := State.forcedDetach_shape p (s.setCtx p d)
  refine ⟨by rw [hs]; rfl, fun h => ⟨fun q => ⟨?_, by rw [hs]; exact (h.1 q).2⟩, by rw [hs]; exact h.2⟩⟩
  by_cases hq : q = p
  · rw [hq, State.setCtx_ctx_self]
    exact hc (h.1 p).1
  · rw [State.setCtx_ctx_ne _ _ _ _ hq, State.forcedDetach_ctx, if_neg (by simp [hq]), State.setCtx_ctx_ne _ _ _ _ hq]
    exact (h.1 q).1

/-- R14: a position without account, records and transaction is legal in LINKED, and in OFFLINE. -/
theorem PositionContext.cleared_legal {c : PositionContext} {st : PositionState} (hst : st = .offline ∨ st = .linked)
    (hline : st ≠ .offline → c.config.enabled = true ∧ c.linePresent = true) : PositionContext.legal { c.cleared with state := st } := by
  obtain rfl | rfl := hst <;> exact ⟨by simp [PositionContext.cleared], by simp [PositionContext.cleared], rfl, fun _ => rfl, fun _ => ⟨rfl, rfl⟩, hline⟩

/-- R1: in OFFLINE and LINKED there is nothing that a forced detach clears. -/
theorem PositionContext.legal.unattached {c : PositionContext} (h : c.legal) (hst : ¬c.state.clerked = true) : c.cleared = c := by
  obtain ⟨hopen, haccount, hkey, hrecords, hidle, -⟩ := h
  have hnot : c.state ≠ .attached ∧ c.state ≠ .inTransaction := by
    constructor <;> intro hc <;> rw [hc] at hst <;> exact hst rfl
  have hquiet : c.state = .offline ∨ c.state = .linked := by
    cases hc : c.state <;> simp_all
  obtain ⟨config, state, line, account, key, transaction, completions, weigh, rating⟩ := c
  have hnone : account = none := by simpa [hnot.1, hnot.2] using mt haccount.mp
  have hclosed : transaction = none := by simpa [hnot.2] using mt hopen.mp
  obtain ⟨rfl, rfl⟩ := hidle hnot.2
  subst hnone hclosed
  have hnokey : key = none := by simpa using hkey
  subst hnokey
  cases hrecords hquiet
  rfl

/-- R14: the context after the forced detach that finds the position under `c` with its line as `line` says. -/
theorem PositionContext.legal.forcedDetach {p : PositionId} {c : PositionContext} {s : State} (h : c.legal) {line : Bool}
    (hs : s.ctx p = { c with linePresent := line }) : (s.forcedDetach p).ctx p = { c.cleared with linePresent := line } := by
  rw [State.forcedDetach_ctx, hs]
  split
  · rfl
  · next hst => rw [h.unattached (by simpa using hst)]

theorem Lawful.lineDown (p : PositionId) (s : State) : Lawful s (s.lineDown p) := by
  have hport : Lawful s { s with ports := tset s.ports p .quiet } := .setPort fun _ => Nat.zero_le 4
  refine hport.trans ⟨.detached _ fun h => ?_, fun h => ?_⟩
  · rw [PositionContext.legal.forcedDetach (p := p) h (line := false) (State.setCtx_ctx_self _ _ _)]
    exact PositionContext.cleared_legal (c := { s.ctx p with linePresent := false }) (.inl rfl) fun hst => absurd rfl hst
  · have hdown : WorkCounted (State.setCtx p { s.ctx p with linePresent := false } { s with ports := tset s.ports p .quiet }) :=
      h.setCtx (((workCounted_iff _).mp h).1 p) (.inl rfl)
    have hdetached := hdown.forcedDetach p
    exact hdetached.setCtx (((workCounted_iff _).mp hdetached).1 p) (.inl rfl)

/-! ### ATTACH, DETACH, COLLECT and POSITION -/

/-- R11: in LINKED a position may take an account and a key. -/
theorem serveAttach_lawful (p : PositionId) (x : AccountId × Fin 16) {s : State} (hlinked : (s.ctx p).state = .linked) :
    Lawful s (serveAttach p x s).1 := by
  unfold serveAttach
  dsimp only
  split_ifs
  · exact .refl s
  · exact .refl s
  · exact .refl s
  · refine .setCtx_same (fun ⟨hopen, _, _, _, hidle, hline⟩ => ?_) rfl rfl rfl
    exact ⟨by simpa [hlinked] using hopen, by simp, rfl, by simp, fun _ => hidle (by simp [hlinked]),
      fun _ => hline (by simp [hlinked])⟩

theorem Lawful.attach (p : PositionId) (tag : Byte) (payload : List Byte) (s : State) :
    Lawful s (s.request attachForm p tag payload (serveAttach p)) := by
  rw [State.request_congr (serve' := fun x s => if (s.ctx p).state = .linked then serveAttach p x s else (s, .refuse .state))
    fun x s hserved => by cases hst : (s.ctx p).state <;> simp [attachForm, servedLinked, hst] at hserved ⊢]
  refine Lawful.request (fun x s => ?_) attachForm p tag payload s
  split
  · next hlinked => exact serveAttach_lawful p x hlinked
  · exact .refl s

theorem serveDetach_lawful (p : PositionId) (x : Unit) (s : State) : Lawful s (serveDetach p x s).1 := by
  unfold serveDetach
  split
  · next hclerked =>
    refine ⟨?_, fun h => ?_⟩
    · have hdetached := LegalStep.detached (p := p) (s := s) (c := { (s.forcedDetach p).ctx p with state := .linked }) (s.ctx p)
        fun h => by
          rw [PositionContext.legal.forcedDetach h (line := (s.ctx p).linePresent) rfl]
          exact PositionContext.cleared_legal (.inr rfl) fun _ => h.2.2.2.2.2 fun hoff => by simp [hoff, PositionState.clerked] at hclerked
      rwa [State.setCtx_ctx] at hdetached
    · have hdetached := h.forcedDetach p
      exact hdetached.setCtx (((workCounted_iff _).mp hdetached).1 p) (.inl rfl)
  · exact .refl s

theorem serveCollect_lawful (p : PositionId) (x : Unit) (s : State) : Lawful s (serveCollect p x s).1 := by
  unfold serveCollect
  split
  · next r rest hrecords =>
    refine ⟨.setCtx fun ⟨hopen, haccount, hkey, hnone, hidle, hline⟩ =>
      ⟨hopen, haccount, hkey, fun hst => (by simp [hrecords] at hnone; simp [hnone.1, hnone.2] at hst), hidle, hline⟩, fun h => ?_⟩
    obtain ⟨hbudget, hjobs, hcounted, hplaces⟩ := ((workCounted_iff s).mp h).1 p
    refine h.setCtx ⟨?_, hjobs, hcounted, hplaces⟩ (.inl rfl)
    simp only [State.work, Work.under, Work.budget_eq, hrecords, List.length_cons] at hbudget ⊢
    omega
  · exact .refl s

/-- R5: new settings for a position that is not disabled by them. -/
theorem PositionContext.legal.configured {c : PositionContext} (h : c.legal) {cfg : PositionConfig}
    (hkept : ¬(c.config.enabled = true ∧ cfg.enabled = false)) : (c.configured cfg).legal := by
  obtain ⟨hopen, haccount, hkey, hrecords, hidle, hline⟩ := id h
  unfold PositionContext.configured
  cases hold : c.config.enabled with
  | true =>
    have hnew : cfg.enabled = true := by simpa [hold] using hkept
    rw [hnew]
    exact ⟨hopen, haccount, hkey, hrecords, hidle, fun hst => ⟨hnew, (hline hst).2⟩⟩
  | false =>
    have hoff : c.state = .offline := Classical.byContradiction fun hst => by simp [hold] at hline; exact hst hline
    cases hnew : cfg.enabled with
    | false => exact ⟨hopen, haccount, hkey, hrecords, hidle, fun hst => absurd hoff hst⟩
    | true =>
      rw [← h.unattached (by simp [hoff, PositionState.clerked])]
      have hlegal := PositionContext.cleared_legal (c := { c with config := cfg }) (st := if c.linePresent then .linked else .offline)
        (by split <;> simp) (fun hst => ⟨hnew, by simpa using hst⟩)
      exact hlegal

theorem servePosition_lawful (x : PositionId × PositionConfig) (s : State) : Lawful s (servePosition x s).1 := by
  unfold servePosition
  dsimp only
  split
  · exact .refl s
  · have hconfigured : ∀ u, WorkCounted u → WorkCounted (u.setCtx x.1 ((u.ctx x.1).configured x.2)) := fun u h =>
      h.setCtx (((workCounted_iff u).mp h).1 x.1) (.inl rfl)
    have hsaved : ∀ u : State, OutlineKept u (u.savePosition x.1) := fun u =>
      ⟨rfl, rfl, rfl, fun _ => rfl, fun _ => rfl, fun _ => rfl⟩
    refine Lawful.trans ?_ (hsaved _).lawful
    split
    · next hdisabled =>
      refine ⟨?_, fun h => hconfigured _ (h.forcedDetach x.1)⟩
      have hdetached := LegalStep.detached (p := x.1) (s := s) (c := ((s.forcedDetach x.1).ctx x.1).configured x.2) (s.ctx x.1)
        fun h => by
          rw [PositionContext.legal.forcedDetach h (line := (s.ctx x.1).linePresent) rfl]
          have hlegal := PositionContext.cleared_legal (c := { s.ctx x.1 with config := x.2 }) (.inl rfl) fun hst => absurd rfl hst
          simpa [PositionContext.configured, PositionContext.cleared, hdisabled.1, hdisabled.2] using hlegal
      rwa [State.setCtx_ctx] at hdetached
    · next hkept => exact ⟨.setCtx fun h => h.configured hkept, hconfigured s⟩

/-! ### Transactions and items -/

/-- R24: an ATTACHED position opens a transaction. -/
theorem serveBegin_lawful (p : PositionId) (x : Unit) (s : State) : Lawful s (serveBegin p x s).1 := by
  unfold serveBegin
  split
  · next hattached =>
    refine .setCtx_same (fun ⟨_, haccount, hkey, _, _, hline⟩ => ?_) rfl rfl rfl
    exact ⟨by simp, by simpa [hattached] using haccount, hkey, by simp, fun hst => absurd rfl hst, fun _ => hline (by simp [hattached])⟩
  · exact .refl s

theorem serveAdd_outlineKept (p : PositionId) (x : Unit) (s : State) : OutlineKept s (serveAdd p x s).1 := by
  unfold serveAdd
  split
  · exact (OutlineKept.refl s).setItem p _ _
  · exact .refl s

theorem serveAmend_outlineKept (p : PositionId) (m : Amendment) (s : State) : OutlineKept s (serveAmend p m s).1 := by
  unfold serveAmend
  split
  · split_ifs
    · exact .refl s
    · exact .refl s
    · exact ((OutlineKept.refl s).releaseQuote _).setItem p _ _
    · exact (OutlineKept.refl s).setItem p _ _
  · exact .refl s

theorem serveDrop_outlineKept (p : PositionId) (k : Slot) (s : State) : OutlineKept s (serveDrop p k s).1 := by
  unfold serveDrop
  split
  · split
    · exact ((OutlineKept.refl s).releaseQuote _).setItem p k _
    · exact .refl s
  · exact .refl s

theorem serveDetail_outlineKept (p : PositionId) (k : Slot) (s : State) : OutlineKept s (serveDetail p k s).1 := by
  unfold serveDetail
  split <;> exact .refl s

/-- R42: with no weigh and no rating in flight the transaction may close. -/
theorem serveFinish_lawful (p : PositionId) (x : Nat × Nat) (s : State) : Lawful s (serveFinish p x s).1 := by
  unfold serveFinish
  dsimp only
  split
  · next t ht =>
    split_ifs with hbusy
    · exact .refl s
    · have hreleased := (OutlineKept.refl s).releaseAll t
      have hctx : (s.releaseAll t).ctx p = s.ctx p := by
        obtain ⟨_, hs⟩ := State.releaseAll_shape t s
        rw [hs]
        rfl
      have hidle : (s.ctx p).weigh = none ∧ (s.ctx p).rating = false := by simpa using hbusy
      refine hreleased.lawful.trans (.setCtx_same (fun h => ?_) ?_ ?_ ?_)
      · rw [hctx] at h
        obtain ⟨hopen, haccount, hkey, -, -, hline⟩ := h
        have hst : (s.ctx p).state = .inTransaction := hopen.mp (ht ▸ rfl)
        exact ⟨by simp, by simpa [hst] using haccount, hkey, by simp, fun _ => hidle, fun _ => hline (by simp [hst])⟩
      all_goals rw [hctx]
    · exact .refl s
  · exact .refl s

end Sys2Proof.Machine
end

section
/-! SUPPORT. Lawful commands: the scale channels, the rating evaluator, CANCEL, ACCEPT and VOID, the printers, the tariff store and the office. -/

namespace Sys2Proof.Machine

/-! ### Scale channels -/

section
variable (s : State)

theorem Channel.takeGood_weigh (count : Int) (ch : Channel) : (ch.takeGood count).weigh = ch.weigh := by
  have hjudged : ∀ ch : Channel, ch.judged.weigh = ch.weigh := fun ch => by
    unfold Channel.judged
    split
    · split <;> rfl
    · rfl
  unfold Channel.takeGood
  dsimp only
  split
  · rfl
  · rfl
  · rfl
  · split
    · split <;> rfl
    · exact hjudged _

theorem Lawful.takeArrival (c : ChannelId) (a : Arrival) : Lawful s (s.takeArrival c a) := by
  have hset : ∀ ch : Channel, ch.weigh = (s.channel c).weigh → Lawful s (s.setChannel c ch) := fun ch hch =>
    ((OutlineKept.refl s).setChannel hch).lawful
  unfold State.takeArrival
  dsimp only
  split
  · exact .refl s
  · exact hset _ (Channel.takeGood_weigh _ _)
  · exact .refl s
  · split
    · exact (hset (s.channel c).failed rfl).trans (.endWeigh c _ _)
    · exact hset _ rfl

theorem Lawful.receiveSamples (c : ChannelId) (bytes : List Byte) : Lawful s (s.receiveSamples c bytes) := by
  have hline : OutlineKept s { s with scaleLines := tset s.scaleLines c (scanSamples (tget s.scaleLines c ++ bytes).length (tget s.scaleLines c ++ bytes)).2 } :=
    ⟨rfl, rfl, rfl, fun _ => rfl, fun _ => rfl, fun _ => rfl⟩
  exact hline.lawful.trans (.foldl (fun a s => .takeArrival s c a) _ _)

theorem Lawful.settle (c : ChannelId) : Lawful s (s.settle c) := by
  unfold State.settle
  dsimp only
  split
  · have hset := ((OutlineKept.refl s).setChannel (c := c) (ch := { s.channel c with state := .stable, settleTimer := none }) rfl).lawful
    split
    · exact hset.trans (.endWeigh c _ _)
    · exact hset
  · exact .refl s

theorem Lawful.weighTimer (c : ChannelId) :
    Lawful s (if (s.channel c).weighTimer.isSome then s.endWeigh c .unstable 0 else s) := by
  split
  · exact .endWeigh c _ _
  · exact .refl s

/-- R34: the weigh of an IN-TRANSACTION position, which has none in flight and room in its budget, begins. -/
theorem LegalStep.startWeigh {p : PositionId} {k : Slot} {i : Item} {s : State} (hi : s.item p k = some i) :
    LegalStep s (s.startWeigh p k) := by
  have hkept := (OutlineKept.refl s).requote p k .weighing
  refine hkept.lawful.toLegalStep.trans (.setCtx fun ⟨hopen, haccount, hkey, hrecords, _, hline⟩ => ?_)
  obtain ⟨t, ht⟩ := State.transaction_of_item hi
  have hst : ((s.requote p k .weighing).ctx p).state = .inTransaction :=
    hopen.mp ((congrArg Prod.snd (hkept.contexts p)).trans (by rw [PositionContext.outline, ht]; rfl))
  exact ⟨hopen, haccount, hkey, hrecords, fun hne => absurd hst hne, hline⟩

theorem WorkCounted.startWeigh {p : PositionId} {s : State} (h : WorkCounted s) (hnone : (s.ctx p).weigh = none)
    (hroom : (s.work p).budget < 8) (k : Slot) :
    WorkCounted (s.startWeigh p k) ∧ ((s.startWeigh p k).ctx p).weigh = some k ∧
      ∀ c m, ((s.startWeigh p k).channel c).weigh ≠ .waiting p m := by
  have hkept := (OutlineKept.refl s).requote p k .weighing
  have hwork := hkept.work p
  have hcounted := hkept.lawful.counted h
  have hfree : ∀ c m, ((s.requote p k .weighing).channel c).weigh ≠ .waiting p m := fun c m hc => by
    rw [hkept.weighs] at hc
    rw [(h.2 c p m hc).1] at hnone
    cases hnone
  refine ⟨?_, ?_, hfree⟩
  · obtain ⟨-, hjobs, hcount, hplaces⟩ := ((workCounted_iff _).mp hcounted).1 p
    refine hcounted.setCtx ⟨?_, hjobs, hcount, hplaces⟩ (.inr hfree)
    rw [← hwork] at hroom
    have hnone' : ((s.requote p k .weighing).ctx p).weigh = none := (congrArg Work.weigh hwork).trans hnone
    simp only [State.work, Work.under, Work.budget_eq, hnone', Option.isSome_none, Option.isSome_some, Bool.false_eq_true, if_true,
      if_false] at hroom ⊢
    omega
  · rw [State.startWeigh, State.setCtx_ctx_self]

/-- R57, R61: an IDLE channel takes the weigh of a position that no other channel holds. -/
theorem Lawful.holdWeigh {p : PositionId} {k : Slot} {c : ChannelId} {ch : Channel} {s : State} (hch : ch.weigh = .waiting p k)
    (hweigh : (s.ctx p).weigh = some k) (hfree : ∀ d m, (s.channel d).weigh ≠ .waiting p m) : Lawful s (s.setChannel c ch) := by
  refine ⟨⟨rfl, id⟩, fun h => ?_⟩
  obtain ⟨hs, hheld⟩ := (workCounted_iff s).mp h
  have hchannel : ∀ d, (s.setChannel c ch).channel d = if d = c then ch else s.channel d := fun d => tget_tset _ _ _ _
  refine (workCounted_iff _).mpr ⟨hs, fun d q m hd => ?_⟩
  rw [hchannel] at hd
  split at hd
  · next hdc =>
    obtain ⟨rfl, rfl⟩ := WeighState.waiting.inj (hch.symm.trans hd)
    refine ⟨hweigh, fun e n he => ?_⟩
    rw [hchannel] at he
    split at he
    · next hec => rw [hec, hdc]
    · exact absurd he (hfree e n)
  · obtain ⟨hown, hone⟩ := hheld d q m hd
    refine ⟨hown, fun e n he => ?_⟩
    rw [hchannel] at he
    split at he
    · obtain ⟨rfl, rfl⟩ := WeighState.waiting.inj (hch.symm.trans he)
      exact absurd hd (hfree d m)
    · exact hone e n he

theorem Lawful.takeWeigh {p : PositionId} {k : Slot} {i : Item} {s : State} (hi : s.item p k = some i) (hnone : (s.ctx p).weigh = none)
    (hroom : (s.work p).budget < 8) (c : ChannelId) : Lawful s (s.takeWeigh p c k).1 := by
  have hstart : LegalStep s (s.startWeigh p k) := .startWeigh hi
  unfold State.takeWeigh
  dsimp only
  split
  · refine ⟨hstart.trans (.finishWeigh p k _ _), fun h => ?_⟩
    obtain ⟨hcounted, hweigh, hfree⟩ := h.startWeigh hnone hroom k
    exact hcounted.finishWeigh (hweigh ▸ rfl) hfree k _ _
  · refine ⟨hstart.trans ⟨rfl, id⟩, fun h => ?_⟩
    obtain ⟨hcounted, hweigh, hfree⟩ := h.startWeigh hnone hroom k
    exact (Lawful.holdWeigh rfl hweigh hfree).counted hcounted

theorem serveWeigh_lawful (p : PositionId) (k : Slot) (s : State) : Lawful s (serveWeigh p k s).1 := by
  unfold serveWeigh
  dsimp only
  split
  · exact .refl s
  · exact .refl s
  · next c i _ hi =>
    split_ifs with _ _ hbusy hfull
    · exact .refl s
    · exact .refl s
    · exact .refl s
    · exact .refl s
    · exact .refl s
    · rw [State.budget_eq, State.budgetTotal_eq] at hfull
      exact .takeWeigh hi (by simpa using (not_or.mp hbusy).2) (Nat.not_le.mp hfull) c

theorem serveZero_outlineKept (p : PositionId) (x : Unit) (s : State) : OutlineKept s (serveZero p x s).1 := by
  unfold serveZero
  dsimp only
  split
  · exact .refl s
  · split_ifs
    · exact .refl s
    · exact .refl s
    · exact .refl s
    · split
      · split_ifs
        · exact (OutlineKept.refl s).setChannel rfl
        · exact .refl s
      · exact .refl s

theorem serveScale_lawful (x : ChannelId × ScaleConfig) (s : State) : Lawful s (serveScale x s).1 := by
  have hset : OutlineKept s (s.setChannel x.1 ((s.channel x.1).configured x.2)) := (OutlineKept.refl s).setChannel rfl
  have hsaved : OutlineKept s ((s.setChannel x.1 ((s.channel x.1).configured x.2)).saveChannel x.1) :=
    hset.trans ⟨rfl, rfl, rfl, fun _ => rfl, fun _ => rfl, fun _ => rfl⟩
  exact hsaved.lawful.trans (.endWeigh x.1 _ _)

/-! ### Rating -/

/-- R81: a rating begins for a position that has none and has room in its budget. -/
theorem WorkCounted.beginRating {s u : State} (hkept : OutlineKept s u) (h : WorkCounted s) {op : Operation}
    (hr : (s.ctx op.position).rating = false) (hroom : (s.work op.position).budget < 8) {e : Evaluator}
    (he : ∀ q, e.placesOf q = s.evaluator.placesOf q + if op.position = q then 1 else 0) :
    WorkCounted { u.setCtx op.position { u.ctx op.position with rating := true } with evaluator := e } := by
  have hcounted := hkept.lawful.counted h
  obtain ⟨hs, hheld⟩ := (workCounted_iff s).mp h
  have hctx : ∀ q, (u.setCtx op.position { u.ctx op.position with rating := true }).work q =
      if q = op.position then (u.work op.position).under { u.ctx op.position with rating := true } else u.work q :=
    fun q => State.work_setCtx _ q _ u
  have hwork : ∀ q, State.work { u.setCtx op.position { u.ctx op.position with rating := true } with evaluator := e } q =
      { (u.setCtx op.position { u.ctx op.position with rating := true }).work q with places := e.placesOf q } := fun q => rfl
  refine (workCounted_iff _).mpr ⟨fun q => ?_, hheld.fewer fun c q k hc => ⟨hkept.weighs c ▸ hc, ?_⟩⟩
  · rw [hwork, hctx]
    have huq := hkept.work q
    obtain ⟨hbudget, hjobs, hcount, hplaces⟩ := hs q
    split
    · next hq =>
      subst hq
      have hzero : (s.work op.position).places = 0 := by simpa [State.work, hr] using hplaces
      refine ⟨?_, (congrArg Work.jobs huq).trans_le hjobs, ?_, ?_⟩
      · rw [← huq] at hroom
        have hr' : (u.ctx op.position).rating = false := (congrArg Work.rating huq).trans hr
        simp only [State.work, Work.under, Work.budget_eq, hr', Bool.false_eq_true, if_true, if_false] at hroom ⊢
        omega
      · rw [huq]; exact hcount
      · change e.placesOf op.position ≤ 1
        rw [he, if_pos rfl, show s.evaluator.placesOf op.position = 0 from hzero]
    · next hq =>
      rw [huq]
      refine ⟨hbudget, hjobs, hcount, ?_⟩
      change e.placesOf q ≤ _
      rw [he, if_neg (Ne.symm hq)]
      exact hplaces
  · change ((u.setCtx op.position { u.ctx op.position with rating := true }).ctx q).weigh = _
    by_cases hq : q = op.position
    · rw [hq, State.setCtx_ctx_self]
      exact congrArg Work.weigh (hkept.work op.position)
    · rw [State.setCtx_ctx_ne _ _ _ _ hq]
      exact congrArg Work.weigh (hkept.work q)

/-- R78: an entry joins the tail of the rating queue. -/
theorem Evaluator.placesOf_append (e : Evaluator) (op : Operation) (q : PositionId) :
    Evaluator.placesOf { e with queue := e.queue ++ [op] } q = e.placesOf q + if op.position = q then 1 else 0 := by
  simp only [Evaluator.placesOf, List.countP_append, List.countP_singleton, decide_eq_true_eq]
  omega

theorem Lawful.takeRate {p : PositionId} {k : Slot} {i : Item} {s : State} (hi : s.item p k = some i) (hr : (s.ctx p).rating = false)
    (hroom : (s.work p).budget < 8) (scope : Scope) : Lawful s (s.takeRate p k scope) := by
  have hkept := (OutlineKept.refl s).requote p k .rateQueued
  have hlegal : LegalStep (s.requote p k .rateQueued)
      ((s.requote p k .rateQueued).setCtx p { (s.requote p k .rateQueued).ctx p with rating := true }) :=
    .setCtx fun ⟨hopen, haccount, hkey, hrecords, _, hline⟩ => by
      obtain ⟨t, ht⟩ := State.transaction_of_item hi
      have hst : ((s.requote p k .rateQueued).ctx p).state = .inTransaction :=
        hopen.mp ((congrArg Prod.snd (hkept.contexts p)).trans (by rw [PositionContext.outline, ht]; rfl))
      exact ⟨hopen, haccount, hkey, hrecords, fun hne => absurd hst hne, hline⟩
  refine ⟨(hkept.lawful.toLegalStep.trans hlegal).trans ⟨rfl, id⟩, fun h => ?_⟩
  refine h.beginRating hkept (op := ⟨p, k, k, scope, 0, none⟩) hr hroom fun q => ?_
  rw [State.setCtx_evaluator, State.requote_evaluator, Evaluator.placesOf_append]

theorem serveRate_lawful (p : PositionId) (x : Slot × Scope) (s : State) : Lawful s (serveRate p x s).1 := by
  unfold serveRate
  split
  · exact .refl s
  · next i hi =>
    split_ifs with _ _ _ hbusy hfull
    · exact .refl s
    · exact .refl s
    · exact .refl s
    · exact .refl s
    · exact .refl s
    · rw [State.budget_eq, State.budgetTotal_eq] at hfull
      exact .takeRate hi (by simpa using hbusy) (Nat.not_le.mp hfull) x.2

/-- The rating of `op` ends at an evaluator that is left with `e`, without a place of the operation. -/
theorem Lawful.endRatingAt {s u : State} {e : Evaluator} {op : Operation} (hkept : OutlineKept { s with evaluator := e } u)
    (hevaluator : u.evaluator = { e with state := u.evaluator.state }) (hidle : e.state = .idle)
    (hle : ∀ p, e.placesOf p ≤ s.evaluator.placesOf p) (hlt : e.placesOf op.position < s.evaluator.placesOf op.position)
    (status : Reason) : Lawful s (u.endRating op status) := by
  have heq : (u.returnItem op.position op.slot).setEvaluatorState .idle = { u.returnItem op.position op.slot with evaluator := e } := by
    rw [State.setEvaluatorState, State.returnItem_evaluator, hevaluator, ← hidle]
  unfold State.endRating
  rw [heq]
  exact Lawful.handRateDone (s := s) ((hkept.returnItem op.position op.slot).withEvaluator e) hle hlt op.slot status

/-- The evaluator takes another state with as many places of each position. -/
theorem OutlineKept.setEvaluatorState {s u : State} {e : Evaluator} (hkept : OutlineKept { s with evaluator := e } u)
    (hevaluator : u.evaluator = e) {st : EvaluatorState}
    (hplaces : ∀ p, Evaluator.placesOf { e with state := st } p = s.evaluator.placesOf p) : OutlineKept s (u.setEvaluatorState st) := by
  subst hevaluator
  exact ((OutlineKept.refl s).setEvaluator hplaces).trans (hkept.withEvaluator _)

/-- R82: the head entry of the queue keeps its place under evaluation. -/
theorem Lawful.startEvaluation : Lawful s s.startEvaluation := by
  unfold State.startEvaluation
  dsimp only
  split
  · next op rest hidle hqueue =>
    have hhead : ∀ q, s.evaluator.placesOf q =
        Evaluator.placesOf { s.evaluator with queue := rest } q + if op.position = q then 1 else 0 := fun q => by
      simp only [Evaluator.placesOf, hidle, hqueue, List.countP_cons, decide_eq_true_eq, Nat.add_zero]
    have hle : ∀ q, Evaluator.placesOf { s.evaluator with queue := rest } q ≤ s.evaluator.placesOf q := fun q => by
      rw [hhead q]; exact Nat.le_add_right _ _
    split
    · next i _ =>
      split
      · split
        · next b g _ =>
          refine (OutlineKept.setEvaluatorState (((OutlineKept.refl _).setBank b _).setItem op.position op.slot _) ?_
            fun q => ?_).lawful
          · rw [State.setItem_evaluator, State.setBank_evaluator]
          · rw [hhead q]
            simp [Evaluator.placesOf, hidle, Evaluation.begun]
        · refine Lawful.endRatingAt (s := s) (e := { s.evaluator with queue := rest }) (.refl _) rfl hidle hle ?_ _
          rw [hhead op.position, if_pos rfl]
          exact Nat.lt_succ_self _
      · exact .setEvaluator hle
    · exact .setEvaluator hle
  · exact .refl s

/-- R78: an operation under evaluation and not abandoned has a place beside those of the queue. -/
theorem Evaluator.placesOf_evaluating {e : Evaluator} {op : Operation} {ev : Evaluation} (he : e.state = .evaluating op ev)
    (hhalt : ev.halt ≠ some .abandoned) (q : PositionId) :
    e.placesOf q = Evaluator.placesOf { e with state := .idle } q + if op.position = q then 1 else 0 := by
  simp [Evaluator.placesOf, he, hhalt]

theorem Evaluator.placesOf_chaining {e : Evaluator} {op : Operation} (he : e.state = .chaining op) (q : PositionId) :
    e.placesOf q = Evaluator.placesOf { e with state := .idle } q + if op.position = q then 1 else 0 := by
  simp [Evaluator.placesOf, he]

theorem Evaluator.placesOf_idle_le (e : Evaluator) (q : PositionId) :
    Evaluator.placesOf { e with state := .idle } q ≤ e.placesOf q := Nat.add_le_add_left (Nat.zero_le _) _

theorem Lawful.endEvaluation {op : Operation} {ev : Evaluation} (he : s.evaluator.state = .evaluating op ev)
    (hhalt : ev.halt ≠ some .abandoned) (b : BankId) (status : Reason) : Lawful s ((s.release b).endRating op status) := by
  refine .endRating ((OutlineKept.refl s).release b) (State.setBank_evaluator _ _ _) ?_ status
  rw [Evaluator.placesOf_evaluating he hhalt, if_pos rfl]
  exact Nat.lt_succ_self _

/-- R83, R97: the operation under evaluation is at another step, or between two slots. -/
theorem OutlineKept.nextEvaluatorState {u : State} (hkept : OutlineKept s u) (hevaluator : u.evaluator = s.evaluator)
    {st : EvaluatorState} (hplaces : ∀ p, Evaluator.placesOf { s.evaluator with state := st } p = s.evaluator.placesOf p) :
    OutlineKept s (u.setEvaluatorState st) :=
  OutlineKept.setEvaluatorState (e := s.evaluator) hkept hevaluator hplaces

theorem Lawful.checkStep : Lawful s s.checkStep := by
  unfold State.checkStep
  split
  · next op ev he =>
    split
    · next hhalt _ =>
      have hnot : ev.halt ≠ some .abandoned := by simp [hhalt]
      split
      · refine (OutlineKept.nextEvaluatorState s (.refl s) rfl fun q => ?_).lawful
        rw [Evaluator.placesOf_evaluating he hnot]
        simp [Evaluator.placesOf, hhalt]
      · exact .endEvaluation s he hnot _ _
    · exact .refl s
  · exact .refl s
  · exact .refl s

theorem Lawful.termStep : Lawful s s.termStep := by
  unfold State.termStep
  split
  · next op ev he =>
    split
    · next k w hhalt _ =>
      refine (OutlineKept.nextEvaluatorState s (.refl s) rfl fun q => ?_).lawful
      rw [Evaluator.placesOf_evaluating he (by simp [hhalt])]
      simp [Evaluator.placesOf, (Evaluation.takeTerm_keeps _ k w ev).2.2, hhalt]
    · exact .refl s
  · exact .refl s
  · exact .refl s

theorem State.storeQuote_evaluator (p : PositionId) (k : Slot) (q : Quote) : (s.storeQuote p k q).evaluator = s.evaluator := by
  unfold State.storeQuote
  split
  · split
    · exact State.setItem_evaluator _ _ _ _
    · rfl
  · rfl

theorem Lawful.deliveryStep : Lawful s s.deliveryStep := by
  unfold State.deliveryStep
  split
  · next op ev he =>
    split
    · next w hhalt _ =>
      have hplaces := Evaluator.placesOf_evaluating he (by simp [hhalt])
      have hstored := (OutlineKept.refl s).storeQuote op.position op.slot (ev.quote (s.bank ev.bank).image w)
      dsimp only
      split
      · refine (OutlineKept.nextEvaluatorState s hstored (State.storeQuote_evaluator s _ _ _) fun q => ?_).lawful
        rw [hplaces q]
        rfl
      · rw [State.setEvaluatorState, State.storeQuote_evaluator]
        refine .handRateDone (e := { s.evaluator with state := .idle }) (hstored.withEvaluator _) (Evaluator.placesOf_idle_le _) ?_ _ _
        exact (hplaces op.position).symm ▸ by simp [Operation.delivered]
    · exact .refl s
  · exact .refl s
  · exact .refl s

theorem Lawful.chainStep : Lawful s s.chainStep := by
  unfold State.chainStep
  split
  · next op he =>
    have hplaces := Evaluator.placesOf_chaining he
    dsimp only
    split
    · have hkept := (OutlineKept.refl s).requote op.position (slotAfter op.slot) .rateQueued
      refine (hkept.trans ((OutlineKept.refl _).setEvaluator fun q => ?_)).lawful
      rw [State.requote_evaluator, hplaces q]
      exact Evaluator.placesOf_append { s.evaluator with state := .idle } { op with slot := slotAfter op.slot } q
    · refine .handRateDone (e := { s.evaluator with state := .idle }) (.refl _) (Evaluator.placesOf_idle_le _) ?_ _ _
      rw [hplaces, if_pos rfl]
      exact Nat.lt_succ_self _
  · exact .refl s
  · exact .refl s

theorem Lawful.haltEvaluation : Lawful s s.haltEvaluation := by
  unfold State.haltEvaluation
  split
  · next op ev he =>
    split
    · next hhalt => exact .endEvaluation s he (by simp [hhalt]) _ _
    · next hhalt => exact .endEvaluation s he (by simp [hhalt]) _ _
    · have hreleased := (OutlineKept.refl s).release ev.bank
      refine hreleased.lawful.trans (.setEvaluator (Evaluator.placesOf_idle_le _))
    · exact .refl s
  · exact .refl s
  · exact .refl s

end

end Sys2Proof.Machine
end

section
/-! SUPPORT. Lawful commands: CANCEL, ACCEPT and VOID, the printers, the tariff store, the office and the rebuilding. -/

namespace Sys2Proof.Machine

section
variable (s : State)

/-! ### CANCEL (R22, R101, R102) -/

/-- The first entry found leaves the list, which counts one less wherever that entry counts. -/
theorem countP_eraseP_of_find? {α : Type} {found : α → Bool} (counts : α → Bool) {l : List α} {a : α} (h : l.find? found = some a) :
    l.countP counts = (l.eraseP found).countP counts + if counts a then 1 else 0 := by
  obtain ⟨hfound, before, behind, rfl, hbefore⟩ := List.find?_eq_some_iff_append.mp h
  have hnone : ∀ b ∈ before, ¬found b = true := fun b hb => by simpa using hbefore b hb
  rw [List.eraseP_append_right _ hnone, List.eraseP_cons_of_pos hfound, List.countP_append, List.countP_append, List.countP_cons,
    Nat.add_assoc]

theorem Lawful.cancelWeigh (p : PositionId) (target : Option Slot) : Lawful s (s.cancelWeigh p target).1 := by
  unfold State.cancelWeigh
  split
  · split
    · exact .endWeigh _ _ _
    · exact .refl s
  · exact .refl s

/-- R101: a queued entry leaves the queue with its one place. -/
theorem Lawful.cancelQueued (p : PositionId) {found : Operation → Bool} {op : Operation}
    (hfind : s.evaluator.queue.find? found = some op) :
    Lawful s ((State.returnItem p op.slot
      { s with evaluator := { s.evaluator with queue := s.evaluator.queue.eraseP found } }).handRateDone op op.slot .cancelled) := by
  have hplaces : ∀ q, s.evaluator.placesOf q =
      Evaluator.placesOf { s.evaluator with queue := s.evaluator.queue.eraseP found } q + if op.position = q then 1 else 0 := fun q => by
    simp only [Evaluator.placesOf, countP_eraseP_of_find? _ hfind, decide_eq_true_eq]
    exact Nat.add_right_comm _ _ _
  refine .handRateDone ((OutlineKept.refl _).returnItem p op.slot) (fun q => ?_) ?_ _ _
  · rw [hplaces q]; exact Nat.le_add_right _ _
  · rw [hplaces op.position, if_pos rfl]; exact Nat.lt_succ_self _

theorem Lawful.cancelOperation (p : PositionId) (target : Option Slot) : Lawful s (s.cancelOperation p target) := by
  unfold State.cancelOperation
  split
  · next op hfind =>
    exact .cancelQueued s p hfind
  · split
    · next op ev he =>
      split
      · next hmeant =>
        have hhalt : ev.halt ≠ some .abandoned := by simp [hmeant.2.2]
        refine (OutlineKept.nextEvaluatorState s (.refl s) rfl fun q => ?_).lawful
        rw [Evaluator.placesOf_evaluating he hhalt]
        simp [Evaluator.placesOf]
      · exact .refl s
    · next op he =>
      split
      · refine .handRateDone (e := { s.evaluator with state := .idle }) (.refl _) (Evaluator.placesOf_idle_le _) ?_ _ _
        rw [Evaluator.placesOf_chaining he, if_pos rfl]
        exact Nat.lt_succ_self _
      · exact .refl s
    · exact .refl s

theorem serveCancel_lawful (p : PositionId) (target : Option Slot) : Lawful s (serveCancel p target s).1 := by
  unfold serveCancel
  dsimp only
  split
  · exact (Lawful.cancelWeigh s p target).trans (.cancelOperation _ p target)
  · exact .cancelWeigh s p target

/-! ### ACCEPT and VOID (R134, R135, R137, R138) -/

variable {s} in
theorem WorkCounted.queueJob (h : WorkCounted s) (l : PrinterId) {j : Job} (hbudget : (s.work j.position).budget < 8)
    (hlabels : tget s.labelCounts j.position < 4) : WorkCounted (s.queueJob l j) :=
  (((OutlineKept.refl _).saveQueue l).sendHead l).lawful.counted (h.addJob l hbudget hlabels)

theorem LegalStep.queueJob (l : PrinterId) (j : Job) : LegalStep s (s.queueJob l j) := by
  have hjoined : LegalStep s ((s.setPrinter l { s.printer l with queue := (s.printer l).queue ++ [j] }).countLabels j.position
      (tget s.labelCounts j.position + 1)) := ⟨rfl, id⟩
  exact hjoined.trans (((OutlineKept.refl _).saveQueue l).sendHead l).lawful.toLegalStep

/-- R135: the acceptance of an item of a position with room for a record and a label job. -/
theorem Lawful.acceptItem {p : PositionId} (hbudget : (s.work p).budget < 8) (hlabels : tget s.labelCounts p < 4) (k : Slot)
    (a : AccountId) (l : PrinterId) (office serial : Nat) (i : Item) (q : Quote) :
    Lawful s (s.acceptItem p k a l office serial i q) := by
  have hsaved : ∀ (u : State) (al : Allocator), OutlineKept u (State.saveAllocator { u with allocator := al }) := fun u al =>
    ⟨rfl, rfl, rfl, fun _ => rfl, fun _ => rfl, fun _ => rfl⟩
  unfold State.acceptItem
  dsimp only
  generalize (s.account a).debited q.postage = x
  have hentered := (((OutlineKept.refl s).updateAccount a x).trans (hsaved _ (s.updateAccount a x).allocator.taken)).appendEntry a
    (.accept (saleOf p (itemNumber office serial) i q))
  have hkept := (hentered.releaseQuote i).setItem p k (some (i.acceptedAs (itemNumber office serial)))
  refine ⟨hkept.lawful.toLegalStep.trans (.queueJob _ l _), fun h => (hkept.lawful.counted h).queueJob l ?_ ?_⟩
  · exact (congrArg Work.budget (hkept.work p)).trans_lt hbudget
  · exact (congrArg Work.counted (hkept.work p)).trans_lt hlabels

theorem acceptChecked_lawful (p : PositionId) (k : Slot) (a : AccountId) (key : Fin 16) (i : Item) (q : Quote) :
    Lawful s (s.acceptChecked p k a key i q).1 := by
  unfold State.acceptChecked
  dsimp only
  split
  · exact .refl s
  · split
    · exact .refl s
    · split
      · exact .refl s
      · split
        · split_ifs with _ hfull
          · exact .refl s
          · exact .refl s
          · split
            · exact .refl s
            · obtain ⟨hbudget, hother⟩ := not_or.mp hfull
              rw [State.budget_eq, State.budgetTotal_eq] at hbudget
              exact .acceptItem s (Nat.not_le.mp hbudget) (Nat.not_le.mp (not_or.mp hother).1) k a _ _ _ i q
        · exact .refl s

theorem serveAccept_lawful (p : PositionId) (k : Slot) : Lawful s (serveAccept p k s).1 := by
  unfold serveAccept
  split_ifs
  · exact .refl s
  · exact .refl s
  · split
    · exact .refl s
    · split_ifs
      · exact .refl s
      · exact .refl s
      · split
        · exact acceptChecked_lawful s p k _ _ _ _
        · exact .refl s

/-- R162: a job that is found leaves the queue of its printer and the count of its position. -/
theorem Lawful.withdrawJob (num : Nat) : Lawful s (s.withdrawJob num).1 := by
  unfold State.withdrawJob
  split
  · next l _ =>
    split
    · next j hfind =>
      split
      · have hleft : Lawful s ((s.setPrinter l
            { s.printer l with queue := (s.printer l).queue.eraseP fun x => decide (x.itemNumber = num) }).countLabels j.position
            (tget s.labelCounts j.position - 1)) := by
          refine ⟨⟨rfl, id⟩, fun h => (h.removeJob fun q => ?_).1⟩
          simp only [Printer.jobsOf, countP_eraseP_of_find? _ hfind, decide_eq_true_eq, @eq_comm _ q]
        exact hleft.trans (((OutlineKept.refl _).saveQueue l).sendHead l).lawful
      · exact .refl s
    · exact .refl s
  · exact .refl s

theorem Lawful.voidItem (p : PositionId) (k : Slot) (a : AccountId) (num : Nat) (i : Item) (q : Quote) :
    Lawful s (s.voidItem p k a num i q) := by
  unfold State.voidItem
  dsimp only
  generalize (s.account a).refundedBy q.postage = x
  have hentered := ((OutlineKept.refl s).updateAccount a x).appendEntry a (.void (saleOf p num i q))
  exact (hentered.lawful.trans (.withdrawJob _ num)).trans ((OutlineKept.refl _).setItem p k _).lawful

theorem serveVoid_lawful (p : PositionId) (k : Slot) : Lawful s (serveVoid p k s).1 := by
  unfold serveVoid
  dsimp only
  split
  · exact .refl s
  · split
    · exact .refl s
    · split
      · exact .refl s
      · split
        · split_ifs
          · exact .refl s
          · exact .refl s
          · exact .refl s
          · exact .voidItem s p k _ _ _ _
        · exact .refl s

/-! ### The printers (R157 to R160, R163, R164, R181) -/

/-- R157: the job printed leaves the queue and the count, and its record takes the place of one in the budget. -/
theorem Lawful.finishHead (l : PrinterId) : Lawful s (s.finishHead l) := by
  unfold State.finishHead
  split
  · next j rest hq =>
    have hreported : OutlineKept
        ((s.setPrinter l { s.printer l with state := .ready, queue := rest, timer := none }).countLabels j.position
          (tget s.labelCounts j.position - 1)) _ :=
      ((OutlineKept.refl _).saveQueue l).reportLabel j.position j.itemNumber .printed
    refine Lawful.trans ?_ ((OutlineKept.refl _).sendHead l).lawful
    refine ⟨?_, fun h => ?_⟩
    · have hleft : LegalStep s
          ((s.setPrinter l { s.printer l with state := .ready, queue := rest, timer := none }).countLabels j.position
            (tget s.labelCounts j.position - 1)) := ⟨rfl, id⟩
      exact (hleft.trans hreported.lawful.toLegalStep).trans (.handCompletion _ _)
    · obtain ⟨hcounted, hroom⟩ := h.removeJob (l := l) (p := j.position)
        (pr := { s.printer l with state := .ready, queue := rest, timer := none }) fun q => by
          simp only [Printer.jobsOf, hq, List.countP_cons, decide_eq_true_eq, @eq_comm _ q]
      exact (hreported.lawful.counted hcounted).handCompletion ((congrArg Work.budget (hreported.work _)).trans_lt hroom) _
  · next hq => exact ((OutlineKept.refl s).setPrinter (by rw [hq])).lawful

theorem Lawful.takePrinterAnswer (l : PrinterId) (a : PrinterAnswer) : Lawful s (s.takePrinterAnswer l a) := by
  have hset : ∀ st, OutlineKept s (s.setPrinter l { s.printer l with state := st }) := fun _ => (OutlineKept.refl s).setPrinter rfl
  cases a with
  | done n =>
    simp only [State.takePrinterAnswer, State.takeDone]
    split
    · exact .finishHead s l
    · exact .refl s
  | fault n reason =>
    simp only [State.takePrinterAnswer, State.takeFault]
    split
    · split
      · exact ((OutlineKept.refl s).returnHead l _).lawful
      · exact .refl s
    · exact (hset _).lawful
    · exact (hset _).lawful
    · exact .refl s
  | ready =>
    simp only [State.takePrinterAnswer, State.takeReady]
    split
    · exact ((hset _).sendHead l).lawful
    · exact (((OutlineKept.refl s).returnHead l _).sendHead l).lawful
    · exact .refl s
    · exact .refl s

theorem Lawful.receiveAnswers (l : PrinterId) (bytes : List Byte) : Lawful s (s.receiveAnswers l bytes) := by
  have hline : ∀ lines, OutlineKept s { s with printerLines := lines } := fun _ =>
    ⟨rfl, rfl, rfl, fun _ => rfl, fun _ => rfl, fun _ => rfl⟩
  exact (hline _).lawful.trans (.foldl (fun a s => .takePrinterAnswer s l a) _ _)

theorem Lawful.printTimeout (l : PrinterId) :
    Lawful s (if (s.printer l).state = .printing ∧ (s.printer l).timer.isSome then s.returnHead l (.faulted .timeout) else s) := by
  split
  · exact ((OutlineKept.refl s).returnHead l _).lawful
  · exact .refl s

theorem OutlineKept.setEnabled (l : PrinterId) (enabled : Bool) : OutlineKept s (s.setEnabled l enabled) := by
  have hset : ∀ st, OutlineKept s (s.setPrinter l { s.printer l with state := st }) := fun _ => (OutlineKept.refl s).setPrinter rfl
  unfold State.setEnabled
  split
  · exact (OutlineKept.refl s).returnHead l _
  · exact hset _
  · exact hset _
  · exact .refl s
  · exact (hset _).sendHead l
  · exact .refl s
  · exact .refl s
  · exact .refl s

theorem servePrinter_outlineKept (x : PrinterId × Bool) : OutlineKept s (servePrinter x s).1 := by
  have hset : OutlineKept s (s.setPrinter x.1 { s.printer x.1 with enabled := x.2 }) := (OutlineKept.refl s).setPrinter rfl
  have hsaved : OutlineKept s ((s.setPrinter x.1 { s.printer x.1 with enabled := x.2 }).savePrinter x.1) :=
    hset.trans ⟨rfl, rfl, rfl, fun _ => rfl, fun _ => rfl, fun _ => rfl⟩
  exact hsaved.trans (.setEnabled _ x.1 x.2)

/-- R163: the WAITING jobs change their queue; every position has as many jobs as before. -/
theorem State.labelsOf_moved {source target : PrinterId} (hne : source ≠ target) (p : PositionId) :
    State.labelsOf ((s.setPrinter source
        { s.printer source with queue := (s.printer source).queue.filter fun j => decide (j.condition ≠ .waiting) }).setPrinter target
      { s.printer target with queue := (s.printer target).queue ++ waitingJobs (s.printer source).queue }) p = s.labelsOf p := by
  generalize hleft : ({ s.printer source with
    queue := (s.printer source).queue.filter fun j => decide (j.condition ≠ .waiting) } : Printer) = left
  generalize hjoined : ({ s.printer target with
    queue := (s.printer target).queue ++ waitingJobs (s.printer source).queue } : Printer) = joined
  have hsource := State.labelsOf_replaced (State.setPrinter_printers source left s) p
  have htarget := State.labelsOf_replaced (State.setPrinter_printers target joined (s.setPrinter source left)) p
  have hother : (s.setPrinter source left).printer target = s.printer target := tget_tset_ne _ _ _ _ hne.symm
  have hsplit : (s.printer source).jobsOf p =
      (waitingJobs (s.printer source).queue).countP (fun j => decide (j.position = p)) + left.jobsOf p := by
    rw [← hleft, Printer.jobsOf, Printer.jobsOf, waitingJobs,
      List.countP_eq_countP_filter_add _ _ fun j => decide (j.condition = .waiting)]
    simp only [ne_eq, decide_not]
  have hgrown : joined.jobsOf p =
      (s.printer target).jobsOf p + (waitingJobs (s.printer source).queue).countP fun j => decide (j.position = p) := by
    rw [← hjoined, Printer.jobsOf, List.countP_append, Printer.jobsOf]
  rw [hother] at htarget
  omega

theorem serveRedirect_outlineKept (x : PrinterId × PrinterId) : OutlineKept s (serveRedirect x s).1 := by
  unfold serveRedirect
  dsimp only
  split_ifs with hsame
  · exact .refl s
  · exact .refl s
  · exact .refl s
  · have hmoved : OutlineKept s ((s.setPrinter x.1
          { s.printer x.1 with queue := (s.printer x.1).queue.filter fun j => decide (j.condition ≠ .waiting) }).setPrinter x.2
        { s.printer x.2 with queue := (s.printer x.2).queue ++ waitingJobs (s.printer x.1).queue }) :=
      ⟨rfl, rfl, rfl, fun _ => rfl, fun p => State.work_congr rfl rfl (State.labelsOf_moved s hsame p) rfl, fun _ => rfl⟩
    exact (((hmoved.saveQueue x.1).saveQueue x.2).reportMoved _).sendHead x.2

end

end Sys2Proof.Machine
end

section
/-! SUPPORT. Lawful commands: the office, the tariff store and the rebuilding; and with them every command. -/

namespace Sys2Proof.Machine

section
variable (s : State)

/-! ### Accounts, serials and journal (R129, R130, R140, R149) -/

theorem serveAccount_outlineKept (x : AccountChange) : OutlineKept s (serveAccount x s).1 := by
  unfold serveAccount
  dsimp only
  split
  · exact .refl s
  · exact (OutlineKept.refl s).updateAccount _ _

theorem serveCredit_outlineKept (x : AccountId × Nat) : OutlineKept s (serveCredit x s).1 := by
  unfold serveCredit
  dsimp only
  split_ifs
  · exact .refl s
  · exact .refl s
  · exact .refl s
  · exact .refl s
  · exact ((OutlineKept.refl s).updateAccount _ _).appendEntry _ _

theorem serveBlock_outlineKept (x : Nat × Nat) : OutlineKept s (serveBlock x s).1 := by
  unfold serveBlock
  dsimp only
  split_ifs
  · exact .refl s
  · exact .refl s
  · exact .refl s
  · exact ⟨rfl, rfl, rfl, fun _ => rfl, fun _ => rfl, fun _ => rfl⟩

theorem serveJournalRelease_outlineKept (seq : Word32) : OutlineKept s (serveJournalRelease seq s).1 := by
  unfold serveJournalRelease
  dsimp only
  split
  · exact .refl s
  · exact ⟨rfl, rfl, rfl, fun _ => rfl, fun _ => rfl, fun _ => rfl⟩

/-! ### TIME, FLAGS and RESTART (R171, R172, R176) -/

theorem serveTime_outlineKept (value : Word32) : OutlineKept s (serveTime value s).1 :=
  ⟨rfl, rfl, rfl, fun _ => rfl, fun _ => rfl, fun _ => rfl⟩

theorem serveFlags_outlineKept (actions : List FlagAction) : OutlineKept s (serveFlags actions s).1 := by
  rw [serveFlags_eq]
  exact ⟨rfl, rfl, rfl, fun _ => rfl, fun _ => rfl, fun _ => rfl⟩

/-- R176: empty ports. -/
theorem Lawful.beginRestart : Lawful s s.beginRestart := by
  refine ⟨⟨rfl, fun h => ⟨fun p => ⟨(h.1 p).1, ?_⟩, Nat.zero_le 2⟩⟩, id⟩
  rw [State.beginRestart, tget_tbuild]
  exact Nat.zero_le 4

theorem serveRestart_lawful (code : Option Nat) : Lawful s (serveRestart code s).1 := by
  have hstored : ∀ al, OutlineKept s (State.saveAllocator { s with allocator := al }) := fun al =>
    ⟨rfl, rfl, rfl, fun _ => rfl, fun _ => rfl, fun _ => rfl⟩
  unfold serveRestart
  split
  · exact .beginRestart s
  · exact (hstored _).lawful.trans (.beginRestart _)
  · split
    · exact .beginRestart s
    · exact .refl s

/-! ### The tariff store (R108 to R119) -/

theorem OutlineKept.saveTariffs {u : State} (h : OutlineKept s u) : OutlineKept s u.saveTariffs :=
  h.trans ⟨rfl, rfl, rfl, fun _ => rfl, fun _ => rfl, fun _ => rfl⟩

theorem serveLoadBegin_outlineKept (d : LoadDeclaration) : OutlineKept s (serveLoadBegin d s).1 := by
  unfold serveLoadBegin
  split
  · exact .refl s
  · split
    · exact (OutlineKept.refl s).setBank _ _
    · exact .refl s

theorem serveLoadPart_outlineKept (x : Nat × List Byte) : OutlineKept s (serveLoadPart x s).1 := by
  unfold serveLoadPart
  split
  · exact .refl s
  · dsimp only
    split_ifs
    · exact .refl s
    · exact .refl s
    · exact (OutlineKept.refl s).setBank _ _

theorem OutlineKept.admitImage (b : BankId) : OutlineKept s (s.admitImage b) :=
  OutlineKept.saveTariffs s (((OutlineKept.refl s).setBank b _).setTariffs ⟨_, rfl⟩)

theorem serveLoadEnd_outlineKept (x : Unit) : OutlineKept s (serveLoadEnd x s).1 := by
  unfold serveLoadEnd
  split
  · exact .refl s
  · split
    · exact (OutlineKept.refl s).setBank _ _
    · dsimp only
      split
      · exact (OutlineKept.admitImage s _).activate _
      · exact .admitImage s _

theorem serveLoadAbandon_outlineKept (b : BankId) : OutlineKept s (serveLoadAbandon b s).1 := by
  unfold serveLoadAbandon
  split
  · exact (OutlineKept.refl s).setBank _ _
  · exact .saveTariffs s ((OutlineKept.refl s).setBank _ _)
  · exact .refl s
  · exact .refl s
  · exact .refl s

theorem serveActivate_outlineKept (b : BankId) : OutlineKept s (serveActivate b s).1 := by
  unfold serveActivate
  split
  · exact (OutlineKept.refl s).activate b
  · exact .refl s

theorem OutlineKept.tickTariffs : OutlineKept s s.tickTariffs := by
  have hticked := ((OutlineKept.refl s).tickGrace .A).tickGrace .B
  unfold State.tickTariffs
  dsimp only
  split
  · exact hticked.activate _
  · exact hticked

theorem OutlineKept.graceExpiry (b : BankId) :
    OutlineKept s (match (s.bank b).state, (s.bank b).graceTimer with
      | .retiring, .running _ => s.expireGrace b
      | _, _ => s) := by
  split
  · exact (OutlineKept.refl s).expireGrace b
  · exact .refl s

theorem OutlineKept.loadIdle (b : BankId) :
    OutlineKept s (if (s.bank b).state = .loading ∧ (s.bank b).idleTimer.isSome then s.setBank b .blank else s) := by
  split
  · exact (OutlineKept.refl s).setBank b _
  · exact .refl s

/-! ### The rebuilding (R177) -/

theorem LegalStep.rebuild : LegalStep s s.rebuild := by
  refine ⟨rfl, fun _ => ⟨fun p => ⟨?_, ?_⟩, Nat.zero_le 2⟩⟩
  · rw [State.ctx, State.rebuild, tget_tbuild]
    exact ⟨by simp [PositionContext.rebuilt], by simp [PositionContext.rebuilt], rfl, fun _ => rfl, fun _ => ⟨rfl, rfl⟩,
      fun hst => absurd rfl hst⟩
  · rw [State.rebuild, tget_tbuild]
    exact Nat.zero_le 4

variable {s} in
/-- R165: the jobs of a position that come back from the store are those that the queues held. -/
theorem StoreMatches.rebuild_jobsOf (h : StoreMatches s) (l : PrinterId) (p : PositionId) :
    (s.rebuild.printer l).jobsOf p = (s.printer l).jobsOf p := by
  obtain ⟨-, -, -, -, -, -, -, -, -, -, hprinters⟩ := h
  refine Printer.jobsOf_congr ?_ p
  rw [State.rebuild_printer, Printer.rebuilt, (hprinters l).2, List.map_map, List.map_map]
  rfl

variable {s} in
/-- R161: the count of the stored jobs of a position is the number of its jobs. -/
theorem StoreMatches.storedLabels_eq (h : StoreMatches s) (p : PositionId) : storedLabels s.nvs.queues p = s.labelsOf p := by
  obtain ⟨-, -, -, -, -, -, -, -, -, -, hprinters⟩ := h
  rw [State.labelsOf_eq, storedLabels, sum_toList_map]
  refine Finset.sum_congr rfl fun l _ => ?_
  rw [(hprinters l).2, List.countP_map]
  rfl

variable {s} in
/-- R161, R177: of the work, the label jobs are left, and the spool's count of them. -/
theorem WorkCounted.rebuild (h : WorkCounted s) (hstore : StoreMatches s) : WorkCounted s.rebuild := by
  refine (workCounted_iff _).mpr ⟨fun p => ?_, fun c p k hc => ?_⟩
  · obtain ⟨-, hjobs, -, -⟩ := ((workCounted_iff s).mp h).1 p
    have hctx : s.rebuild.ctx p = .rebuilt (tget s.nvs.positions p) := tget_tbuild _ p
    have hlabels : s.rebuild.labelsOf p = s.labelsOf p := by
      rw [State.labelsOf_eq, State.labelsOf_eq]
      exact Finset.sum_congr rfl fun l _ => hstore.rebuild_jobsOf l p
    have hcounted : tget s.rebuild.labelCounts p = s.labelsOf p := by
      rw [State.rebuild, tget_tbuild, hstore.storedLabels_eq]
    have hfour : s.labelsOf p ≤ 4 := hjobs
    simp only [Work.fits, State.work, Work.budget_eq, hctx, PositionContext.rebuilt, hlabels, hcounted, List.length_nil,
      Option.isSome_none, Bool.false_eq_true, if_false]
    exact ⟨by omega, hfour, trivial, Nat.le_refl 0⟩
  · rw [State.channel, State.rebuild, tget_tbuild] at hc
    cases hc

/-! ### Every command -/

/-- A step that rebuilds the work from the store keeps it counted while the store matches. -/
structure LawfulStored (s u : State) : Prop extends LegalStep s u where
  counted : StoreMatches s → WorkCounted s → WorkCounted u

variable {s}

theorem Lawful.stored {u : State} (h : Lawful s u) : LawfulStored s u := ⟨h.toLegalStep, fun _ => h.counted⟩

theorem LawfulStored.rebuild {u : State} (h : OutlineKept s.rebuild u) : LawfulStored s u :=
  ⟨(LegalStep.rebuild s).trans h.lawful.toLegalStep, fun hstore hs => h.lawful.counted (hs.rebuild hstore)⟩

/-- A command whose service keeps the outline. -/
theorem Lawful.command_outline {α : Type} {serve : α → State → State × OfficeAnswer} (hserve : ∀ a s, OutlineKept s (serve a s).1)
    (code : Byte) (read : List Byte → Option α) (tag : Byte) (payload : List Byte) (s : State) :
    Lawful s (s.command code read tag payload serve) :=
  .command (fun a s => (hserve a s).lawful) code read tag payload s

/-- A request whose service keeps the outline. -/
theorem Lawful.request_outline {α : Type} {serve : α → State → State × Answer} (hserve : ∀ a s, OutlineKept s (serve a s).1)
    (form : RequestForm α) (p : PositionId) (tag : Byte) (payload : List Byte) (s : State) :
    Lawful s (s.request form p tag payload serve) :=
  .request (fun a s => (hserve a s).lawful) form p tag payload s

theorem exec_lawful {u : State} (c : Instr) (hu : exec c s = .next u) : LawfulStored s u := by
  cases c with
  | linkUp p => exact (Lawful.running (Lawful.lineUp p) hu).stored
  | linkDown p => exact (Lawful.running (Lawful.lineDown p) hu).stored
  | positionFrameReceived p bytes => exact (Lawful.running (Lawful.receivePosition p bytes) hu).stored
  | attach p tag payload => exact (Lawful.running (Lawful.attach p tag payload) hu).stored
  | detach p tag payload => exact (Lawful.running (Lawful.request (serveDetach_lawful p) _ p tag payload) hu).stored
  | beginTransaction p tag payload => exact (Lawful.running (Lawful.request (serveBegin_lawful p) _ p tag payload) hu).stored
  | add p tag payload => exact (Lawful.running (Lawful.request_outline (serveAdd_outlineKept p) _ p tag payload) hu).stored
  | amend p tag payload => exact (Lawful.running (Lawful.request_outline (serveAmend_outlineKept p) _ p tag payload) hu).stored
  | drop p tag payload => exact (Lawful.running (Lawful.request_outline (serveDrop_outlineKept p) _ p tag payload) hu).stored
  | weigh p tag payload => exact (Lawful.running (Lawful.request (serveWeigh_lawful p) _ p tag payload) hu).stored
  | zero p tag payload => exact (Lawful.running (Lawful.request_outline (serveZero_outlineKept p) _ p tag payload) hu).stored
  | rate p tag payload => exact (Lawful.running (Lawful.request (serveRate_lawful p) _ p tag payload) hu).stored
  | detail p tag payload => exact (Lawful.running (Lawful.request_outline (serveDetail_outlineKept p) _ p tag payload) hu).stored
  | accept p tag payload => exact (Lawful.running (Lawful.request (fun k s => serveAccept_lawful s p k) _ p tag payload) hu).stored
  | void p tag payload => exact (Lawful.running (Lawful.request (fun k s => serveVoid_lawful s p k) _ p tag payload) hu).stored
  | cancel p tag payload => exact (Lawful.running (Lawful.request (fun x s => serveCancel_lawful s p x) _ p tag payload) hu).stored
  | collect p tag payload => exact (Lawful.running (Lawful.request (serveCollect_lawful p) _ p tag payload) hu).stored
  | finish p tag payload => exact (Lawful.running (Lawful.request (serveFinish_lawful p) _ p tag payload) hu).stored
  | query p tag payload => exact (Lawful.running (Lawful.request_outline (fun _ s => .refl s) _ p tag payload) hu).stored
  | sampleFrame c bytes => exact (Lawful.running (Lawful.receiveSamples · c bytes) hu).stored
  | settleTimerExpiry c => exact (Lawful.running (Lawful.settle · c) hu).stored
  | weighTimerExpiry c => exact (Lawful.running (Lawful.weighTimer · c) hu).stored
  | evaluationStart => exact (Lawful.running Lawful.startEvaluation hu).stored
  | checkStep => exact (Lawful.running Lawful.checkStep hu).stored
  | termStep => exact (Lawful.running Lawful.termStep hu).stored
  | deliveryStep => exact (Lawful.running Lawful.deliveryStep hu).stored
  | chainStep => exact (Lawful.running Lawful.chainStep hu).stored
  | evaluationHalt => exact (Lawful.running Lawful.haltEvaluation hu).stored
  | officeFrameReceived input => exact (Lawful.running (Lawful.receiveOffice input) hu).stored
  | status tag payload => exact (Lawful.running (Lawful.command_outline (fun _ s => .refl s) _ _ tag payload) hu).stored
  | time tag payload => exact (Lawful.running (Lawful.command_outline (fun x s => serveTime_outlineKept s x) _ _ tag payload) hu).stored
  | flags tag payload => exact (Lawful.running (Lawful.command_outline (fun x s => serveFlags_outlineKept s x) _ _ tag payload) hu).stored
  | position tag payload => exact (Lawful.running (Lawful.command servePosition_lawful _ _ tag payload) hu).stored
  | scale tag payload => exact (Lawful.running (Lawful.command serveScale_lawful _ _ tag payload) hu).stored
  | printer tag payload => exact (Lawful.running (Lawful.command_outline (fun x s => servePrinter_outlineKept s x) _ _ tag payload) hu).stored
  | redirect tag payload =>
    exact (Lawful.running (Lawful.command_outline (fun x s => serveRedirect_outlineKept s x) _ _ tag payload) hu).stored
  | account tag payload => exact (Lawful.running (Lawful.command_outline (fun x s => serveAccount_outlineKept s x) _ _ tag payload) hu).stored
  | credit tag payload => exact (Lawful.running (Lawful.command_outline (fun x s => serveCredit_outlineKept s x) _ _ tag payload) hu).stored
  | block tag payload => exact (Lawful.running (Lawful.command_outline (fun x s => serveBlock_outlineKept s x) _ _ tag payload) hu).stored
  | loadBegin tag payload =>
    exact (Lawful.running (Lawful.command_outline (fun x s => serveLoadBegin_outlineKept s x) _ _ tag payload) hu).stored
  | loadPart tag payload =>
    exact (Lawful.running (Lawful.command_outline (fun x s => serveLoadPart_outlineKept s x) _ _ tag payload) hu).stored
  | loadEnd tag payload => exact (Lawful.running (Lawful.command_outline (fun x s => serveLoadEnd_outlineKept s x) _ _ tag payload) hu).stored
  | loadAbandon tag payload =>
    exact (Lawful.running (Lawful.command_outline (fun x s => serveLoadAbandon_outlineKept s x) _ _ tag payload) hu).stored
  | activate tag payload =>
    exact (Lawful.running (Lawful.command_outline (fun x s => serveActivate_outlineKept s x) _ _ tag payload) hu).stored
  | journalRead tag payload => exact (Lawful.running (Lawful.command_outline (fun _ s => .refl s) _ _ tag payload) hu).stored
  | journalRelease tag payload =>
    exact (Lawful.running (Lawful.command_outline (fun x s => serveJournalRelease_outlineKept s x) _ _ tag payload) hu).stored
  | restart tag payload => exact (Lawful.running (Lawful.command (fun x s => serveRestart_lawful s x) _ _ tag payload) hu).stored
  | restartRebuild =>
    simp only [exec, execRestartRebuild] at hu
    split at hu
    · cases hu
      exact .rebuild (OutlineKept.sendHeads ⟨rfl, rfl, rfl, fun _ => rfl, fun _ => rfl, fun _ => rfl⟩)
    · cases hu
      exact (OutlineKept.sent s []).lawful.stored
  | powerOn kept =>
    cases hu
    exact .rebuild (OutlineKept.sendHeads ⟨rfl, rfl, rfl, fun _ => rfl, fun _ => rfl, fun _ => rfl⟩)
  | supplyFailure =>
    cases hu
    exact .rebuild ⟨rfl, rfl, rfl, fun _ => rfl, fun _ => rfl, fun _ => rfl⟩
  | supplySample microvolts =>
    cases hu
    refine (OutlineKept.lawful ?_).stored
    exact ⟨rfl, rfl, rfl, fun _ => rfl, fun _ => rfl, fun _ => rfl⟩
  | tick =>
    have hclock : OutlineKept s { s with clock := s.clock.advanced } := ⟨rfl, rfl, rfl, fun _ => rfl, fun _ => rfl, fun _ => rfl⟩
    exact (hclock.lawful.trans (.running (fun s => (OutlineKept.tickTariffs s).lawful) hu)).stored
  | graceExpiry b => exact (Lawful.running (fun s => (OutlineKept.graceExpiry s b).lawful) hu).stored
  | loadIdleTimeout b => exact (Lawful.running (fun s => (OutlineKept.loadIdle s b).lawful) hu).stored
  | printerDone l noise n reason check => exact (Lawful.running (Lawful.receiveAnswers · l _) hu).stored
  | printerFault l noise n reason check => exact (Lawful.running (Lawful.receiveAnswers · l _) hu).stored
  | printerReady l noise n reason check => exact (Lawful.running (Lawful.receiveAnswers · l _) hu).stored
  | printTimeout l => exact (Lawful.running (Lawful.printTimeout · l) hu).stored
  | unknownRequestCode p code tag payload =>
    simp only [exec, execUnknownRequestCode] at hu
    refine (Lawful.running (fun s => ?_) hu).stored
    split
    · exact .refl s
    · exact .request nofun _ p tag payload s
  | unknownCommandCode code tag payload =>
    simp only [exec, execUnknownCommandCode] at hu
    refine (Lawful.running (fun s => ?_) hu).stored
    split
    · exact .refl s
    · exact .command nofun _ _ tag payload s

end

end Sys2Proof.Machine
end

section
/-! ANSWERS. The queue of commands left alone (O2), the contexts and ports (O54), and the budgets and rating work (O55). -/

namespace Sys2Proof.Machine

/-- Events that wait for the module to run, and events that do not, all lead to a next state. -/
theorem exec_next (c : Instr) (s : State) : ∃ u, exec c s = .next u := by
  cases c <;> exact ⟨_, rfl⟩

/-- A step is that of the front command on the rest of the queue, or idling. -/
theorem step_lawful {s u : State} (h : step s = .next u) : ∃ rest, LawfulStored { s with pending := rest } u := by
  unfold step at h
  split at h
  · next c rest _ => exact ⟨rest, exec_lawful c h⟩
  · cases h
    exact ⟨s.pending, (Lawful.refl s).stored⟩

/-- Settles O2: no arm of the dispatch faults or refuses, and no command touches the commands that wait. -/
theorem everyCommandCompletes : Obligations.EveryCommandCompletes := by
  intro c s
  obtain ⟨u, hu⟩ := exec_next c s
  exact ⟨u, hu, (exec_lawful c hu).pending⟩

/-- Settles O54: each command leaves the contexts' outline and the ports alone, sets one context as R1 allows, or rebuilds them all. -/
theorem contextsStayLegal : Obligations.ContextsStayLegal := by
  intro s u hlegal hstep
  obtain ⟨rest, hlawful⟩ := step_lawful hstep
  exact hlawful.legal hlegal

/-- Settles O55: each command gives work up, takes work on where its checks found room, or rebuilds the label jobs from the store. -/
theorem budgetsStayBounded : Obligations.BudgetsStayBounded := by
  intro s u _ hstore hcounted hstep
  obtain ⟨rest, hlawful⟩ := step_lawful hstep
  exact hlawful.counted hstore hcounted

end Sys2Proof.Machine
end

section
/-! ANSWERS. The lines, ATTACH, COLLECT and what only reads (O7, O9, O11, O12). -/

namespace Sys2Proof.Machine

/-- Settles O7: the module runs, so the event is taken. -/
theorem linkUpLinksEnabledPosition : Obligations.LinkUpLinksEnabledPosition := by
  intro p s hrun
  exact State.running_on _ s hrun

/-! ### ATTACH (R11) -/

theorem readAttach_ofNat (a : AccountId) (k : Fin 16) : readAttach [BitVec.ofNat 8 a.val, BitVec.ofNat 8 k.val] = some (a, k) := by
  simp only [readAttach, readFin_ofNat (by decide : 4 ≤ 256), readFin_ofNat (by decide : 16 ≤ 256)]

/-- R11: the checks of ATTACH in their order. -/
theorem serveAttach_eq (p : PositionId) (a : AccountId) (k : Fin 16) (s : State) :
    serveAttach p (a, k) s =
      if (s.ctx p).config.allowed.getLsbD a.val = false then (s, .refuse .protection)
      else if (s.account a).key ≠ k then (s, .refuse .protection)
      else if (s.account a).status ≠ .opened then (s, .refuse .accountBlocked)
      else
        (s.setCtx p { s.ctx p with account := some a, key := some k, state := .attached },
          .taken [BitVec.ofNat 8 a.val, boolByte (s.account a).low]) := by
  simp only [serveAttach, ne_comm (a := k)]

/-- Settles O9: outside LINKED the request is not served; in LINKED the checks of R11 follow in their order. -/
theorem attachChecksAndEffect : Obligations.AttachChecksAndEffect := by
  intro p tag a k rest s hw f
  have hread : attachForm.read [BitVec.ofNat 8 a.val, BitVec.ofNat 8 k.val] = some (a, k) := readAttach_ofNat a k
  by_cases hlinked : (s.ctx p).state = .linked
  · have hserved : attachForm.served (s.ctx p).state = true := by rw [hlinked]; rfl
    have hserve := serveAttach_eq p a k (s.afterRequest p rest [])
    rw [State.afterRequest_ctx, State.afterRequest_account] at hserve
    rw [if_neg (not_not.mpr hlinked)]
    split_ifs at hserve ⊢
    · exact State.running_request_answered hw hread hserved nofun hserve
    · exact State.running_request_answered hw hread hserved nofun hserve
    · exact State.running_request_answered hw hread hserved nofun hserve
    · exact State.running_request_answered hw hread hserved nofun hserve
  · have hunserved : attachForm.served (s.ctx p).state = false := by
      cases hst : (s.ctx p).state with
      | linked => exact absurd hst hlinked
      | offline => rfl
      | attached => rfl
      | inTransaction => rfl
    rw [if_pos hlinked]
    exact State.running_request_unserved attachForm p tag _ (serveAttach p) rest (a, k) s hw hread hunserved

/-! ### COLLECT (R20) -/

theorem servedOnline_of_ne {st : PositionState} (h : st ≠ .offline) : servedOnline st = true := by
  cases st with
  | offline => exact absurd rfl h
  | linked => rfl
  | attached => rfl
  | inTransaction => rfl

/-- Settles O11, by whether a record is held. -/
theorem collectTakesOldestRecord : Obligations.CollectTakesOldestRecord := by
  intro p tag rest s hw hon
  have hserved : collectForm.served (s.ctx p).state = true := servedOnline_of_ne hon
  split
  · next r others hrecords =>
    have hserve : serveCollect p () (s.afterRequest p rest []) =
        ((s.afterRequest p rest []).setCtx p { s.ctx p with completions := others },
          .taken ([0x01, BitVec.ofNat 8 others.length] ++ r.bytes)) := by
      simp only [serveCollect, State.afterRequest_ctx, hrecords]
    exact State.running_request_answered hw rfl hserved nofun hserve
  · next hrecords =>
    have hserve : serveCollect p () (s.afterRequest p rest []) = (s.afterRequest p rest [], .taken [0x00, 0x00]) := by
      simp only [serveCollect, State.afterRequest_ctx, hrecords]
    exact State.running_request_answered hw rfl hserved nofun hserve

/-! ### What only reads (R21, R31, R148, R175) -/

theorem readJournalRead_some {n : Byte} (hlow : 1 ≤ n.toNat) (hhigh : n.toNat ≤ 16) : readJournalRead [n] = some n.toNat :=
  if_pos ⟨hlow, hhigh⟩

/-- R148: the answer of JOURNAL-READ, part by part. -/
theorem Journal.readBytes_eq (j : Journal) (n : Nat) :
    j.readBytes n = (j.entries.take n).flatMap JournalEntry.bytes ++ leBytes 2 j.entries.length ++
      [boolByte (decide (1920 ≤ j.entries.length))] ++ leBytes 4 j.next.toNat := by
  simp only [Journal.readBytes, Journal.statusBytes, Journal.nearFull, List.append_assoc]
  rfl

/-- Settles O12: each of the four answers from the state it finds. -/
theorem readingChangesNothing : Obligations.ReadingChangesNothing := by
  refine ⟨fun p tag rest s hw hon => ?_, fun p tag k rest t i s hw => ?_, fun tag rest s hw => ?_,
    fun tag n rest s hw hlow hhigh => ?_⟩
  · exact State.running_request_answered (form := queryForm) (serve := fun _ s => (s, .taken (s.queryBytes p))) hw rfl
      (servedOnline_of_ne hon) nofun rfl
  · obtain ⟨-, -, ht, hi⟩ := id hw
    have hserve : serveDetail p k (s.afterRequest p rest []) = (s.afterRequest p rest [], .taken i.bytes) := by
      have hitem : (s.afterRequest p rest []).item p k = some i := (State.item_of_transaction (s := s.afterRequest p rest []) ht k).trans hi
      simp only [serveDetail, hitem]
    exact State.running_slotRequest_answered hw hserve
  · exact State.running_command_answered (serve := fun _ s => (s, .done s.statusBytes)) hw rfl rfl
  · rw [← Journal.readBytes_eq]
    exact State.running_command_answered (serve := fun n s => (s, .done (s.journal.readBytes n))) hw
      (readJournalRead_some hlow hhigh) rfl

end Sys2Proof.Machine
end

section
/-! ANSWERS. The module after its reset (O60). -/

namespace Sys2Proof.Machine

/-! ### What each unit is after the reset -/

@[simp] theorem reset_ctx (p : PositionId) : State.reset.ctx p = .unwritten := tget_replicate _ p
@[simp] theorem reset_channel (c : ChannelId) : State.reset.channel c = .unwritten := tget_replicate _ c
@[simp] theorem reset_printer (l : PrinterId) : State.reset.printer l = .unwritten := tget_replicate _ l
@[simp] theorem reset_account (a : AccountId) : State.reset.account a = .unwritten := tget_replicate _ a
@[simp] theorem reset_bank (b : BankId) : State.reset.bank b = .blank := by cases b <;> rfl

theorem reset_evaluator : State.reset.evaluator.state = .idle := rfl

theorem reset_item (p : PositionId) (k : Slot) : State.reset.item p k = none := by
  rw [State.item, reset_ctx]
  rfl

/-- A sum over the positions in which none takes part. -/
theorem sum_reset_positions {f : PositionContext → Nat} (hf : f .unwritten = 0) : (State.reset.positions.toList.map f).sum = 0 := by
  have hall : ∀ p, f (tget State.reset.positions p) = 0 := fun p => by rw [← State.ctx, reset_ctx, hf]
  rw [sum_toList_map, Finset.sum_eq_zero fun p _ => hall p]

/-! ### The invariants -/

theorem reset_accountsSound : AccountsSound State.reset := fun a => by
  have hsales : State.reset.openSales a = 0 := sum_reset_positions rfl
  rw [reset_account, hsales]
  exact ⟨⟨rfl, by decide, by decide, by decide, rfl⟩, Nat.le_refl 0⟩

theorem Journal.unwritten_sound : Journal.unwritten.sound := ⟨by decide, by simp [Journal.unwritten]⟩

theorem Allocator.unwritten_sound : Allocator.unwritten.sound :=
  ⟨by decide, by simp [Allocator.unwritten], List.Pairwise.nil, by decide, rfl⟩

theorem reset_storeMatches : StoreMatches State.reset := by
  refine ⟨rfl, rfl, rfl, rfl, rfl, rfl, rfl, rfl, fun p => ?_, fun c => ?_, fun l => ?_⟩
  · rw [reset_ctx]; exact tget_replicate _ p
  · rw [reset_channel]; exact tget_replicate _ c
  · rw [reset_printer]; exact ⟨tget_replicate _ l, tget_replicate _ l⟩

theorem reset_contextsLegal : ContextsLegal State.reset := by
  refine ⟨fun p => ⟨?_, ?_⟩, Nat.zero_le 2⟩
  · rw [reset_ctx]
    exact ⟨by simp [PositionContext.unwritten], by simp [PositionContext.unwritten], rfl, fun _ => rfl, fun _ => ⟨rfl, rfl⟩,
      fun hst => absurd rfl hst⟩
  · exact (congrArg (fun port : Port => port.held.length) (tget_replicate Port.quiet p)).trans_le (Nat.zero_le 4)

theorem reset_workCounted : WorkCounted State.reset := by
  refine (workCounted_iff _).mpr ⟨fun p => ?_, fun c p k hc => ?_⟩
  · have hcounted : tget State.reset.labelCounts p = 0 := tget_replicate 0 p
    have hjobs : State.reset.labelsOf p = 0 := by
      rw [State.labelsOf_eq]
      exact Finset.sum_eq_zero fun l _ => by rw [reset_printer]; rfl
    simp only [Work.fits, State.work, Work.budget_eq, reset_ctx, hcounted, hjobs]
    exact ⟨by decide, by decide, trivial, Nat.le_refl 0⟩
  · rw [reset_channel] at hc
    cases hc

theorem reset_referencesCounted : ReferencesCounted State.reset := by
  refine ⟨fun b => ?_, fun p k i hi => ?_, fun op ev he => ?_, fun b hb => ?_, fun b hb => ?_, ?_⟩
  · have hquotes : State.reset.quotesOn b = 0 := sum_reset_positions rfl
    rw [reset_bank, hquotes]
    rfl
  · rw [reset_item] at hi; cases hi
  · rw [reset_evaluator] at he; cases he
  · simp [Bank.blank] at hb
  · simp [Bank.blank] at hb
  · simp [Bank.blank]

theorem Channel.unwritten_sound : Channel.unwritten.sound := by
  simp [Channel.sound, Channel.unwritten, ScaleConfig.unwritten]

theorem Printer.unwritten_sound : Printer.unwritten.sound := by
  simp [Printer.sound, Printer.unwritten]

/-- Settles O60: every table holds one unwritten unit throughout, and every sum over it is 0. -/
theorem resetMeetsInvariants : Obligations.ResetMeetsInvariants := by
  refine ⟨reset_accountsSound, ⟨Journal.unwritten_sound, Journal.unwritten_sound⟩,
    ⟨Allocator.unwritten_sound, Allocator.unwritten_sound⟩, reset_storeMatches, reset_contextsLegal, reset_workCounted,
    reset_referencesCounted, fun c => ?_, fun op ev he => ?_, fun l => ?_, rfl, fun p => ?_, fun c => ?_, fun l => ?_, fun a => ?_, fun b => ?_,
    rfl, rfl, rfl, rfl⟩
  · rw [reset_channel]; exact Channel.unwritten_sound
  · rw [reset_evaluator] at he; cases he
  · rw [reset_printer]; exact ⟨Nat.zero_le 16, fun _ => Printer.unwritten_sound⟩
  · rw [reset_ctx]; exact ⟨rfl, rfl⟩
  · rw [reset_channel]; rfl
  · rw [reset_printer]; rfl
  · rw [reset_account]; exact ⟨rfl, rfl⟩
  · rw [reset_bank]; rfl

end Sys2Proof.Machine
end

section
/-! ANSWERS. The restart, the supply, and the rebuilding from the store (O49, O50). -/

namespace Sys2Proof.Machine

/-! ### The rebuilding (R177) and the sends after it (R165) -/

theorem tbuild_const {α : Type} {n : Nat} (x : α) : tbuild n (fun _ => x) = Vector.replicate n x :=
  table_ext fun i => by rw [tget_tbuild, tget_replicate]

/-- R177: the model's rebuilding is the one that Safety writes down, table by table. -/
theorem State.rebuild_eq (s : State) : s.rebuild = s.fromStore := by
  unfold State.rebuild State.fromStore
  simp only [tbuild_tget, tbuild_const]
  rfl

theorem State.sendHeads_eq (s : State) : s.sendHeads = s.withHeadsSent := by
  simp only [State.sendHeads, State.sendHead_eq, State.withHeadsSent, List.foldl_cons, List.foldl_nil]

/-! ### Events while the module does not run (R176) -/

/-- R176, R177: but for the supply's own commands, the rebuilding and the clock's tick, an event reaches its block only while the module runs. -/
theorem exec_eq_running (c : Instr) (s : State) (hpower : ∀ kept, c ≠ .powerOn kept) (hfailure : c ≠ .supplyFailure)
    (hsample : ∀ microvolts, c ≠ .supplySample microvolts) (hrebuild : c ≠ .restartRebuild) (htick : c ≠ .tick) :
    ∃ f, exec c s = s.running f := by
  cases c with
  | powerOn kept => exact absurd rfl (hpower kept)
  | supplyFailure => exact absurd rfl hfailure
  | supplySample microvolts => exact absurd rfl (hsample microvolts)
  | restartRebuild => exact absurd rfl hrebuild
  | tick => exact absurd rfl htick
  | graceExpiry b => exact ⟨_, by rw [exec, execGraceExpiry]⟩
  | unknownRequestCode p code tag payload => exact ⟨_, by rw [exec, execUnknownRequestCode]⟩
  | unknownCommandCode code tag payload => exact ⟨_, by rw [exec, execUnknownCommandCode]⟩
  | _ => exact ⟨_, rfl⟩

/-! ### RESTART (R176) -/

theorem State.beginRestart_eq (s : State) :
    s.beginRestart = { s with power := .restarting, ports := Vector.replicate 16 .quiet, officePort := .quiet } := by
  rw [State.beginRestart, tbuild_const]

/-- R176: RESTART with KEEP, or with the office code held. -/
theorem serveRestart_taken {code : Option Nat} {s : State} (h : code = none ∨ code = s.allocator.officeCode) :
    serveRestart code s = (s.beginRestart, .done []) := by
  cases code with
  | none => rfl
  | some x =>
    have hheld : s.allocator.officeCode = some x := (h.resolve_left nofun).symm
    simp only [serveRestart, hheld, if_true]

/-- R176: RESTART with the first office code. -/
theorem serveRestart_first {x : Nat} {s : State} (h : s.allocator.officeCode = none) :
    serveRestart (some x) s =
      ((State.saveAllocator { s with allocator := { s.allocator with officeCode := some x } }).beginRestart, .done []) := by
  simp only [serveRestart, h]

/-- R176: RESTART with a code other than the one held. -/
theorem serveRestart_refused {x y : Nat} {s : State} (h : s.allocator.officeCode = some y) (hne : x ≠ y) :
    serveRestart (some x) s = (s, .refused .state []) := by
  simp only [serveRestart, h, if_neg hne]

/-- Settles O49: RESTART by its code, and the rebuilding by whether a restart is in progress. -/
theorem restartRebuildsFromStore : Obligations.RestartRebuildsFromStore := by
  refine ⟨fun tag code payload rest s hread hw => ⟨fun hcode => ?_, fun x hx hnone => ?_, fun x y hx hy hne => ?_⟩,
    fun s hrestarting => ?_, fun s hnot => ?_, fun c s hoff hpower hfailure hsample hrebuild htick => ?_⟩
  · have hserve := serveRestart_taken (s := s.afterCommand rest []) hcode
    rw [State.beginRestart_eq] at hserve
    exact State.running_command_answered hw hread hserve
  · have hserve := serveRestart_first (x := x) (s := s.afterCommand rest []) hnone
    rw [State.beginRestart_eq] at hserve
    exact State.running_command_answered hw (hread.trans (congrArg some hx)) hserve
  · have hserve := serveRestart_refused (s := s.afterCommand rest []) hy hne
    exact State.running_command_answered hw (hread.trans (congrArg some hx)) hserve
  · rw [← State.sendHeads_eq, ← State.rebuild_eq]
    simp only [exec, execRestartRebuild, if_pos hrestarting]
  · simp only [exec, execRestartRebuild, if_neg hnot]
  · obtain ⟨f, hf⟩ := exec_eq_running c s hpower hfailure hsample hrebuild htick
    rw [hf, State.running_off f s hoff]

/-- R131: the supply monitor after a sample. -/
theorem Supply.sampled_eq (microvolts : Nat) (x : Supply) :
    x.sampled microvolts =
      if x = .normal ∧ microvolts < 4600000 then .hold else if x = .hold ∧ 4750000 < microvolts then .normal else x := by
  cases x with
  | normal => by_cases h : microvolts < 4600000 <;> simp [Supply.sampled, Config.holdBelow, h]
  | hold => by_cases h : 4750000 < microvolts <;> simp [Supply.sampled, Config.normalAbove, h]

/-- Settles O50: the rebuilding with the supply's own changes, and the monitor's two thresholds. -/
theorem powerAndSupply : Obligations.PowerAndSupply := by
  refine ⟨fun kept s => ?_, fun s => ?_, fun microvolts s hoff => ?_, fun microvolts s hon => ?_⟩
  · rw [← State.sendHeads_eq, ← State.rebuild_eq]
    rfl
  · rw [← State.rebuild_eq]
    rfl
  · simp only [exec, execSupplySample, if_pos hoff]
  · simp only [exec, execSupplySample, if_neg hon, Supply.sampled_eq]

end Sys2Proof.Machine
end

section
/-! SUPPORT. The forced detach (R14) outside the position's own context: the channels, the rating work and the references that its quotes give back. -/

namespace Sys2Proof.Machine

/-- R32: the quotes of a transaction are released between the tariff stores, whatever else has changed. -/
theorem quotesReleased.congr {t : Option Transaction} {s u s' u' : State} (h : quotesReleased t s u) (hs : s'.tariffs = s.tariffs)
    (hu : u'.tariffs = u.tariffs) : quotesReleased t s' u' := by
  unfold quotesReleased
  rw [State.bank_congr hs, State.bank_congr hu, hs, hu]
  exact h

theorem quotesReleased_none (s : State) : quotesReleased none s s := ⟨fun _ => rfl, rfl, rfl⟩

theorem State.releaseAll_released (t : Transaction) (s : State) : quotesReleased (some t) s (s.releaseAll t) :=
  ⟨fun b => State.releaseAll_bank t b s, State.releaseAll_counters t s⟩

/-- R14, R32: the forced detach of a position in ATTACHED or IN-TRANSACTION, unit by unit. -/
theorem State.forcedDetach_clerked {p : PositionId} {s : State} (h : (s.ctx p).state.clerked = true) :
    ∃ ts, quotesReleased (s.ctx p).transaction s { s with tariffs := ts } ∧
      s.forcedDetach p =
        { s with
          positions := tset s.positions p (s.ctx p).cleared, channels := tbuild 8 fun c => (s.channel c).dropOwner p
          evaluator := s.evaluator.abandon p, tariffs := ts } := by
  unfold State.forcedDetach
  rw [if_pos h]
  cases (s.ctx p).transaction with
  | some t =>
    dsimp only
    generalize hs1 : ({ s with
      channels := tbuild 8 fun c => (s.channel c).dropOwner p, evaluator := s.evaluator.abandon p } : State) = s1
    obtain ⟨ts, hts⟩ := State.releaseAll_shape t s1
    have hreleased := State.releaseAll_released t s1
    subst hs1
    rw [hts] at hreleased ⊢
    exact ⟨ts, hreleased.congr rfl rfl, rfl⟩
  | none => exact ⟨s.tariffs, quotesReleased_none s, rfl⟩

/-- R57: a channel from which the weigh of a position is gone. -/
theorem Channel.dropOwner_eq (p : PositionId) (ch : Channel) :
    ch.dropOwner p = if ∃ k, ch.weigh = .waiting p k then { ch with weigh := .idle, weighTimer := none } else ch := by
  unfold Channel.dropOwner
  split
  · next q k hw =>
    by_cases hq : q = p
    · subst hq
      rw [if_pos rfl, if_pos ⟨k, hw⟩]
      rfl
    · rw [if_neg hq, if_neg fun ⟨m, hm⟩ => hq (WeighState.waiting.inj (hw.symm.trans hm)).1]
  · next hw => rw [if_neg fun ⟨m, hm⟩ => by rw [hw] at hm; cases hm]

/-- R14: a state reached from `s` by the forced detach of `p`, whatever else its cause then does to the position's own context. -/
theorem ForcedDetached.of_units {p : PositionId} {s u : State} (hquotes : quotesReleased (s.ctx p).transaction s u)
    (hctx : ∀ q, q ≠ p → u.ctx q = s.ctx q) (hchannels : u.channels = tbuild 8 fun c => (s.channel c).dropOwner p)
    (hevaluator : u.evaluator = s.evaluator.abandon p) : ForcedDetached p s u := by
  refine ⟨hctx, fun c => ?_, by rw [hevaluator]; rfl, by rw [hevaluator]; rfl, hquotes⟩
  rw [State.channel, hchannels, tget_tbuild, Channel.dropOwner_eq]

theorem PositionState.clerked_iff (st : PositionState) : st.clerked = true ↔ st = .attached ∨ st = .inTransaction := by
  cases st <;> simp [PositionState.clerked]

end Sys2Proof.Machine
end

section
/-! ANSWERS. The three causes of a forced detach: LINK-DOWN (O8), DETACH (O10) and POSITION (O35). -/

namespace Sys2Proof.Machine

/-! ### LINK-DOWN (R4) -/

/-- Settles O8, by whether the position is attached. -/
theorem linkDownDetaches : Obligations.LinkDownDetaches := by
  intro p s hrun
  refine ⟨_, State.running_on _ s hrun, ?_⟩
  generalize hs1 : (State.setCtx p { s.ctx p with linePresent := false }
    { s with ports := tset s.ports p .quiet, sent := [] } : State) = s1
  have hctx : s1.ctx p = { s.ctx p with linePresent := false } := by rw [← hs1, State.setCtx_ctx_self]
  have hdown : State.lineDown p { s with sent := [] } = (s1.forcedDetach p).setPositionState p .offline := by rw [← hs1]; rfl
  rw [hdown]
  split
  · next hattached =>
    obtain ⟨ts, hts, hdetached⟩ := State.forcedDetach_clerked (p := p) (s := s1)
      (by rw [hctx]; exact (PositionState.clerked_iff _).mpr hattached)
    rw [hdetached]
    rw [hctx] at hts ⊢
    subst hs1
    refine ⟨rfl, rfl, ?_, .of_units (hts.congr rfl rfl) (fun q hq => ?_) rfl rfl, ?_⟩
    · simp [State.setPositionState, State.ctx, State.setCtx, PositionContext.cleared]
    · simp [State.setPositionState, State.ctx, State.setCtx, tget_tset_ne _ _ _ _ hq]
    · simp [State.setPositionState, State.ctx, State.setCtx, PositionContext.cleared]
  · next hattached =>
    rw [State.forcedDetach_unattached p s1 (by
      rw [hctx, Bool.eq_false_iff]; exact mt (PositionState.clerked_iff _).mp hattached)]
    subst hs1
    refine ⟨rfl, rfl, ?_⟩
    simp [State.setPositionState, State.ctx, State.setCtx]

/-! ### DETACH (R12) -/

/-- Settles O10, by the state of the position. -/
theorem detachClearsPosition : Obligations.DetachClearsPosition := by
  intro p tag rest s hw
  refine ⟨fun hlinked => ?_, fun hattached => ?_⟩
  · have hserve : serveDetach p () (s.afterRequest p rest []) = (s.afterRequest p rest [], .taken [0x00]) := by
      simp only [serveDetach, State.afterRequest_ctx, hlinked, PositionState.clerked, Bool.false_eq_true, if_false]
    exact State.running_request_answered (form := detachForm) hw rfl (by rw [hlinked]; rfl) nofun hserve
  · have hclerked := (PositionState.clerked_iff _).mpr hattached
    have hserved : detachForm.served (s.ctx p).state = true := servedOnline_of_ne (by rintro hoff; rw [hoff] at hclerked; cases hclerked)
    obtain ⟨ts, hts, hdetached⟩ := State.forcedDetach_clerked (p := p) (s := s.afterRequest p rest []) hclerked
    have hserve : serveDetach p () (s.afterRequest p rest []) =
        (State.setPositionState p .linked ((s.afterRequest p rest []).forcedDetach p),
          .taken [BitVec.ofNat 8 (s.ctx p).completions.length]) := by
      simp only [serveDetach, State.afterRequest_ctx, hclerked, if_true]
    rw [hdetached] at hserve
    refine ⟨_, State.running_request_answered (form := detachForm) hw rfl hserved nofun hserve, rfl, ?_,
      .of_units (hts.congr rfl rfl) (fun q hq => ?_) rfl rfl, rfl⟩
    · simp [State.setPositionState, State.ctx, State.setCtx, PositionContext.cleared, State.afterRequest]
    · simp [State.setPositionState, State.ctx, State.setCtx, State.afterRequest, tget_tset_ne _ _ _ _ hq]

/-! ### POSITION (R5, R46, R173) -/

/-- R46, R173: a position counts for a channel by its configuration, or by a weigh still held there. -/
theorem State.countsFor_iff (s : State) (c : ChannelId) (q : PositionId) :
    s.countsFor c q = true ↔ (s.ctx q).config.scale = some c ∨ ∃ k, (s.channel c).weigh = .waiting q k := by
  unfold State.countsFor
  cases (s.channel c).weigh with
  | idle => simp
  | waiting owner k => simp

/-- Two entries of a table that is filtered. -/
theorem two_le_length_filter_finRange {n : Nat} (P : Fin n → Bool) :
    2 ≤ ((List.finRange n).filter P).length ↔ ∃ q r, q ≠ r ∧ P q = true ∧ P r = true := by
  rw [← List.toFinset_card_of_nodup ((List.nodup_finRange n).filter P), ← Nat.lt_iff_add_one_le, Finset.one_lt_card_iff]
  simp only [List.mem_toFinset, List.mem_filter, List.mem_finRange, true_and]
  exact ⟨fun ⟨q, r, hq, hr, hne⟩ => ⟨q, r, hne, hq, hr⟩, fun ⟨q, r, hne, hq, hr⟩ => ⟨q, r, hq, hr, hne⟩⟩

/-- R46, R173: POSITION is FULL for a channel for which two other positions count. -/
theorem State.full_iff (s : State) (p : PositionId) (scale : Option ChannelId) :
    scale.any (fun c => decide (2 ≤ s.othersOn c p)) = true ↔
      ∃ c q r, scale = some c ∧ q ≠ r ∧
        (q ≠ p ∧ ((s.ctx q).config.scale = some c ∨ ∃ k, (s.channel c).weigh = .waiting q k)) ∧
        (r ≠ p ∧ ((s.ctx r).config.scale = some c ∨ ∃ k, (s.channel c).weigh = .waiting r k)) := by
  have hothers : ∀ c, 2 ≤ s.othersOn c p ↔ ∃ q r, q ≠ r ∧
      (q ≠ p ∧ ((s.ctx q).config.scale = some c ∨ ∃ k, (s.channel c).weigh = .waiting q k)) ∧
      (r ≠ p ∧ ((s.ctx r).config.scale = some c ∨ ∃ k, (s.channel c).weigh = .waiting r k)) := fun c => by
    refine (two_le_length_filter_finRange _).trans ?_
    simp only [Bool.and_eq_true, decide_eq_true_eq, State.countsFor_iff]
  rw [Option.any_eq_true]
  simp only [decide_eq_true_eq, hothers]
  exact ⟨fun ⟨c, hc, q, r, hne, hq, hr⟩ => ⟨c, q, r, hc, hne, hq, hr⟩, fun ⟨c, q, r, hc, hne, hq, hr⟩ => ⟨c, hc, q, r, hne, hq, hr⟩⟩

/-- R5: the settings of a position that keeps or gives up its state. -/
theorem PositionContext.configured_eq (cfg : PositionConfig) (c : PositionContext) :
    c.configured cfg =
      { c with
        config := cfg
        state :=
          if cfg.enabled = c.config.enabled then c.state
          else if cfg.enabled = true ∧ c.linePresent = true then .linked
          else .offline } := by
  unfold PositionContext.configured
  cases c.config.enabled <;> cases cfg.enabled <;> cases c.linePresent <;> rfl

/-- R173: the settings of a position are set and stored. -/
theorem State.setCtx_savePosition (p : PositionId) (c : PositionContext) (s : State) :
    (s.setCtx p c).savePosition p =
      { s with positions := tset s.positions p c, nvs := { s.nvs with positions := tset s.nvs.positions p c.config } } := by
  rw [State.savePosition, State.setCtx_ctx_self]
  rfl

/-- R5, R173: POSITION with room on the channel, from the state `u` that the forced detach, if it is due, leaves. -/
theorem servePosition_stored {p : PositionId} {cfg : PositionConfig} {c : PositionContext} {s u : State}
    (hroom : ¬cfg.scale.any (fun c => decide (2 ≤ s.othersOn c p)) = true)
    (hu : (if (s.ctx p).config.enabled = true ∧ cfg.enabled = false then s.forcedDetach p else s) = u)
    (hc : (u.ctx p).configured cfg = c) :
    servePosition (p, cfg) s =
      ({ u with positions := tset u.positions p c, nvs := { u.nvs with positions := tset u.nvs.positions p cfg } },
        .done [c.state.code]) := by
  subst hc
  have hstored := State.setCtx_savePosition p ((u.ctx p).configured cfg) u
  have hctx : ((u.setCtx p ((u.ctx p).configured cfg)).savePosition p).ctx p = (u.ctx p).configured cfg :=
    State.setCtx_ctx_self p ((u.ctx p).configured cfg) u
  simp only [servePosition, if_neg hroom, hu]
  rw [hctx, hstored]
  rfl

/-- Settles O35: the check for the channel, and whether the new settings detach the position. -/
theorem positionStoresSettings : Obligations.PositionStoresSettings := by
  intro tag p cfg payload rest s hread hw f counts full nvs state
  have hfull : cfg.scale.any (fun c => decide (2 ≤ (s.afterCommand rest []).othersOn c p)) = true ↔ full := State.full_iff s p cfg.scale
  refine ⟨fun h => ?_, fun hroom hkept => ?_, fun hroom henabled hdisabled hattached => ?_⟩
  · have hserve : servePosition (p, cfg) (s.afterCommand rest []) = (s.afterCommand rest [], .refused .full []) := by
      rw [servePosition, if_pos (hfull.mpr h)]
    exact State.running_command_answered hw hread hserve
  · have hsame : (if ((s.afterCommand rest []).ctx p).config.enabled = true ∧ cfg.enabled = false then
        (s.afterCommand rest []).forcedDetach p else s.afterCommand rest []) = s.afterCommand rest [] := by
      split
      · next hdisabled =>
        refine State.forcedDetach_unattached p _ (Bool.eq_false_iff.mpr fun hclerked => hkept ⟨hdisabled.1, hdisabled.2, ?_⟩)
        exact (PositionState.clerked_iff _).mp hclerked
      · rfl
    have hserve := servePosition_stored (mt hfull.mp hroom) hsame (PositionContext.configured_eq cfg (s.ctx p))
    exact State.running_command_answered hw hread hserve
  · obtain ⟨ts, hts, hdetached⟩ := State.forcedDetach_clerked (p := p) (s := s.afterCommand rest [])
      ((PositionState.clerked_iff _).mpr hattached)
    have hcleared : (((s.afterCommand rest []).forcedDetach p).ctx p).configured cfg =
        { (s.ctx p).cleared with config := cfg, state := .offline } := by
      have hoff : (s.ctx p).cleared.configured cfg = { (s.ctx p).cleared with config := cfg, state := .offline } := by
        rw [PositionContext.configured_eq]
        simp [PositionContext.cleared, henabled, hdisabled]
      rw [hdetached, State.ctx, tget_tset_self]
      exact hoff
    have hserve := servePosition_stored (mt hfull.mp hroom) (if_pos ⟨henabled, hdisabled⟩) hcleared
    rw [hdetached] at hserve
    refine ⟨_, State.running_command_answered hw hread hserve, ?_, .of_units (hts.congr rfl rfl) (fun q hq => ?_) rfl rfl, ?_⟩
    · rw [State.ctx, tget_tset_self]
      rfl
    · simp [State.ctx, State.afterCommand, tget_tset_ne _ _ _ _ hq]
    · rfl

end Sys2Proof.Machine
end

section
/-! SUPPORT. What each reader of a payload reads: exactly the payloads of the form that sections 11.2 and 11.6 give. -/

namespace Sys2Proof.Machine

/-! ### One field -/

theorem readFin_isSome (n : Nat) (b : Byte) : (readFin n b).isSome = true ↔ b.toNat < n := by
  unfold readFin
  split
  · next h => exact iff_of_true rfl h
  · next h => exact iff_of_false nofun h

theorem readOptFin_isSome (n : Nat) (b : Byte) : (readOptFin n b).isSome = true ↔ b.toNat < n ∨ b.toNat = 0xFF := by
  unfold readOptFin
  split
  · next h => exact iff_of_true rfl (.inr (by rw [h]; rfl))
  · next h =>
    rw [Option.isSome_map, readFin_isSome]
    exact (or_iff_left fun hall => h (BitVec.eq_of_toNat_eq hall)).symm

theorem readYesNo_isSome (b : Byte) : (readYesNo b).isSome = true ↔ b.toNat < 2 := by
  unfold readYesNo
  split_ifs with hno hyes
  · exact iff_of_true rfl (by rw [hno]; decide)
  · exact iff_of_true rfl (by rw [hyes]; decide)
  · exact iff_of_false nofun (by bv_omega)

theorem readBank_isSome (b : Byte) : (readBank b).isSome = true ↔ b.toNat < 2 := by
  unfold readBank
  split_ifs with ha hb
  · exact iff_of_true rfl (by rw [ha]; decide)
  · exact iff_of_true rfl (by rw [hb]; decide)
  · exact iff_of_false nofun (by bv_omega)

theorem readStatus_isSome (b : Byte) : (readStatus b).isSome = true ↔ b.toNat < 2 ∨ b.toNat = 0xFF := by
  unfold readStatus
  split_ifs with hkeep hopen hblocked
  · exact iff_of_true rfl (by rw [hkeep]; decide)
  · exact iff_of_true rfl (by rw [hopen]; decide)
  · exact iff_of_true rfl (by rw [hblocked]; decide)
  · exact iff_of_false nofun (by bv_omega)

theorem readThreshold_isSome (v : Nat) : (readThreshold v).isSome = true ↔ v ≤ 99999999 ∨ v = 0xFFFFFFFF := by
  unfold readThreshold
  split_ifs with hkeep hfits
  · exact iff_of_true rfl (.inr hkeep)
  · exact iff_of_true rfl (.inl hfits)
  · exact iff_of_false nofun (by simp [hkeep, hfits])

theorem readFlagAction_isSome (b : Byte) : (readFlagAction b).isSome = true ↔ b.toNat ≤ 2 := by
  unfold readFlagAction
  split_ifs with hclear hset hkeep
  · exact iff_of_true rfl (by rw [hclear]; decide)
  · exact iff_of_true rfl (by rw [hset]; decide)
  · exact iff_of_true rfl (by rw [hkeep]; decide)
  · exact iff_of_false nofun (by bv_omega)

/-! ### The five actions of AMEND (R28) -/

theorem readAction_isSome {α : Type} (action : Byte) (value : Option α) :
    (readAction action value).isSome = true ↔ action.toNat ≤ 2 ∧ (action.toNat = 1 → value.isSome = true) := by
  unfold readAction
  split_ifs with hleave hset hclear
  · exact iff_of_true rfl (by rw [hleave]; exact ⟨by decide, nofun⟩)
  · rw [Option.isSome_map, hset]
    exact ⟨fun h => ⟨by decide, fun _ => h⟩, fun h => h.2 rfl⟩
  · exact iff_of_true rfl (by rw [hclear]; exact ⟨by decide, nofun⟩)
  · exact iff_of_false nofun fun h => by bv_omega

theorem bcdNat_isSome (d0 d1 d2 : Byte) :
    (bcdNat [d0, d1, d2]).isSome = true ↔
      (d0.toNat / 16 ≤ 9 ∧ d0.toNat % 16 ≤ 9) ∧ (d1.toNat / 16 ≤ 9 ∧ d1.toNat % 16 ≤ 9) ∧ d2.toNat / 16 ≤ 9 ∧ d2.toNat % 16 ≤ 9 := by
  simp only [← Nat.lt_succ_iff, bcdNat, List.foldl]
  by_cases h0 : d0.toNat / 16 < 10 ∧ d0.toNat % 16 < 10
  · by_cases h1 : d1.toNat / 16 < 10 ∧ d1.toNat % 16 < 10
    · by_cases h2 : d2.toNat / 16 < 10 ∧ d2.toNat % 16 < 10 <;> simp [h0, h1, h2]
    · simp [h0, h1]
  · simp [h0]

theorem readDeclared_isSome (v : Nat) : (readDeclared v).isSome = true ↔ v ≤ 9999999 := Option.isSome_ite

theorem readDimensions_isSome (l w h : Nat) :
    (readDimensions l w h).isSome = true ↔ (1 ≤ l ∧ l ≤ 2000) ∧ (1 ≤ w ∧ w ≤ 2000) ∧ 1 ≤ h ∧ h ≤ 2000 := by
  rw [readDimensions, Option.isSome_ite]
  simp only [and_assoc]

/-- R28, section 11.2. -/
theorem readAmend_isSome (x : List Byte) : (readAmend x).isSome = true ↔ amendFits x = true := by
  refine ⟨fun h => ?_, fun h => ?_⟩
  · unfold readAmend at h
    split at h
    · next k aS aD aV aE aM service d0 d1 d2 v0 v1 v2 v3 extras l0 l1 w0 w1 h0 h1 =>
      split at h
      · next hk hS hD hV hE hM =>
        obtain ⟨hS, hservice⟩ := (readAction_isSome aS _).mp (Option.isSome_of_eq_some hS)
        obtain ⟨hD, hdest⟩ := (readAction_isSome aD _).mp (Option.isSome_of_eq_some hD)
        obtain ⟨hV, hdecl⟩ := (readAction_isSome aV _).mp (Option.isSome_of_eq_some hV)
        obtain ⟨hE, hextras⟩ := (readAction_isSome aE _).mp (Option.isSome_of_eq_some hE)
        obtain ⟨hM, hdim⟩ := (readAction_isSome aM _).mp (Option.isSome_of_eq_some hM)
        refine decide_eq_true ⟨rfl, (readFin_isSome 8 k).mp (Option.isSome_of_eq_some hk), fun n => ?_,
          fun hs => (readFin_isSome 8 service).mp (hservice hs), fun hs n => ?_, fun hs => (readDeclared_isSome _).mp (hdecl hs),
          fun hs => Nat.lt_succ_of_le ((readExtras_isSome extras).mp (hextras hs)), fun hs n => ?_⟩
        · fin_cases n <;> assumption
        · obtain ⟨hfirst, hsecond, hthird⟩ := (bcdNat_isSome d0 d1 d2).mp (hdest hs)
          fin_cases n <;> assumption
        · obtain ⟨hlength, hwidth, hheight⟩ := (readDimensions_isSome _ _ _).mp (hdim hs)
          fin_cases n <;> assumption
      · cases h
    · cases h
  · obtain ⟨m, hm, -⟩ := readAmend_fits h
    exact Option.isSome_of_eq_some hm

/-! ### The payloads of requests (section 11.2) -/

theorem readNothing_isSome (x : List Byte) : (readNothing x).isSome = x.isEmpty := by
  cases x <;> rfl

theorem readSlot_isSome (x : List Byte) : (readSlot x).isSome = true ↔ x.length = 1 ∧ byteAt x 0 < 8 := by
  unfold readSlot
  split
  · next k => exact (readFin_isSome 8 k).trans (and_iff_right rfl).symm
  · next hlength => exact iff_of_false nofun fun ⟨hx, _⟩ => by match x, hx with | [k], _ => exact hlength k rfl

theorem readAttach_isSome (x : List Byte) :
    (readAttach x).isSome = true ↔ x.length = 2 ∧ byteAt x 0 < 4 ∧ byteAt x 1 < 16 := by
  unfold readAttach
  split
  · next a k =>
    change _ ↔ 2 = 2 ∧ a.toNat < 4 ∧ k.toNat < 16
    rw [← readFin_isSome 4 a, ← readFin_isSome 16 k]
    cases readFin 4 a <;> cases readFin 16 k <;> simp
  · next hlength => exact iff_of_false nofun fun ⟨hx, _⟩ => by match x, hx with | [a, k], _ => exact hlength a k rfl

theorem readRate_isSome (x : List Byte) : (readRate x).isSome = true ↔ x.length = 2 ∧ byteAt x 0 < 8 ∧ byteAt x 1 < 2 := by
  unfold readRate
  split
  · next k sc =>
    change _ ↔ 2 = 2 ∧ k.toNat < 8 ∧ sc.toNat < 2
    rw [← readFin_isSome 8 k, ← readYesNo_isSome sc, readYesNo]
    cases readFin 8 k with
    | none => simp
    | some slot => split_ifs <;> simp
  · next hlength => exact iff_of_false nofun fun ⟨hx, _⟩ => by match x, hx with | [k, sc], _ => exact hlength k sc rfl

theorem readCancel_isSome (x : List Byte) :
    (readCancel x).isSome = true ↔ x.length = 1 ∧ (byteAt x 0 < 8 ∨ byteAt x 0 = 0xFF) := by
  unfold readCancel
  split
  · next k => exact (readOptFin_isSome 8 k).trans (and_iff_right rfl).symm
  · next hlength => exact iff_of_false nofun fun ⟨hx, _⟩ => by match x, hx with | [k], _ => exact hlength k rfl

theorem readFinish_isSome (x : List Byte) :
    (readFinish x).isSome = true ↔ x.length = 5 ∧ byteAt x 0 ≤ 8 ∧ numAt x 1 4 ≤ 79999992 := by
  unfold readFinish
  split
  · next n t0 t1 t2 t3 => exact Option.isSome_ite.trans (and_iff_right rfl).symm
  · next hlength =>
    exact iff_of_false nofun fun ⟨hx, _⟩ => by match x, hx with | [n, t0, t1, t2, t3], _ => exact hlength n t0 t1 t2 t3 rfl

/-! ### The payloads of office commands (section 11.6) -/

theorem readTime_isSome (x : List Byte) : (readTime x).isSome = true ↔ x.length = 4 := by
  unfold readTime
  split
  · exact iff_of_true rfl rfl
  · next hlength => exact iff_of_false nofun fun hx => by match x, hx with | [t0, t1, t2, t3], _ => exact hlength t0 t1 t2 t3 rfl

theorem readAccount_isSome (x : List Byte) :
    (readAccount x).isSome = true ↔
      x.length = 7 ∧ byteAt x 0 < 4 ∧ (byteAt x 1 < 16 ∨ byteAt x 1 = 0xFF) ∧ (byteAt x 2 < 2 ∨ byteAt x 2 = 0xFF) ∧
        (numAt x 3 4 ≤ 99999999 ∨ numAt x 3 4 = 0xFFFFFFFF) := by
  unfold readAccount
  split
  · next a k st t0 t1 t2 t3 =>
    change _ ↔ 7 = 7 ∧ a.toNat < 4 ∧ (k.toNat < 16 ∨ k.toNat = 0xFF) ∧ (st.toNat < 2 ∨ st.toNat = 0xFF) ∧
      (leNat [t0, t1, t2, t3] ≤ 99999999 ∨ leNat [t0, t1, t2, t3] = 0xFFFFFFFF)
    rw [← readFin_isSome 4 a, ← readOptFin_isSome 16 k, ← readStatus_isSome st, ← readThreshold_isSome]
    cases readFin 4 a <;> cases readOptFin 16 k <;> cases readStatus st <;> cases readThreshold (leNat [t0, t1, t2, t3]) <;> simp
  · next hlength =>
    exact iff_of_false nofun fun ⟨hx, _⟩ => by
      match x, hx with | [a, k, st, t0, t1, t2, t3], _ => exact hlength a k st t0 t1 t2 t3 rfl

theorem readCredit_isSome (x : List Byte) :
    (readCredit x).isSome = true ↔ x.length = 5 ∧ byteAt x 0 < 4 ∧ 1 ≤ numAt x 1 4 ∧ numAt x 1 4 ≤ 99999999 := by
  unfold readCredit
  split
  · next a m0 m1 m2 m3 =>
    change _ ↔ 5 = 5 ∧ a.toNat < 4 ∧ 1 ≤ leNat [m0, m1, m2, m3] ∧ leNat [m0, m1, m2, m3] ≤ 99999999
    rw [← readFin_isSome 4 a]
    cases readFin 4 a with
    | none => simp
    | some account => exact Option.isSome_ite.trans (by simp)
  · next hlength =>
    exact iff_of_false nofun fun ⟨hx, _⟩ => by match x, hx with | [a, m0, m1, m2, m3], _ => exact hlength a m0 m1 m2 m3 rfl

theorem readBlock_isSome (x : List Byte) :
    (readBlock x).isSome = true ↔
      x.length = 8 ∧ (1 ≤ numAt x 0 4 ∧ numAt x 0 4 ≤ 99999999) ∧ 1 ≤ numAt x 4 4 ∧ numAt x 4 4 ≤ 1000000 := by
  unfold readBlock
  split
  · next f0 f1 f2 f3 n0 n1 n2 n3 =>
    exact Option.isSome_ite.trans (and_assoc.symm.trans (and_iff_right rfl).symm)
  · next hlength =>
    exact iff_of_false nofun fun ⟨hx, _⟩ => by
      match x, hx with | [f0, f1, f2, f3, n0, n1, n2, n3], _ => exact hlength f0 f1 f2 f3 n0 n1 n2 n3 rfl

theorem mapM_readFlagAction_isSome (x : List Byte) : (x.mapM readFlagAction).isSome = true ↔ ∀ b ∈ x, b.toNat ≤ 2 := by
  induction x with
  | nil => simp
  | cons b x ih =>
    rw [List.forall_mem_cons, ← ih, ← readFlagAction_isSome, List.mapM_cons]
    cases readFlagAction b <;> cases x.mapM readFlagAction <;> simp

theorem readFlags_isSome (x : List Byte) : (readFlags x).isSome = true ↔ x.length = 8 ∧ ∀ b ∈ x, b.toNat ≤ 2 := by
  unfold readFlags
  split
  · next hx => rw [and_iff_right hx, mapM_readFlagAction_isSome]
  · next hx => exact iff_of_false nofun fun h => hx h.1

theorem readPosition_isSome (x : List Byte) :
    (readPosition x).isSome = true ↔
      x.length = 5 ∧ byteAt x 0 < 16 ∧ byteAt x 1 < 2 ∧ (byteAt x 2 < 8 ∨ byteAt x 2 = 0xFF) ∧
        (byteAt x 3 < 4 ∨ byteAt x 3 = 0xFF) ∧ byteAt x 4 < 16 := by
  unfold readPosition
  split
  · next p e c l a =>
    change _ ↔ 5 = 5 ∧ p.toNat < 16 ∧ e.toNat < 2 ∧ (c.toNat < 8 ∨ c.toNat = 0xFF) ∧ (l.toNat < 4 ∨ l.toNat = 0xFF) ∧ a.toNat < 16
    rw [← readFin_isSome 16 p, ← readYesNo_isSome e, ← readOptFin_isSome 8 c, ← readOptFin_isSome 4 l]
    cases readFin 16 p <;> cases readYesNo e <;> cases readOptFin 8 c <;> cases readOptFin 4 l <;> simp
  · next hlength =>
    exact iff_of_false nofun fun ⟨hx, _⟩ => by match x, hx with | [p, e, c, l, a], _ => exact hlength p e c l a rfl

theorem readScale_isSome (x : List Byte) : (readScale x).isSome = true ↔ scaleFits x = true := by
  rw [scaleFits, decide_eq_true_iff]
  unfold readScale
  split
  · next c e p0 p1 d z0 z1 z2 s0 s1 k0 k1 k2 b t =>
    change _ ↔ 15 = 15 ∧ c.toNat < 8 ∧ e.toNat < 2 ∧ (1 ≤ leNat [p0, p1] ∧ leNat [p0, p1] ≤ 50000) ∧ d.toNat ∈ [1, 2, 5, 10, 20] ∧
      1 ≤ leNat [s0, s1] ∧ (1 ≤ leNat [k0, k1, k2] ∧ leNat [k0, k1, k2] ≤ 8388607) ∧ (1 ≤ b.toNat ∧ b.toNat ≤ 5) ∧ 2 ≤ t.toNat ∧
      t.toNat ≤ 30
    rw [← readFin_isSome 8 c, ← readYesNo_isSome e]
    cases readFin 8 c with
    | none => simp
    | some channel =>
      cases readYesNo e with
      | none => simp
      | some enabled =>
        simp only [Option.isSome_ite, Option.isSome_some, true_and, and_assoc]
  · next hlength =>
    exact iff_of_false nofun fun ⟨hx, _⟩ => by
      match x, hx with
      | [c, e, p0, p1, d, z0, z1, z2, s0, s1, k0, k1, k2, b, t], _ => exact hlength c e p0 p1 d z0 z1 z2 s0 s1 k0 k1 k2 b t rfl

theorem readPrinter_isSome (x : List Byte) : (readPrinter x).isSome = true ↔ x.length = 2 ∧ byteAt x 0 < 4 ∧ byteAt x 1 < 2 := by
  unfold readPrinter
  split
  · next l e =>
    change _ ↔ 2 = 2 ∧ l.toNat < 4 ∧ e.toNat < 2
    rw [← readFin_isSome 4 l, ← readYesNo_isSome e]
    cases readFin 4 l <;> cases readYesNo e <;> simp
  · next hlength => exact iff_of_false nofun fun ⟨hx, _⟩ => by match x, hx with | [l, e], _ => exact hlength l e rfl

theorem readRedirect_isSome (x : List Byte) : (readRedirect x).isSome = true ↔ x.length = 2 ∧ byteAt x 0 < 4 ∧ byteAt x 1 < 4 := by
  unfold readRedirect
  split
  · next p q =>
    change _ ↔ 2 = 2 ∧ p.toNat < 4 ∧ q.toNat < 4
    rw [← readFin_isSome 4 p, ← readFin_isSome 4 q]
    cases readFin 4 p <;> cases readFin 4 q <;> simp
  · next hlength => exact iff_of_false nofun fun ⟨hx, _⟩ => by match x, hx with | [p, q], _ => exact hlength p q rfl

theorem readLoadBegin_isSome (x : List Byte) :
    (readLoadBegin x).isSome = true ↔ x.length = 14 ∧ 1 ≤ numAt x 8 2 ∧ numAt x 8 2 ≤ 8192 := by
  unfold readLoadBegin
  split
  · next i0 i1 i2 i3 e0 e1 e2 e3 l0 l1 c0 c1 c2 c3 => exact Option.isSome_ite.trans (and_iff_right rfl).symm
  · next hlength =>
    exact iff_of_false nofun fun ⟨hx, _⟩ => by
      match x, hx with
      | [i0, i1, i2, i3, e0, e1, e2, e3, l0, l1, c0, c1, c2, c3], _ =>
        exact hlength i0 i1 i2 i3 e0 e1 e2 e3 l0 l1 c0 c1 c2 c3 rfl

theorem readLoadPart_isSome (x : List Byte) : (readLoadPart x).isSome = true ↔ 3 ≤ x.length ∧ x.length ≤ 242 := by
  unfold readLoadPart
  split
  · next o0 o1 part =>
    rw [Option.isSome_ite, List.length_cons, List.length_cons]
    omega
  · next hlength =>
    exact iff_of_false nofun fun ⟨hx, _⟩ => by
      match x, hx with | o0 :: o1 :: part, _ => exact hlength o0 o1 part rfl

theorem readBankName_isSome (x : List Byte) : (readBankName x).isSome = true ↔ x.length = 1 ∧ byteAt x 0 < 2 := by
  unfold readBankName
  split
  · next b => exact (readBank_isSome b).trans (and_iff_right rfl).symm
  · next hlength => exact iff_of_false nofun fun ⟨hx, _⟩ => by match x, hx with | [b], _ => exact hlength b rfl

theorem readJournalRead_isSome (x : List Byte) :
    (readJournalRead x).isSome = true ↔ x.length = 1 ∧ 1 ≤ byteAt x 0 ∧ byteAt x 0 ≤ 16 := by
  unfold readJournalRead
  split
  · next n => exact Option.isSome_ite.trans (and_iff_right rfl).symm
  · next hlength => exact iff_of_false nofun fun ⟨hx, _⟩ => by match x, hx with | [n], _ => exact hlength n rfl

theorem readRestart_isSome (x : List Byte) :
    (readRestart x).isSome = true ↔ x.length = 5 ∧ (byteAt x 0 = 0 ∨ byteAt x 0 = 1 ∧ numAt x 1 4 ≤ 99999) := by
  unfold readRestart
  split
  · next m c0 c1 c2 c3 =>
    change _ ↔ 5 = 5 ∧ (m.toNat = 0 ∨ m.toNat = 1 ∧ leNat [c0, c1, c2, c3] ≤ 99999)
    split_ifs with hkeep hcode hfits
    · exact iff_of_true rfl ⟨rfl, .inl (by rw [hkeep]; rfl)⟩
    · exact iff_of_true rfl ⟨rfl, .inr ⟨by rw [hcode]; rfl, hfits⟩⟩
    · exact iff_of_false nofun (by rw [hcode]; simp [hfits])
    · exact iff_of_false nofun (by bv_omega)
  · next hlength =>
    exact iff_of_false nofun fun ⟨hx, _⟩ => by match x, hx with | [m, c0, c1, c2, c3], _ => exact hlength m c0 c1 c2 c3 rfl

end Sys2Proof.Machine
end

section
/-! ANSWERS. The checks of requests (R8) and of office commands (R169): a disabled position (O4), a request out of its state or for an EMPTY slot (O5), and what is malformed or unknown (O6). -/

namespace Sys2Proof.Machine

/-! ### The form of each request (section 11.2) -/

/-- The slot byte of a refusal record for a slot that a request names, or for none. -/
def slotByteOf : Option Slot → Byte
  | some k => BitVec.ofNat 8 k.val
  | none => 0xFF

/-- The form takes the frame's code, reads exactly the payloads that fit it, and of those it reads it knows the states that serve them, the slot named, and the slot byte. Of a payload it does not read, the slot byte is what can be said of it. -/
structure RequestForm.suits {α : Type} (form : RequestForm α) (f : Frame) : Prop where
  code : form.code = f.code
  reads : (form.read f.payload).isSome = requestFits f.code f.payload
  served : ∀ a, form.read f.payload = some a → ∀ st, form.served st = servedIn f.code st
  slot : ∀ a, form.read f.payload = some a → form.slot a = slotNamed f
  slotByte : ∀ a, form.read f.payload = some a → form.slotByte f.payload = slotByteOf (slotNamed f)
  absentSlot : slotLength f.code = none ∨ f.payload = [] → form.slotByte f.payload = 0xFF
  presentSlot : slotLength f.code = some f.payload.length → byteAt f.payload 0 < 8 →
    (form.slotByte f.payload).toNat = byteAt f.payload 0

theorem slotNamed_of_none {f : Frame} (h : slotLength f.code = none) : slotNamed f = none := by
  rw [slotNamed, dif_neg (by simp [h])]

theorem slotNamed_of_some {f : Frame} {n : Nat} (h : slotLength f.code = some n) (hlt : byteAt f.payload 0 < 8) :
    slotNamed f = some ⟨byteAt f.payload 0, hlt⟩ := by
  rw [slotNamed, dif_pos ⟨by simp [h], hlt⟩]

section
variable {α : Type} {f : Frame} {form : RequestForm α}

/-- A request without an item slot. -/
theorem RequestForm.suits.of_noSlot (hcode : form.code = f.code) (hreads : (form.read f.payload).isSome = requestFits f.code f.payload)
    (hserved : ∀ st, form.served st = servedIn f.code st) (hslot : ∀ a, form.slot a = none) (hbyte : form.slotByte = noSlotByte)
    (hlength : slotLength f.code = none) : form.suits f := by
  refine ⟨hcode, hreads, fun _ _ => hserved, fun a _ => ?_, fun a _ => ?_, fun _ => by rw [hbyte]; rfl, fun h => ?_⟩
  · rw [hslot, slotNamed_of_none hlength]
  · rw [hbyte, slotNamed_of_none hlength]; rfl
  · rw [hlength] at h; cases h

/-- A request of `n + 1` bytes whose first is its item slot. -/
theorem RequestForm.suits.of_slot {n : Nat} (hcode : form.code = f.code)
    (hreads : (form.read f.payload).isSome = requestFits f.code f.payload) (hserved : ∀ st, form.served st = servedIn f.code st)
    (hslot : ∀ a, form.read f.payload = some a →
      f.payload.length = n + 1 ∧ ∃ k : Slot, form.slot a = some k ∧ byteAt f.payload 0 = k.val)
    (hbyte : form.slotByte = firstSlotByte f.code (n + 1)) (hlength : slotLength f.code = some (n + 1)) : form.suits f := by
  refine ⟨hcode, hreads, fun _ _ => hserved, fun a ha => ?_, fun a ha => ?_, fun h => ?_, fun h hlt => ?_⟩
  · obtain ⟨-, k, hk, hbyteAt⟩ := hslot a ha
    rw [hk, slotNamed_of_some hlength (hbyteAt ▸ k.isLt)]
    exact congrArg some (Fin.ext hbyteAt.symm)
  · obtain ⟨hpayload, k, -, hbyteAt⟩ := hslot a ha
    rw [hbyte, firstSlotByte_fits hpayload hbyteAt, slotNamed_of_some hlength (hbyteAt ▸ k.isLt)]
    exact congrArg (BitVec.ofNat 8) hbyteAt.symm
  · obtain hnone | hempty := h
    · rw [hlength] at hnone; cases hnone
    · rw [hbyte, hempty]; rfl
  · have hpayload : f.payload.length = n + 1 := Option.some.inj (h.symm.trans hlength)
    rw [hbyte, firstSlotByte_fits (k := ⟨byteAt f.payload 0, hlt⟩) hpayload rfl, BitVec.toNat_ofNat]
    exact Nat.mod_eq_of_lt (by omega)

end

theorem servedOnline_eq (st : PositionState) : servedOnline st = decide (st ≠ .offline) := by cases st <;> rfl
theorem servedLinked_eq (st : PositionState) : servedLinked st = decide (st = .linked) := by cases st <;> rfl
theorem servedAttached_eq (st : PositionState) : servedAttached st = decide (st = .attached ∨ st = .inTransaction) := by cases st <;> rfl
theorem servedInTransaction_eq (st : PositionState) : servedInTransaction st = decide (st = .inTransaction) := by cases st <;> rfl

section
variable (code tag : Byte) (payload : List Byte)

/-- A request without fields. -/
theorem suits_readNothing {served : PositionState → Bool} (hserved : ∀ st, served st = servedIn code st)
    (hfits : requestFits code payload = payload.isEmpty) (hlength : slotLength code = none) :
    RequestForm.suits ⟨code, readNothing, served, fun _ => none, noSlotByte⟩ ⟨code, tag, payload⟩ :=
  .of_noSlot rfl ((readNothing_isSome payload).trans hfits.symm) hserved (fun _ => rfl) rfl hlength

theorem readFin_val {n : Nat} {b : Byte} {k : Fin n} (h : readFin n b = some k) : b.toNat = k.val := by
  unfold readFin at h
  split at h
  · cases h; rfl
  · cases h

/-- A request of one byte, its item slot. -/
theorem suits_readSlot (hserved : ∀ st, servedInTransaction st = servedIn code st)
    (hfits : requestFits code payload = decide (payload.length = 1 ∧ byteAt payload 0 < 8)) (hlength : slotLength code = some 1) :
    RequestForm.suits ⟨code, readSlot, servedInTransaction, some, firstSlotByte code 1⟩ ⟨code, tag, payload⟩ := by
  refine .of_slot (n := 0) rfl ?_ hserved (fun a ha => ?_) rfl hlength
  · rw [hfits, Bool.eq_iff_iff, decide_eq_true_iff]
    exact readSlot_isSome payload
  · change readSlot payload = some a at ha
    unfold readSlot at ha
    split at ha
    · exact ⟨rfl, a, rfl, readFin_val ha⟩
    · cases ha

theorem attachForm_suits : attachForm.suits ⟨0x01, tag, payload⟩ :=
  .of_noSlot rfl (by rw [Bool.eq_iff_iff]; exact (readAttach_isSome payload).trans decide_eq_true_iff.symm) servedLinked_eq
    (fun _ => rfl) rfl rfl

theorem finishForm_suits : finishForm.suits ⟨0x0F, tag, payload⟩ :=
  .of_noSlot rfl (by rw [Bool.eq_iff_iff]; exact (readFinish_isSome payload).trans decide_eq_true_iff.symm) servedInTransaction_eq
    (fun _ => rfl) rfl rfl

theorem amendForm_suits : amendForm.suits ⟨0x05, tag, payload⟩ := by
  have hreads : (readAmend payload).isSome = amendFits payload := Bool.eq_iff_iff.mpr (readAmend_isSome payload)
  refine .of_slot (n := 20) rfl hreads servedInTransaction_eq (fun m hm => ?_) rfl rfl
  change readAmend payload = some m at hm
  have hfits : amendFits payload = true := (readAmend_isSome payload).mp (Option.isSome_of_eq_some hm)
  obtain ⟨m', hm', hslot, -⟩ := readAmend_fits hfits
  obtain rfl : m = m' := Option.some.inj (hm.symm.trans hm')
  exact ⟨(of_decide_eq_true (p := _ ∧ _) hfits).1, m.slot, rfl, hslot.symm⟩

theorem rateForm_suits : rateForm.suits ⟨0x09, tag, payload⟩ := by
  have hreads : (readRate payload).isSome = requestFits 0x09 payload := by
    rw [Bool.eq_iff_iff]
    exact (readRate_isSome payload).trans decide_eq_true_iff.symm
  refine .of_slot (n := 1) rfl hreads servedInTransaction_eq (fun x hx => ?_) rfl rfl
  change readRate payload = some x at hx
  unfold readRate at hx
  split at hx
  · split at hx
    · next k hk =>
      refine ⟨rfl, k, ?_, readFin_val hk⟩
      split_ifs at hx <;> cases hx <;> rfl
    · cases hx
  · cases hx

/-- R22: CANCEL names ALL by FFH, or a slot. -/
theorem readCancel_eq_some {payload : List Byte} {x : Option Slot} (h : readCancel payload = some x) :
    payload = [0xFF] ∧ x = none ∨ ∃ k : Slot, payload = [BitVec.ofNat 8 k.val] ∧ x = some k := by
  unfold readCancel at h
  split at h
  · next b =>
    unfold readOptFin at h
    split at h
    · next hall => exact .inl ⟨by rw [hall], (Option.some.inj h).symm⟩
    · obtain ⟨k, hk, rfl⟩ := Option.map_eq_some_iff.mp h
      exact .inr ⟨k, by rw [← readFin_val hk, BitVec.ofNat_toNat, BitVec.setWidth_eq], rfl⟩
  · cases h

theorem byteAt_slot (k : Slot) : byteAt [BitVec.ofNat 8 k.val] 0 = k.val := by
  change (BitVec.ofNat 8 k.val).toNat = k.val
  rw [BitVec.toNat_ofNat]
  exact Nat.mod_eq_of_lt (by omega)

/-- R22: a slot is not ALL. -/
theorem cancelSlotByte_of_lt {payload : List Byte} (h : byteAt payload 0 < 8) : cancelSlotByte payload = firstSlotByte 0x0D 1 payload := by
  rw [cancelSlotByte, if_neg]
  rintro rfl
  exact absurd h (by decide)

theorem cancelForm_suits : cancelForm.suits ⟨0x0D, tag, payload⟩ := by
  have hreads : (readCancel payload).isSome = requestFits 0x0D payload := by
    rw [Bool.eq_iff_iff]
    exact (readCancel_isSome payload).trans decide_eq_true_iff.symm
  have hnamed : ∀ k : Slot, slotNamed ⟨0x0D, tag, [BitVec.ofNat 8 k.val]⟩ = some k := fun k => by
    rw [slotNamed_of_some (n := 1) rfl ((byteAt_slot k).trans_lt k.isLt)]
    exact congrArg some (Fin.ext (byteAt_slot k))
  have hall : slotNamed ⟨0x0D, tag, [0xFF]⟩ = none := by
    rw [slotNamed, dif_neg]
    exact fun h => absurd h.2 (show ¬255 < 8 by decide)
  have hbyte : ∀ k : Slot, cancelSlotByte [BitVec.ofNat 8 k.val] = BitVec.ofNat 8 k.val := fun k => by
    rw [cancelSlotByte_of_lt ((byteAt_slot k).trans_lt k.isLt), firstSlotByte_ofNat]
  refine ⟨rfl, hreads, fun _ _ => servedInTransaction_eq, fun x hx => ?_, fun x hx => ?_, fun h => ?_, fun h hlt => ?_⟩
  · obtain ⟨rfl, rfl⟩ | ⟨k, rfl, rfl⟩ := readCancel_eq_some hx
    · exact hall.symm
    · exact (hnamed k).symm
  · obtain ⟨rfl, rfl⟩ | ⟨k, rfl, rfl⟩ := readCancel_eq_some hx
    · rw [hall]; rfl
    · rw [hnamed]; exact hbyte k
  · obtain rfl : payload = [] := h.resolve_left nofun
    rfl
  · have hpayload : payload.length = 0 + 1 := (Option.some.inj h).symm
    change (cancelSlotByte payload).toNat = _
    rw [cancelSlotByte_of_lt hlt, firstSlotByte_fits (k := ⟨byteAt payload 0, hlt⟩) hpayload rfl, BitVec.toNat_ofNat]
    exact Nat.mod_eq_of_lt (Nat.lt_of_lt_of_le hlt (by decide))

/-- R8 check 2: no payload suits a code that is none of the sixteen. -/
theorem requestFits_unknown (h : ¬(1 ≤ code.toNat ∧ code.toNat ≤ 16)) : requestFits code payload = false := by
  unfold requestFits
  split
  case h_17 => rfl
  all_goals omega

theorem slotLength_unknown (h : ¬(1 ≤ code.toNat ∧ code.toNat ≤ 16)) : slotLength code = none := by
  unfold slotLength
  split
  case h_9 => rfl
  all_goals omega

theorem unknownForm_suits (h : ¬(1 ≤ code.toNat ∧ code.toNat ≤ 16)) : (unknownForm code).suits ⟨code, tag, payload⟩ := by
  have hlength := slotLength_unknown code h
  refine ⟨rfl, (requestFits_unknown code payload h).symm, fun a _ => a.elim, fun a _ => a.elim, fun a _ => a.elim,
    fun _ => rfl, fun hsome => ?_⟩
  rw [hlength] at hsome
  cases hsome

end

/-! ### Every request by its form -/

/-- R8: an unknown request code, which has nothing to serve. -/
theorem execUnknownRequestCode_eq {code : Byte} (h : ¬(1 ≤ code.toNat ∧ code.toNat ≤ 16)) (p : PositionId) (tag : Byte)
    (payload : List Byte) (s : State) (serve : Empty → State → State × Answer) :
    execUnknownRequestCode p code tag payload s = s.running (State.request (unknownForm code) p tag payload serve) :=
  congrArg s.running (funext fun u =>
    (if_neg h).trans (congrArg (State.request (unknownForm code) p tag payload · u) (funext fun x => x.elim)))

/-- R8: the command of the table that takes a frame judges it by a form that suits it. -/
theorem exec_ofRequest (p : PositionId) (f : Frame) :
    ∃ (α : Type) (form : RequestForm α) (serve : α → State → State × Answer),
      form.suits f ∧ ∀ s, exec (Instr.ofRequest p f) s = s.running (State.request form p f.tag f.payload serve) := by
  obtain ⟨code, tag, payload⟩ := f
  unfold Instr.ofRequest
  dsimp only
  split
  · next h =>
    obtain rfl : code = 0x01 := BitVec.eq_of_toNat_eq h
    exact ⟨_, _, _, attachForm_suits tag payload, fun _ => rfl⟩
  · next h =>
    obtain rfl : code = 0x02 := BitVec.eq_of_toNat_eq h
    exact ⟨_, _, _, suits_readNothing 0x02 tag payload servedOnline_eq rfl rfl, fun _ => rfl⟩
  · next h =>
    obtain rfl : code = 0x03 := BitVec.eq_of_toNat_eq h
    exact ⟨_, _, _, suits_readNothing 0x03 tag payload servedOnline_eq rfl rfl, fun _ => rfl⟩
  · next h =>
    obtain rfl : code = 0x04 := BitVec.eq_of_toNat_eq h
    exact ⟨_, _, _, suits_readNothing 0x04 tag payload servedInTransaction_eq rfl rfl, fun _ => rfl⟩
  · next h =>
    obtain rfl : code = 0x05 := BitVec.eq_of_toNat_eq h
    exact ⟨_, _, _, amendForm_suits tag payload, fun _ => rfl⟩
  · next h =>
    obtain rfl : code = 0x06 := BitVec.eq_of_toNat_eq h
    exact ⟨_, _, _, suits_readSlot 0x06 tag payload servedInTransaction_eq rfl rfl, fun _ => rfl⟩
  · next h =>
    obtain rfl : code = 0x07 := BitVec.eq_of_toNat_eq h
    exact ⟨_, _, _, suits_readSlot 0x07 tag payload servedInTransaction_eq rfl rfl, fun _ => rfl⟩
  · next h =>
    obtain rfl : code = 0x08 := BitVec.eq_of_toNat_eq h
    exact ⟨_, _, _, suits_readNothing 0x08 tag payload servedAttached_eq rfl rfl, fun _ => rfl⟩
  · next h =>
    obtain rfl : code = 0x09 := BitVec.eq_of_toNat_eq h
    exact ⟨_, _, _, rateForm_suits tag payload, fun _ => rfl⟩
  · next h =>
    obtain rfl : code = 0x0A := BitVec.eq_of_toNat_eq h
    exact ⟨_, _, _, suits_readSlot 0x0A tag payload servedInTransaction_eq rfl rfl, fun _ => rfl⟩
  · next h =>
    obtain rfl : code = 0x0B := BitVec.eq_of_toNat_eq h
    exact ⟨_, _, _, suits_readSlot 0x0B tag payload servedInTransaction_eq rfl rfl, fun _ => rfl⟩
  · next h =>
    obtain rfl : code = 0x0C := BitVec.eq_of_toNat_eq h
    exact ⟨_, _, _, suits_readSlot 0x0C tag payload servedInTransaction_eq rfl rfl, fun _ => rfl⟩
  · next h =>
    obtain rfl : code = 0x0D := BitVec.eq_of_toNat_eq h
    exact ⟨_, _, _, cancelForm_suits tag payload, fun _ => rfl⟩
  · next h =>
    obtain rfl : code = 0x0E := BitVec.eq_of_toNat_eq h
    exact ⟨_, _, _, suits_readNothing 0x0E tag payload servedOnline_eq rfl rfl, fun _ => rfl⟩
  · next h =>
    obtain rfl : code = 0x0F := BitVec.eq_of_toNat_eq h
    exact ⟨_, _, _, finishForm_suits tag payload, fun _ => rfl⟩
  · next h =>
    obtain rfl : code = 0x10 := BitVec.eq_of_toNat_eq h
    exact ⟨_, queryForm, fun _ s => (s, .taken (s.queryBytes p)), suits_readNothing 0x10 tag payload servedOnline_eq rfl rfl,
      fun _ => rfl⟩
  · have hunknown : ¬(1 ≤ code.toNat ∧ code.toNat ≤ 16) := by
      simp only [imp_false] at *
      omega
    exact ⟨_, _, Empty.elim, unknownForm_suits code tag payload hunknown,
      fun s => execUnknownRequestCode_eq hunknown p tag payload s Empty.elim⟩

/-! ### The checks of R8 -/

/-- Settles O4: check 1 comes before the payload is read. -/
theorem disabledPositionUnavailable : Obligations.DisabledPositionUnavailable := by
  intro p f rest s hrun hdisabled hheld
  obtain ⟨α, form, serve, hsuits, hexec⟩ := exec_ofRequest p f
  have hframe : (⟨form.code, f.tag, f.payload⟩ : Frame) = f := by rw [hsuits.code]
  rw [hexec, State.running_on _ s hrun,
    State.request_disabled form p f.tag f.payload serve rest { s with sent := [] } (by rw [hframe]; exact hheld) hdisabled, hframe]
  rfl

/-- Settles O5: the form that suits the request knows the states that serve it and the slot it names. -/
theorem slotRequestNeedsItem : Obligations.SlotRequestNeedsItem := by
  intro p f rest s hfits hw slotByte
  obtain ⟨α, form, serve, hsuits, hexec⟩ := exec_ofRequest p f
  have hframe : (⟨form.code, f.tag, f.payload⟩ : Frame) = f := by rw [hsuits.code]
  obtain ⟨a, ha⟩ := Option.isSome_iff_exists.mp (hsuits.reads.trans hfits)
  have hbyte : form.slotByte f.payload = slotByte := hsuits.slotByte a ha
  have hw' : s.requestWaits p ⟨form.code, f.tag, f.payload⟩ rest := by rw [hframe]; exact hw
  rw [← hbyte]
  refine ⟨fun hunserved => ?_, fun k hserved hnamed hempty => ?_⟩
  · rw [hexec, State.running_request_unserved form p f.tag f.payload serve rest a s hw' ha
      ((hsuits.served a ha _).trans hunserved), hframe]
    rfl
  · rw [hexec, State.running_request_emptySlot form p f.tag f.payload serve rest a k s hw' ha
      ((hsuits.served a ha _).trans hserved) ((hsuits.slot a ha).trans hnamed) hempty, hframe]
    rfl

/-! ### Every office command by its reader (R169) -/

/-- R169: no payload suits a code that is none of the eighteen. -/
theorem commandFits_unknown (code : Byte) (payload : List Byte) (h : ¬(1 ≤ code.toNat ∧ code.toNat ≤ 18)) :
    commandFits code payload = false := by
  unfold commandFits
  split
  case h_19 => rfl
  all_goals omega

/-- R169: an unknown command code, which has nothing to serve. -/
theorem execUnknownCommandCode_eq {code : Byte} (h : ¬(1 ≤ code.toNat ∧ code.toNat ≤ 18)) (tag : Byte) (payload : List Byte)
    (s : State) (serve : Empty → State → State × OfficeAnswer) :
    execUnknownCommandCode code tag payload s = s.running (State.command code (fun _ => none) tag payload serve) :=
  congrArg s.running (funext fun u =>
    (if_neg h).trans (congrArg (State.command code (fun _ => none) tag payload · u) (funext fun x => x.elim)))

/-- R169: the command of the table that takes a frame reads exactly the payloads that fit its code. -/
theorem exec_ofCommand (f : Frame) :
    ∃ (α : Type) (read : List Byte → Option α) (serve : α → State → State × OfficeAnswer),
      (read f.payload).isSome = commandFits f.code f.payload ∧
        ∀ s, exec (Instr.ofCommand f) s = s.running (State.command f.code read f.tag f.payload serve) := by
  obtain ⟨code, tag, payload⟩ := f
  have hdecide : ∀ {b : Bool} {P : Prop} [Decidable P], (b = true ↔ P) → b = decide P := fun h =>
    Bool.eq_iff_iff.mpr (h.trans decide_eq_true_iff.symm)
  unfold Instr.ofCommand
  dsimp only
  split
  · next h =>
    obtain rfl : code = 0x01 := BitVec.eq_of_toNat_eq h
    exact ⟨_, _, fun _ s => (s, .done s.statusBytes), readNothing_isSome payload, fun _ => rfl⟩
  · next h =>
    obtain rfl : code = 0x02 := BitVec.eq_of_toNat_eq h
    exact ⟨_, _, serveTime, hdecide (readTime_isSome payload), fun _ => rfl⟩
  · next h =>
    obtain rfl : code = 0x03 := BitVec.eq_of_toNat_eq h
    exact ⟨_, _, _, hdecide (readAccount_isSome payload), fun _ => rfl⟩
  · next h =>
    obtain rfl : code = 0x04 := BitVec.eq_of_toNat_eq h
    exact ⟨_, _, _, hdecide (readCredit_isSome payload), fun _ => rfl⟩
  · next h =>
    obtain rfl : code = 0x05 := BitVec.eq_of_toNat_eq h
    exact ⟨_, _, _, hdecide (readBlock_isSome payload), fun _ => rfl⟩
  · next h =>
    obtain rfl : code = 0x06 := BitVec.eq_of_toNat_eq h
    exact ⟨_, _, _, hdecide (readFlags_isSome payload), fun _ => rfl⟩
  · next h =>
    obtain rfl : code = 0x07 := BitVec.eq_of_toNat_eq h
    exact ⟨_, _, _, hdecide (readPosition_isSome payload), fun _ => rfl⟩
  · next h =>
    obtain rfl : code = 0x08 := BitVec.eq_of_toNat_eq h
    exact ⟨_, _, _, Bool.eq_iff_iff.mpr (readScale_isSome payload), fun _ => rfl⟩
  · next h =>
    obtain rfl : code = 0x09 := BitVec.eq_of_toNat_eq h
    exact ⟨_, _, _, hdecide (readPrinter_isSome payload), fun _ => rfl⟩
  · next h =>
    obtain rfl : code = 0x0A := BitVec.eq_of_toNat_eq h
    exact ⟨_, _, _, hdecide (readRedirect_isSome payload), fun _ => rfl⟩
  · next h =>
    obtain rfl : code = 0x0B := BitVec.eq_of_toNat_eq h
    exact ⟨_, _, _, hdecide (readLoadBegin_isSome payload), fun _ => rfl⟩
  · next h =>
    obtain rfl : code = 0x0C := BitVec.eq_of_toNat_eq h
    exact ⟨_, _, _, hdecide (readLoadPart_isSome payload), fun _ => rfl⟩
  · next h =>
    obtain rfl : code = 0x0D := BitVec.eq_of_toNat_eq h
    exact ⟨_, _, _, readNothing_isSome payload, fun _ => rfl⟩
  · next h =>
    obtain rfl : code = 0x0E := BitVec.eq_of_toNat_eq h
    exact ⟨_, _, _, hdecide (readBankName_isSome payload), fun _ => rfl⟩
  · next h =>
    obtain rfl : code = 0x0F := BitVec.eq_of_toNat_eq h
    exact ⟨_, _, _, hdecide (readBankName_isSome payload), fun _ => rfl⟩
  · next h =>
    obtain rfl : code = 0x10 := BitVec.eq_of_toNat_eq h
    exact ⟨_, _, fun n s => (s, .done (s.journal.readBytes n)), hdecide (readJournalRead_isSome payload), fun _ => rfl⟩
  · next h =>
    obtain rfl : code = 0x11 := BitVec.eq_of_toNat_eq h
    exact ⟨_, _, _, hdecide (readTime_isSome payload), fun _ => rfl⟩
  · next h =>
    obtain rfl : code = 0x12 := BitVec.eq_of_toNat_eq h
    exact ⟨_, _, _, hdecide (readRestart_isSome payload), fun _ => rfl⟩
  · have hunknown : ¬(1 ≤ code.toNat ∧ code.toNat ≤ 18) := by
      simp only [imp_false] at *
      omega
    exact ⟨Empty, fun _ => none, Empty.elim, (commandFits_unknown code payload hunknown).symm,
      fun s => execUnknownCommandCode_eq hunknown tag payload s Empty.elim⟩

/-- Settles O6: what is malformed is not read, whatever the code. -/
theorem unknownCodesRefused : Obligations.UnknownCodesRefused := by
  refine ⟨fun p f rest s hfits hw => ?_, fun f rest s hfits hw => ?_⟩
  · obtain ⟨α, form, serve, hsuits, hexec⟩ := exec_ofRequest p f
    have hframe : (⟨form.code, f.tag, f.payload⟩ : Frame) = f := by rw [hsuits.code]
    have hnone : form.read f.payload = none := Option.isSome_eq_false_iff.mp (hsuits.reads.trans hfits) |> Option.isNone_iff_eq_none.mp
    refine ⟨form.slotByte f.payload, ?_, hsuits.absentSlot, hsuits.presentSlot⟩
    rw [hexec, State.running_request_malformed form p f.tag f.payload serve rest s (by rw [hframe]; exact hw) hnone, hframe]
    rfl
  · obtain ⟨α, read, serve, hreads, hexec⟩ := exec_ofCommand f
    have hnone : read f.payload = none := Option.isSome_eq_false_iff.mp (hreads.trans hfits) |> Option.isNone_iff_eq_none.mp
    rw [hexec, State.running_command_malformed f.code read f.tag f.payload serve rest s hw hnone]
    rfl

end Sys2Proof.Machine
end

section
/-! ANSWERS. The frames that the ports find (O3). -/

namespace Sys2Proof.Machine

/-- The bytes of a number that bytes spell are those bytes. -/
theorem leBytes_leNat (bytes : List Byte) : leBytes bytes.length (leNat bytes) = bytes := by
  induction bytes with
  | nil => rfl
  | cons b bytes ih =>
    have hlow : BitVec.ofNat 8 (b.toNat + 256 * leNat bytes) = b := BitVec.eq_of_toNat_eq (by
      rw [BitVec.toNat_ofNat]
      omega)
    have hhigh : (b.toNat + 256 * leNat bytes) / 256 = leNat bytes := by omega
    rw [List.length_cons, leNat, leBytes, hlow, hhigh, ih]

/-- R179: bytes behind a sync byte that spell a length, a content of that length and its CRC are a frame as it is sent. -/
theorem exists_wire {sync l0 l1 : Byte} {content check : List Byte} (hlow : 2 ≤ leNat [l0, l1])
    (hcontent : content.length = leNat [l0, l1]) (hcheck : check = crc16Bytes (l0 :: l1 :: content)) :
    ∃ f : Frame, f.payload.length + 2 = leNat [l0, l1] ∧ f.wire sync = sync :: l0 :: l1 :: (content ++ check) := by
  match content, hcontent.symm ▸ hlow with
  | code :: tag :: payload, _ =>
    have hlength : 2 + payload.length = leNat [l0, l1] := by rw [← hcontent, Nat.add_comm]; rfl
    have hbytes : leBytes 2 (2 + payload.length) = [l0, l1] := by rw [hlength]; exact leBytes_leNat [l0, l1]
    have hbody : Frame.body ⟨code, tag, payload⟩ = l0 :: l1 :: code :: tag :: payload := by rw [Frame.body, hbytes]; rfl
    exact ⟨⟨code, tag, payload⟩, by rw [← hlength, Nat.add_comm], by rw [Frame.wire, hbody, hcheck]; rfl⟩

/-- R179: a frame's bytes behind its length: the content, its CRC, and what follows. -/
theorem eq_content_check_more {len : Nat} {bytes : List Byte} (h : len + 2 ≤ bytes.length) :
    ∃ content check more, bytes = content ++ check ++ more ∧ content.length = len ∧ check.length = 2 := by
  refine ⟨bytes.take len, (bytes.drop len).take 2, bytes.drop (len + 2), ?_, ?_, ?_⟩
  · rw [List.append_assoc, ← List.drop_drop, List.take_append_drop, List.take_append_drop]
  · rw [List.length_take]; omega
  · rw [List.length_take, List.length_drop]; omega

/-- R179: of all bytes it is said what is found in them. -/
theorem exists_framesFound (sync : Byte) (bytes : List Byte) : ∃ frames tail, FramesFound sync bytes frames tail := by
  induction hn : bytes.length using Nat.strong_induction_on generalizing bytes with
  | _ n ih =>
    have hshorter : ∀ x : List Byte, x.length < bytes.length → ∃ frames tail, FramesFound sync x frames tail := fun x hx =>
      ih x.length (hn ▸ hx) x rfl
    match bytes with
    | [] => exact ⟨[], [], .nothing⟩
    | b :: rest =>
      by_cases hb : b = sync
      · subst hb
        match rest with
        | [] => exact ⟨[], _, .lengthAwaited [] (by decide)⟩
        | [l0] => exact ⟨[], _, .lengthAwaited [l0] (by simp)⟩
        | l0 :: l1 :: bytes =>
          obtain ⟨frames, tail, hpassed⟩ := hshorter (l0 :: l1 :: bytes) (Nat.lt_succ_self _)
          by_cases hlength : leNat [l0, l1] < 2 ∨ 1024 < leNat [l0, l1]
          · exact ⟨frames, tail, .badLength l0 l1 bytes frames tail hlength hpassed⟩
          · obtain ⟨hlow, hhigh⟩ : 2 ≤ leNat [l0, l1] ∧ leNat [l0, l1] ≤ 1024 := by omega
            by_cases hwhole : bytes.length < leNat [l0, l1] + 2
            · exact ⟨[], _, .restAwaited l0 l1 bytes hlow hhigh hwhole⟩
            · obtain ⟨content, check, more, rfl, hcontent, htwo⟩ := eq_content_check_more (Nat.not_lt.mp hwhole)
              by_cases hcheck : check = crc16Bytes (l0 :: l1 :: content)
              · obtain ⟨f, hpayload, hwire⟩ := exists_wire (sync := b) hlow hcontent hcheck
                obtain ⟨frames, tail, hfound⟩ := hshorter more (by simp; omega)
                have hreceived := FramesFound.received f more frames tail (by omega) hfound
                rw [hwire] at hreceived
                exact ⟨f :: frames, tail, by simpa using hreceived⟩
              · exact ⟨frames, tail, .badCheck l0 l1 content check more frames tail hlow hhigh hcontent htwo hcheck hpassed⟩
      · obtain ⟨frames, tail, hfound⟩ := hshorter rest (Nat.lt_succ_self _)
        exact ⟨frames, tail, .noise b rest frames tail hb hfound⟩

/-- Settles O3: what is found exists, and a port that receives holds it. -/
theorem portsFindFrames : Obligations.PortsFindFrames := by
  refine ⟨exists_framesFound, fun p bytes tail frames s hrun hline hfound => ?_, fun p bytes s hrun hline => ?_,
    fun bytes tail broken frames s hrun hfound => ?_⟩
  · rw [exec, execPositionFrameReceived, State.running_on _ s hrun, State.receivePosition]
    have hon : (State.ctx { s with sent := [] } p).linePresent = true := hline
    rw [if_pos hon]
    simp only [Port.receive_found _ hfound, Config.positionFramesHeld]
  · rw [exec, execPositionFrameReceived, State.running_on _ s hrun, State.receivePosition]
    have hoff : (State.ctx { s with sent := [] } p).linePresent = false := hline
    rw [if_neg (by rw [hoff]; decide)]
  · rw [exec, execOfficeFrameReceived, State.running_on _ s hrun, State.receiveOffice]
    simp only [Port.receive_found _ hfound, Config.officeFramesHeld]
    cases broken <;> rfl

end Sys2Proof.Machine
end

section
/-! ANSWERS. The timers of a channel (O21) and WEIGH (O22). -/

namespace Sys2Proof.Machine

/-! ### Captures (R56) -/

theorem Channel.capture_eq {ch : Channel} {r : Int} (h : ch.reading = some r) :
    ch.capture = some (captureStatus ch.config r, r.toNat) := by
  rw [Channel.capture, h]
  rfl

/-- R53: the settle timer of an UNSTABLE channel with a reading. -/
theorem State.settle_eq {c : ChannelId} {r : Int} {s : State} (hstate : (s.channel c).state = .unstable)
    (htimer : (s.channel c).settleTimer.isSome = true) (hreading : (s.channel c).reading = some r) :
    s.settle c =
      (s.setChannel c { s.channel c with state := .stable, settleTimer := none }).endWeigh c
        (captureStatus (s.channel c).config r) r.toNat := by
  rw [State.settle, if_pos ⟨htimer, hstate⟩, Channel.capture_eq hreading]

/-- Settles O21, by whether a weigh waits on the channel. -/
theorem timersEndWeigh : Obligations.TimersEndWeigh := by
  refine ⟨fun c r s hrun hstate htimer hreading => ?_, fun c p k t i s hrun hwaits htimer hs ht hi hw => ?_⟩
  · intro ch status
    generalize hs0 : ({ s with sent := [] } : State) = s0
    have hchannel : s0.channel c = ch := by rw [← hs0]; rfl
    have hsettle : exec (.settleTimerExpiry c) s =
        .next ((s0.setChannel c { ch with state := .stable, settleTimer := none }).endWeigh c status r.toNat) := by
      rw [exec, execSettleTimerExpiry, State.running_on _ s hrun, hs0]
      have hcaptured := State.settle_eq (s := s0) (c := c) (by rw [hchannel]; exact hstate) (by rw [hchannel]; exact htimer)
        (by rw [hchannel]; exact hreading)
      rw [hchannel] at hcaptured
      exact congrArg _ hcaptured
    rw [hsettle]
    refine ⟨fun hidle => ?_, fun p k t i hwaits hs ht hi hw => ?_⟩
    · rw [State.endWeigh_idle _ _ _ _ (by rw [State.setChannel_channel_self]; exact hidle), ← hs0]
      rfl
    · have hend := State.endWeigh_eq (c := c) (s := s0.setChannel c { ch with state := .stable, settleTimer := none })
        status r.toNat (by rw [State.setChannel_channel_self]; exact hwaits) (by rw [← hs0]; exact hs)
        (by rw [← hs0]; exact ht) hi hw
      rw [hend, State.setChannel_channel_self, ← hs0]
      simp only [State.setChannel, tset_tset]
      rfl
  · rw [exec, execWeighTimerExpiry, State.running_on _ s hrun, if_pos (by exact htimer)]
    exact congrArg _ (State.endWeigh_eq (s := { s with sent := [] }) .unstable 0 hwaits hs ht hi hw)

/-! ### WEIGH (R54, R55) -/

/-- R54: the refusals of WEIGH in order. -/
def weighRefusal (p : PositionId) (k : Slot) (i : Item) (s : State) : Option (List Byte) :=
  let report (r : Reason) : Option (List Byte) := some (reported 0x07 r (BitVec.ofNat 8 k.val) 0 0)
  match (s.ctx p).config.scale with
  | none => report .noScale
  | some c =>
    if ¬(i.state = .draft ∨ i.state = .weighed ∨ i.state = .quoted ∨ i.state = .stale) then report .state
    else if (s.channel c).state = .off then some [0x03]
    else if (s.channel c).weigh ≠ .idle ∨ (s.ctx p).weigh ≠ none then some [0x02]
    else if 8 ≤ s.budgetTotal p then some [0x02]
    else if (s.channel c).state = .fault then report .scaleFault
    else none

theorem serveWeigh_refused {p : PositionId} {k : Slot} {i : Item} {s : State} {answer : List Byte} (hi : s.item p k = some i)
    (h : weighRefusal p k i s = some answer) : RefusedWith 0x07 (BitVec.ofNat 8 k.val) s (serveWeigh p k s) answer := by
  unfold weighRefusal at h
  unfold serveWeigh
  dsimp only at h ⊢
  cases hscale : (s.ctx p).config.scale with
  | none =>
    rw [hscale] at h
    exact ⟨_, rfl, Option.some.inj h⟩
  | some c =>
    rw [hscale] at h
    rw [hi]
    refine RefusedWith.check h (by rw [← ItemState.free_iff, Bool.not_eq_true]) rfl fun _ h => ?_
    refine RefusedWith.check h Iff.rfl rfl fun _ h => ?_
    refine RefusedWith.check h (by rw [Option.isSome_iff_ne_none]) rfl fun _ h => ?_
    refine RefusedWith.check h (by rw [State.budget_eq]; rfl) rfl fun _ h => ?_
    refine RefusedWith.check h Iff.rfl rfl fun _ h => ?_
    cases h

/-- R54: a WEIGH that passes its checks on a channel that is neither OFF nor in FAULT. -/
theorem serveWeigh_taken {p : PositionId} {k : Slot} {c : ChannelId} {i : Item} {s : State} (hi : s.item p k = some i)
    (hfree : i.state = .draft ∨ i.state = .weighed ∨ i.state = .quoted ∨ i.state = .stale)
    (hscale : (s.ctx p).config.scale = some c) (hidle : (s.channel c).weigh = .idle) (hnone : (s.ctx p).weigh = none)
    (hroom : s.budgetTotal p < 8) (hon : (s.channel c).state = .unstable ∨ (s.channel c).state = .stable) :
    serveWeigh p k s = s.takeWeigh p c k := by
  have hfree' : i.state.free ≠ false := by rw [(ItemState.free_iff _).mpr hfree]; decide
  have hroom' : ¬Config.budget ≤ s.budget p := by rw [State.budget_eq]; exact Nat.not_le.mpr hroom
  have hoff : (s.channel c).state ≠ .off := by obtain h | h := hon <;> simp [h]
  have hfault : (s.channel c).state ≠ .fault := by obtain h | h := hon <;> simp [h]
  simp only [serveWeigh, hscale, hi, if_neg hfree', if_neg hoff, hidle, hnone, if_neg hroom', if_neg hfault, ne_eq,
    not_true_eq_false, Option.isSome_none, Bool.false_eq_true, or_self, if_false]

/-- R34: the item becomes WEIGHING without quote, and the weigh in flight is recorded. -/
theorem State.startWeigh_eq {p : PositionId} {k : Slot} {t : Transaction} {i : Item} {s : State}
    (ht : (s.ctx p).transaction = some t) (hi : tget t k = some i) :
    s.startWeigh p k =
      { s with
        tariffs := s.tariffsWithout i
        positions :=
          tset s.positions p
            { s.ctx p with
              transaction := some (tset t k (some { i with state := .weighing, quote := none })), weigh := some k } } := by
  rw [State.startWeigh, State.requote_eq .weighing ht hi]
  simp [State.setCtx, State.ctx]

/-- R34, R35: a weigh that starts and is captured in the same step. -/
theorem State.finishWeigh_startWeigh {p : PositionId} {k : Slot} {t : Transaction} {i : Item} {s : State} (status : Reason)
    (reading : Nat) (hst : (s.ctx p).state = .inTransaction) (ht : (s.ctx p).transaction = some t) (hi : tget t k = some i) :
    (s.startWeigh p k).finishWeigh p k status reading =
      State.withWeighEnd p k t { i with state := .weighing, quote := none } status reading
        { s with tariffs := s.tariffsWithout i } := by
  have hctx : (s.startWeigh p k).ctx p =
      { s.ctx p with
        transaction := some (tset t k (some { i with state := .weighing, quote := none })), weigh := some k } := by
    simp [State.startWeigh_eq ht hi, State.ctx]
  rw [State.finishWeigh_eq status reading (by rw [hctx]; exact hst) (congrArg PositionContext.transaction hctx)
    (tget_tset_self ..) rfl, State.withWeighEnd, State.withWeighEnd, hctx, State.startWeigh_eq ht hi]
  simp only [State.withRecord, tset_tset]
  rfl

/-- R35: the item after the end of its weigh. -/
theorem State.withWeighEnd_item (p : PositionId) (k : Slot) (t : Transaction) (i : Item) (status : Reason) (weight : Nat)
    (s : State) : (State.withWeighEnd p k t i status weight s).item p k = some (i.weighedAs status weight) := by
  simp [State.withWeighEnd, State.withRecord, State.item, State.ctx]

/-- R55: on an UNSTABLE channel the weigh waits. -/
theorem State.takeWeigh_unstable {p : PositionId} {c : ChannelId} {k : Slot} {s : State} (h : (s.channel c).state = .unstable) :
    s.takeWeigh p c k =
      ((s.startWeigh p k).setChannel c { s.channel c with weigh := .waiting p k, weighTimer := some 10000 }, .taken [0x01]) := by
  unfold State.takeWeigh
  dsimp only
  split
  · next hstable _ => cases h.symm.trans hstable
  · rfl

/-- Settles O22: the refusals in order; then the channel's state tells whether the weigh waits or is captured. -/
theorem weighWaitsOrCaptures : Obligations.WeighWaitsOrCaptures := by
  refine ⟨fun p tag k rest t i s hw => ?_, fun p tag k c rest t i s hw hfree hscale hidle hnone hroom => ?_⟩
  · intro report refusal answer h
    obtain ⟨-, -, ht, hi⟩ := id hw
    have hitem : (s.afterRequest p rest []).item p k = some i :=
      (State.item_of_transaction (s := s.afterRequest p rest []) ht k).trans hi
    exact State.running_slotRequest_refused hw (serveWeigh_refused hitem h)
  · intro f started
    obtain ⟨-, hst, ht, hi⟩ := id hw
    have ht' : ((s.afterRequest p rest []).ctx p).transaction = some t := ht
    have hitem : (s.afterRequest p rest []).item p k = some i := (State.item_of_transaction ht' k).trans hi
    have htaken := serveWeigh_taken (s := s.afterRequest p rest []) hitem hfree hscale hidle hnone hroom
    have hstarted := State.startWeigh_eq (s := s.afterRequest p rest []) ht' hi
    rw [State.afterRequest_tariffsWithout] at hstarted
    refine ⟨fun hstate => ?_, fun r hstate hreading => ?_⟩
    · have hserve := htaken (.inl hstate)
      rw [State.takeWeigh_unstable (s := s.afterRequest p rest []) hstate, hstarted] at hserve
      exact State.running_slotRequest_answered hw hserve
    · intro cfg status ended
      have hserve := htaken (.inr hstate)
      have hchannel : ((s.afterRequest p rest []).channel c).state = .stable := hstate
      have hcapture : ((s.afterRequest p rest []).channel c).capture = some (status, r.toNat) := Channel.capture_eq hreading
      have hend := State.finishWeigh_startWeigh (s := s.afterRequest p rest []) status r.toNat hst ht' hi
      rw [State.afterRequest_tariffsWithout] at hend
      simp only [State.takeWeigh, hchannel, hcapture, hend, State.withWeighEnd_item, Option.bind_some] at hserve
      exact State.running_slotRequest_answered hw hserve

end Sys2Proof.Machine
end

section
/-! ANSWERS. RATE (O24). -/

namespace Sys2Proof.Machine

theorem readRate_one (k : Slot) : readRate [BitVec.ofNat 8 k.val, 0x00] = some (k, .one) := by
  simp [readRate, readFin_ofNat (n := 8) (by decide)]

theorem readRate_rest (k : Slot) : readRate [BitVec.ofNat 8 k.val, 0x01] = some (k, .rest) := by
  simp [readRate, readFin_ofNat (n := 8) (by decide)]

/-- R80 check 3: no tariff is in force while neither bank is ACTIVE. -/
theorem State.tariffInForce_eq_false_iff (s : State) :
    s.tariffInForce = false ↔ (s.bank .A).state ≠ .active ∧ (s.bank .B).state ≠ .active := by
  rw [State.tariffInForce, decide_eq_false_iff_not, not_or]
  rfl

/-- R81: the operations ahead of a new entry. -/
theorem State.operationsAhead_eq (s : State) :
    s.operationsAhead = s.evaluator.queue.length + if s.evaluator.state = .idle then 0 else 1 := by
  rw [State.operationsAhead]
  cases s.evaluator.state <;> rfl

/-- R80: the refusals of RATE in order. -/
def rateRefusal (p : PositionId) (k : Slot) (i : Item) (s : State) : Option (List Byte) :=
  let report (r : Reason) : Option (List Byte) := some (reported 0x09 r (BitVec.ofNat 8 k.val) 0 0)
  if ¬(i.state = .weighed ∨ i.state = .quoted ∨ i.state = .stale) then report .state
  else if i.facts.destination = none then report .missingDestination
  else if (s.bank .A).state ≠ .active ∧ (s.bank .B).state ≠ .active then report .noTariff
  else if (s.ctx p).rating = true then some [0x02]
  else if 8 ≤ s.budgetTotal p then some [0x02]
  else none

theorem serveRate_refused {p : PositionId} {k : Slot} {scope : Scope} {i : Item} {s : State} {answer : List Byte}
    (hi : s.item p k = some i) (h : rateRefusal p k i s = some answer) :
    RefusedWith 0x09 (BitVec.ofNat 8 k.val) s (serveRate p (k, scope) s) answer := by
  unfold rateRefusal at h
  unfold serveRate
  dsimp only at h ⊢
  rw [hi]
  refine RefusedWith.check h (by rw [← ItemState.fit_iff, Bool.not_eq_true]) rfl fun _ h => ?_
  refine RefusedWith.check h Option.isNone_iff_eq_none rfl fun _ h => ?_
  refine RefusedWith.check h (State.tariffInForce_eq_false_iff s) rfl fun _ h => ?_
  refine RefusedWith.check h Iff.rfl rfl fun _ h => ?_
  refine RefusedWith.check h (by rw [State.budget_eq]; rfl) rfl fun _ h => ?_
  cases h

/-- A check of a chain of refusals that refuses nothing: its condition does not hold, and neither do those behind it. -/
theorem passes_check {α : Type} {c c' : Prop} [Decidable c'] {w : α} {others : Option α}
    (h : (if c' then some w else others) = none) (hc : c ↔ c') : ¬c ∧ others = none := by
  split at h
  · cases h
  · next hno => exact ⟨mt hc.mp hno, h⟩

theorem serveRate_taken {p : PositionId} {k : Slot} {scope : Scope} {i : Item} {s : State} (hi : s.item p k = some i)
    (h : rateRefusal p k i s = none) :
    serveRate p (k, scope) s = (s.takeRate p k scope, .taken [BitVec.ofNat 8 s.operationsAhead]) := by
  unfold rateRefusal at h
  obtain ⟨hfit, h⟩ := passes_check h (c := i.state.fit = false) (by rw [← ItemState.fit_iff, Bool.not_eq_true])
  obtain ⟨hdestination, h⟩ := passes_check h (c := i.facts.destination.isNone = true) Option.isNone_iff_eq_none
  obtain ⟨htariff, h⟩ := passes_check h (State.tariffInForce_eq_false_iff s)
  obtain ⟨hrating, h⟩ := passes_check h Iff.rfl
  obtain ⟨hroom, -⟩ := passes_check h (c := Config.budget ≤ s.budget p) (by rw [State.budget_eq]; rfl)
  simp only [serveRate, hi, if_neg hfit, if_neg hdestination, if_neg htariff, if_neg hrating, if_neg hroom]

/-- R36, R81: a RATE that is taken: the item waits in the queue without quote, and a first entry stands at the tail. -/
theorem State.takeRate_eq {p : PositionId} {k : Slot} (scope : Scope) {t : Transaction} {i : Item} {s : State}
    (ht : (s.ctx p).transaction = some t) (hi : tget t k = some i) :
    s.takeRate p k scope =
      { s with
        tariffs := s.tariffsWithout i
        positions :=
          tset s.positions p
            { s.ctx p with
              transaction := some (tset t k (some { i with state := .rateQueued, quote := none })), rating := true }
        evaluator :=
          { s.evaluator with
            queue :=
              s.evaluator.queue ++
                [{ position := p, slot := k, origin := k, scope := scope, quoted := 0, lastPostage := none }] } } := by
  rw [State.takeRate, State.requote_eq .rateQueued ht hi]
  simp [State.setCtx, State.ctx]

/-- Settles O24, by the first check of R80 that refuses, if one does. -/
theorem rateJoinsQueue : Obligations.RateJoinsQueue := by
  intro p tag k scope payload rest t i s hpayload hw report refusal ahead
  obtain ⟨hwaits, hst, ht, hi⟩ := hw
  have ht' : ((s.afterRequest p rest []).ctx p).transaction = some t := ht
  have hitem : (s.afterRequest p rest []).item p k = some i := (State.item_of_transaction ht' k).trans hi
  have hread : readRate payload = some (k, scope) := by
    rw [hpayload]
    cases scope
    · exact readRate_one k
    · exact readRate_rest k
  have hslot : firstSlotByte 0x09 2 payload = BitVec.ofNat 8 k.val :=
    firstSlotByte_fits (by rw [hpayload]; rfl) (by rw [hpayload]; exact byteAt_slot k)
  have hanswered : ∀ {u ans}, serveRate p (k, scope) (s.afterRequest p rest []) = (u, ans) →
      exec (.rate p tag payload) s =
        .next { u with
          sent := responseTo p ⟨0x09, tag, payload⟩ (ans.payload 0x09 (BitVec.ofNat 8 k.val)) :: u.sent } := fun hserve =>
    (State.running_request_answered (form := rateForm) hwaits hread (by rw [hst]; rfl)
      (fun m hm => by cases hm; rw [State.item_of_transaction ht, hi]; rfl) hserve).trans (by rw [← hslot]; rfl)
  have hrefusal : refusal = rateRefusal p k i (s.afterRequest p rest []) := rfl
  rw [hrefusal]
  cases hcheck : rateRefusal p k i (s.afterRequest p rest []) with
  | some answer =>
    obtain ⟨ans, hserve, rfl⟩ := serveRate_refused (scope := scope) hitem hcheck
    exact hanswered hserve
  | none =>
    have hserve := serveRate_taken (scope := scope) hitem hcheck
    rw [State.takeRate_eq scope ht' hi, State.afterRequest_tariffsWithout, State.operationsAhead_eq] at hserve
    exact hanswered hserve

end Sys2Proof.Machine
end

section
/-! ANSWERS. The DONE of a printer (O47). -/

namespace Sys2Proof.Machine

/-- R157: a DONE that does not answer the print under way. -/
theorem State.takeDone_ignored {l : PrinterId} {n : Byte} {s : State}
    (h : ¬((s.printer l).state = .printing ∧ (s.printer l).sendNumber = n)) : s.takeDone l n = s := if_neg h

/-- R157: the store and the label count when the head job of a printer is done. -/
def State.withHeadDone (l : PrinterId) (j : Job) (others : List Job) (s : State) : State :=
  State.withLabel j.position j.itemNumber .printed
    { s with
      printers := tset s.printers l { s.printer l with state := .ready, queue := others, timer := none }
      labelCounts := tset s.labelCounts j.position (tget s.labelCounts j.position - 1)
      nvs := { s.nvs with queues := tset s.nvs.queues l (others.map Job.stored) } }

theorem State.withHeadDone_printer (l : PrinterId) (j : Job) (others : List Job) (s : State) :
    (s.withHeadDone l j others).printer l = { s.printer l with state := .ready, queue := others, timer := none } := by
  simp [State.withHeadDone, State.withLabel, State.printer]

theorem State.withHeadDone_ctx_state (l : PrinterId) (j : Job) (others : List Job) (s : State) :
    ((s.withHeadDone l j others).ctx j.position).state = (s.ctx j.position).state := by
  simp [State.withHeadDone, State.withLabel, State.ctx]

/-- R16, R23: an attached position gets the record, any other loses it. -/
theorem State.handCompletion_iff (p : PositionId) (r : Completion) (s : State) :
    s.handCompletion p r =
      if (s.ctx p).state = .attached ∨ (s.ctx p).state = .inTransaction then s.withRecord p (s.ctx p) r else s := by
  split
  · next h => exact State.handCompletion_eq r ((PositionState.clerked_iff _).mpr h)
  · next h => exact State.handCompletion_discards p r s (Bool.not_eq_true _ ▸ mt (PositionState.clerked_iff _).mp h)

/-- R157: the end of a print. -/
theorem State.takeDone_ends {l : PrinterId} {n : Byte} {j : Job} {others : List Job} {s : State}
    (h : (s.printer l).state = .printing) (hn : (s.printer l).sendNumber = n) (hq : (s.printer l).queue = j :: others) :
    s.takeDone l n = State.withHeadSent l
      ((s.withHeadDone l j others).handCompletion j.position (.labelDone j.slot j.itemNumber l)) := by
  have hdone : (((s.setPrinter l { s.printer l with state := .ready, queue := others, timer := none }).countLabels j.position
      (tget s.labelCounts j.position - 1)).saveQueue l).reportLabel j.position j.itemNumber .printed =
      s.withHeadDone l j others := by
    rw [State.reportLabel_eq]
    simp [State.withHeadDone, State.saveQueue, State.countLabels, State.setPrinter, State.printer]
  rw [State.takeDone, if_pos ⟨h, hn⟩, State.finishHead]
  simp only [hq, hdone]
  refine State.sendHead_ready ?_
  rw [State.printer, State.handCompletion_printers]
  exact congrArg Printer.state (State.withHeadDone_printer l j others s)

/-- Settles O47, by what the frame spells and the printer it reaches. -/
theorem printerDoneEndsJob : Obligations.PrinterDoneEndsJob := by
  intro l noise n reason s hp hq pr
  have hanswer : exec (.printerDone l noise n reason (0x01 ^^^ n ^^^ reason)) s =
      .next (State.takeDone l n { s with printerLines := tset s.printerLines l [], sent := [] }) :=
    (State.running_on _ s hp).trans
      (congrArg _ (State.receiveAnswers_answer (a := .done n) (s := { s with sent := [] }) hq rfl))
  refine ⟨fun check hcheck => ?_, fun hother => ?_, fun j others hst hn hqueue => ?_⟩
  · exact (State.running_on _ s hp).trans
      (congrArg _ (State.receiveAnswers_discarded (s := { s with sent := [] }) hq (.inl hcheck)))
  · exact hanswer.trans (congrArg _ (State.takeDone_ignored hother))
  · have hends := State.takeDone_ends (s := { s with printerLines := tset s.printerLines l [], sent := [] }) hst hn hqueue
    simp only [State.handCompletion_iff, State.withHeadDone_ctx_state] at hends
    exact hanswer.trans (congrArg _ hends)

end Sys2Proof.Machine
end

section
/-! ANSWERS. CANCEL (O13). -/

namespace Sys2Proof.Machine

/-! ### What CANCEL names (R22) -/

theorem readCancel_all : readCancel [0xFF] = some none := rfl

theorem readCancel_slot (k : Slot) : readCancel [BitVec.ofNat 8 k.val] = some (some k) := by
  have hne : BitVec.ofNat 8 k.val ≠ 0xFF := fun h => by
    have hval : (BitVec.ofNat 8 k.val).toNat = 255 := by rw [h]; rfl
    rw [show (BitVec.ofNat 8 k.val).toNat = k.val from byteAt_slot k] at hval
    omega
  rw [readCancel, readOptFin, if_neg hne, readFin_ofNat (by decide)]
  rfl

/-- R22: a byte that names a slot, by ALL or by itself, and no weigh in flight. -/
theorem exists_cancelTarget {b : Byte} {k : Slot} {weigh : Option Slot}
    (h : (b = 0xFF ∧ weigh = none) ∨ (b = BitVec.ofNat 8 k.val ∧ weigh ≠ some k)) :
    ∃ x, readCancel [b] = some x ∧ (x = none ∨ x = some k) ∧ ∀ w, weigh = some w → targets x w = false := by
  obtain ⟨rfl, rfl⟩ | ⟨rfl, hne⟩ := h
  · exact ⟨none, readCancel_all, .inl rfl, nofun⟩
  · refine ⟨some k, readCancel_slot k, .inr rfl, fun w hw => decide_eq_false fun hk => hne ?_⟩
    rw [hw, hk]

theorem targets_of_named {x : Option Slot} {k : Slot} (h : x = none ∨ x = some k) : targets x k = true := by
  obtain rfl | rfl := h
  · rfl
  · exact decide_eq_true rfl

/-! ### The weigh (R57) -/

/-- R22: a weigh at another slot, or none, is left as it is. -/
theorem State.cancelWeigh_other {p : PositionId} {x : Option Slot} {s : State}
    (h : ∀ w, (s.ctx p).weigh = some w → targets x w = false) : s.cancelWeigh p x = (s, false) := by
  unfold State.cancelWeigh
  split
  · next w c hw _ => rw [h w hw]; rfl
  · rfl

theorem State.weighChannel_eq {p : PositionId} {c : ChannelId} {k : Slot} {s : State} (hc : (s.channel c).weigh = .waiting p k)
    (hone : ∀ d m, (s.channel d).weigh = .waiting p m → d = c) : s.weighChannel p = some c := by
  simp only [State.weighChannel, ← Fin.find?_eq_find?_finRange, Fin.find?_eq_some_iff]
  refine ⟨by rw [hc]; exact decide_eq_true rfl, fun d hd => ?_⟩
  split
  · next q m hm => exact decide_eq_false fun hq => absurd (hone d m (hq ▸ hm)) (ne_of_lt hd)
  · rfl

/-- R57: the WAITING weigh that a CANCEL names ends CANCELLED, and its channel is IDLE with the timer stopped. -/
theorem State.cancelWeigh_ends {p : PositionId} {x : Option Slot} {k : Slot} {c : ChannelId} {t : Transaction} {i : Item} {s : State}
    (hx : x = none ∨ x = some k) (hs : (s.ctx p).state = .inTransaction) (ht : (s.ctx p).transaction = some t)
    (hi : tget t k = some i) (hi' : i.state = .weighing) (hw : (s.ctx p).weigh = some k)
    (hc : (s.channel c).weigh = .waiting p k) (hone : ∀ d m, (s.channel d).weigh = .waiting p m → d = c) :
    s.cancelWeigh p x = (State.withWeighEnd p k t i .cancelled 0 (s.setChannel c (s.channel c).freed), true) := by
  simp only [State.cancelWeigh, hw, State.weighChannel_eq hc hone, targets_of_named hx, if_true,
    State.endWeigh_eq .cancelled 0 hc hs ht hi hi']

theorem State.withWeighEnd_ctx (p : PositionId) (k : Slot) (t : Transaction) (i : Item) (status : Reason) (weight : Nat) (s : State) :
    (State.withWeighEnd p k t i status weight s).ctx p =
      { s.ctx p with
        transaction := some (tset t k (some (i.weighedAs status weight))), weigh := none
        completions :=
          (s.ctx p).completions ++
            [.weighDone status k (i.weighedAs status weight).weight (i.weighedAs status weight).previous] } := by
  simp [State.withWeighEnd, State.withRecord, State.ctx]

theorem Item.weighedAs_state (status : Reason) (weight : Nat) (i : Item) :
    (i.weighedAs status weight).state = .weighed ∨ (i.weighedAs status weight).state = .draft := by
  unfold Item.weighedAs
  split
  · exact .inl rfl
  · split
    · exact .inr rfl
    · exact .inl rfl

/-! ### The rating (R101, R102) -/

theorem State.ratingFound_of_named {p : PositionId} {x : Option Slot} {k : Slot} {i : Item} {s : State} (hx : x = none ∨ x = some k)
    (hi : s.item p k = some i) (hi' : i.state = .rateQueued ∨ i.state = .rating) (hrating : (s.ctx p).rating = true) :
    s.ratingFound p x = true := by
  obtain rfl | rfl := hx
  · exact hrating
  · rw [State.ratingFound, hi]
    exact decide_eq_true hi'

theorem State.ratingFound_slot_eq_false {p : PositionId} {k : Slot} {i : Item} {s : State} (hi : s.item p k = some i)
    (hi' : i.state ≠ .rateQueued ∧ i.state ≠ .rating) : s.ratingFound p (some k) = false := by
  rw [State.ratingFound, hi]
  exact decide_eq_false (not_or.mpr hi')

theorem State.returnItem_eq {p : PositionId} {k : Slot} {t : Transaction} {i : Item} {s : State}
    (ht : (s.ctx p).transaction = some t) (hi : tget t k = some i) (hr : i.state = .rateQueued ∨ i.state = .rating) :
    s.returnItem p k =
      s.setCtx p { s.ctx p with transaction := some (tset t k (some { i with state := .weighed, quote := none })) } := by
  simp only [State.returnItem, State.item_of_transaction ht, hi, if_pos hr, State.setItem_of_transaction ht]

/-- A CANCEL names no entry of another position. -/
theorem entryNamed_of_elsewhere {p : PositionId} (x : Option Slot) {ops : List Operation} (h : ∀ o ∈ ops, o.position ≠ p) :
    ∀ o ∈ ops, ¬(decide (o.position = p) && targets x o.slot) = true := fun o ho hnamed =>
  h o ho (of_decide_eq_true (Bool.and_eq_true_iff.mp hnamed).1)

theorem find?_append_cons {α : Type} {f : α → Bool} {before behind : List α} {a : α} (hbefore : ∀ b ∈ before, ¬f b = true)
    (ha : f a = true) : (before ++ a :: behind).find? f = some a := by
  rw [List.find?_append, List.find?_eq_none.mpr hbefore, List.find?_cons_of_pos ha]
  rfl

theorem eraseP_append_cons {α : Type} {f : α → Bool} {before behind : List α} {a : α} (hbefore : ∀ b ∈ before, ¬f b = true)
    (ha : f a = true) : (before ++ a :: behind).eraseP f = before ++ behind := by
  rw [List.eraseP_append_right _ hbefore, List.eraseP_cons_of_pos ha]

/-- R101: a queued rating that CANCEL names leaves the queue, its item is WEIGHED again, and one RATE-DONE CANCELLED is handed over. -/
theorem State.cancelOperation_queued {x : Option Slot} {before behind : List Operation} {op : Operation} {t : Transaction}
    {i : Item} {s : State} (hx : targets x op.slot = true) (hq : s.evaluator.queue = before ++ op :: behind)
    (hbefore : ∀ o ∈ before, o.position ≠ op.position) (hs : (s.ctx op.position).state = .inTransaction)
    (ht : (s.ctx op.position).transaction = some t) (hi : tget t op.slot = some i) (hi' : i.state = .rateQueued) :
    s.cancelOperation op.position x =
      State.withRateDone op op.slot (tset t op.slot (some { i with state := .weighed, quote := none })) .cancelled
        { s with evaluator := { s.evaluator with queue := before ++ behind } } := by
  have hothers := entryNamed_of_elsewhere x hbefore
  have hop : (decide (op.position = op.position) && targets x op.slot) = true := by rw [hx, decide_eq_true rfl]; rfl
  have hfind := find?_append_cons (behind := behind) hothers hop
  have herase := eraseP_append_cons (behind := behind) hothers hop
  simp only [State.cancelOperation, hq, hfind, herase]
  rw [State.returnItem_eq (s := { s with evaluator := { s.evaluator with queue := before ++ behind } }) ht hi (.inl hi'),
    State.handRateDone_eq (t := tset t op.slot (some { i with state := .weighed, quote := none }))]
  · simp [State.withRateDone, State.withRecord, State.setCtx, State.ctx]
  · simpa [State.setCtx, State.ctx] using hs
  · simp [State.setCtx, State.ctx]

/-- R102: the evaluation under way gets the halt reason CANCELLED if it has none. -/
theorem State.cancelOperation_evaluating {x : Option Slot} {op : Operation} {ev : Evaluation} {s : State}
    (hx : targets x op.slot = true) (hstate : s.evaluator.state = .evaluating op ev)
    (hq : ∀ o ∈ s.evaluator.queue, o.position ≠ op.position) :
    s.cancelOperation op.position x =
      { s with
        evaluator :=
          { s.evaluator with
            state := .evaluating op { ev with halt := if ev.halt = none then some .cancelled else ev.halt } } } := by
  simp only [State.cancelOperation, List.find?_eq_none.mpr (entryNamed_of_elsewhere x hq), hstate, hx, true_and]
  split
  · rfl
  · rw [← hstate]

/-- R101: the chain of a CHAINING operation ends with one RATE-DONE CANCELLED. -/
theorem State.cancelOperation_chaining {op : Operation} {t : Transaction} {s : State} (hstate : s.evaluator.state = .chaining op)
    (hq : ∀ o ∈ s.evaluator.queue, o.position ≠ op.position) (hs : (s.ctx op.position).state = .inTransaction)
    (ht : (s.ctx op.position).transaction = some t) :
    s.cancelOperation op.position none =
      State.withRateDone op op.slot t .cancelled { s with evaluator := { s.evaluator with state := .idle } } := by
  simp only [State.cancelOperation, List.find?_eq_none.mpr (entryNamed_of_elsewhere none hq), hstate, and_self, if_true]
  exact State.handRateDone_eq (s := s.setEvaluatorState .idle) op.slot .cancelled hs ht

/-! ### The weigh, then the rating (R22) -/

theorem serveCancel_found {p : PositionId} {x : Option Slot} {w : Bool} {s v u : State} (hw : s.cancelWeigh p x = (v, w))
    (hf : v.ratingFound p x = true) (hu : v.cancelOperation p x = u) :
    serveCancel p x s = (u, .taken [boolByte w, 0x01]) := by
  simp only [serveCancel, hw, hf, if_true, hu]
  rfl

theorem serveCancel_notFound {p : PositionId} {x : Option Slot} {w : Bool} {s v : State} (hw : s.cancelWeigh p x = (v, w))
    (hf : v.ratingFound p x = false) : serveCancel p x s = (v, .taken [boolByte w, 0x00]) := by
  simp only [serveCancel, hw, hf, Bool.false_eq_true, if_false]
  rfl

/-- R22: the answer of a CANCEL stands in front of what it sends (log 18). -/
theorem exec_cancel {p : PositionId} {tag b : Byte} {x : Option Slot} {rest : List Frame} {result : List Byte} {s u : State}
    (hwaits : s.requestWaits p ⟨0x0D, tag, [b]⟩ rest) (hst : (s.ctx p).state = .inTransaction) (hread : readCancel [b] = some x)
    (hitem : ∀ k, x = some k → (s.item p k).isSome = true)
    (hserve : serveCancel p x (s.afterRequest p rest []) = (u, .taken result)) :
    exec (.cancel p tag [b]) s = .next { u with sent := responseTo p ⟨0x0D, tag, [b]⟩ (0x00 :: result) :: u.sent } :=
  State.running_request_answered (form := cancelForm) hwaits hread (by rw [hst]; rfl) hitem hserve

theorem isSome_of_named {p : PositionId} {x : Option Slot} {k : Slot} {i : Item} {s : State} (hx : x = none ∨ x = some k)
    (hi : s.item p k = some i) : ∀ m, x = some m → (s.item p m).isSome = true := by
  rintro m rfl
  obtain h | h := hx
  · cases h
  · cases h
    rw [hi]
    rfl

/-- R57: a request has left its port, and the weigh sub-state of a channel is IDLE with the timer stopped. -/
def State.withChannelFreed (s : State) (p : PositionId) (c : ChannelId) (rest : List Frame) : State :=
  (s.afterRequest p rest []).setChannel c (s.channel c).freed

/-- R22: CANCEL ALL with a weigh WAITING and a rating in flight: the weigh ends before the rating is cancelled (log 29). -/
theorem exec_cancel_both {p : PositionId} {tag : Byte} {k : Slot} {c : ChannelId} {rest : List Frame} {t : Transaction} {i : Item}
    {s u : State} (hw : s.itemRequestWaits p ⟨0x0D, tag, [0xFF]⟩ rest k t i) (hi' : i.state = .weighing)
    (hweigh : (s.ctx p).weigh = some k) (hc : (s.channel c).weigh = .waiting p k)
    (hone : ∀ d m, (s.channel d).weigh = .waiting p m → d = c) (hrating : (s.ctx p).rating = true)
    (hu : (State.withWeighEnd p k t i .cancelled 0 (s.withChannelFreed p c rest)).cancelOperation p none = u) :
    exec (.cancel p tag [0xFF]) s =
      .next { u with sent := responseTo p ⟨0x0D, tag, [0xFF]⟩ [0x00, 0x01, 0x01] :: u.sent } := by
  obtain ⟨hwaits, hst, ht, hi⟩ := hw
  refine exec_cancel hwaits hst readCancel_all nofun (serveCancel_found
    (State.cancelWeigh_ends (s := s.afterRequest p rest []) (.inl rfl) hst ht hi hi' hweigh hc hone) ?_ hu)
  rw [State.ratingFound, State.withWeighEnd_ctx]
  exact hrating

/-- Settles O13, by what is in flight at the position. -/
theorem cancelEndsOperations : Obligations.CancelEndsOperations := by
  refine ⟨fun p tag rest s hwaits hst hweigh hrating => ?_, fun p tag k rest t i s hw hweigh hqueued hrating => ?_,
    fun p tag target before behind op rest t i s htarget hw hi' hq hp hbefore hrating => ?_,
    fun p tag target op ev rest t i s htarget hw hi' hev hp hq hrating => ?_,
    fun p tag op rest t s hwaits hst ht hev hp hq hrating hweigh => ?_,
    fun p tag target k c rest t i s htarget hw hi' hweigh hc hone => ?_,
    fun p tag k c rest t i s hw hi' hweigh hc hone hrating => ?_⟩
  · exact exec_cancel hwaits hst readCancel_all nofun
      (serveCancel_notFound (State.cancelWeigh_other (by rw [State.afterRequest_ctx, hweigh]; nofun)) hrating)
  · obtain ⟨hwaits, hst, ht, hi⟩ := hw
    have hitem := (State.item_of_transaction ht k).trans hi
    refine exec_cancel hwaits hst (readCancel_slot k) (isSome_of_named (.inr rfl) hitem)
      (serveCancel_notFound (State.cancelWeigh_other fun w hw => decide_eq_false ?_)
        (State.ratingFound_slot_eq_false (s := s.afterRequest p rest []) hitem ⟨hqueued, hrating⟩))
    rintro rfl
    exact hweigh hw
  · subst hp
    obtain ⟨hwaits, hst, ht, hi⟩ := hw
    obtain ⟨x, hread, hx, hother⟩ := exists_cancelTarget htarget
    have hitem := (State.item_of_transaction ht op.slot).trans hi
    exact exec_cancel hwaits hst hread (isSome_of_named hx hitem)
      (serveCancel_found (State.cancelWeigh_other hother)
        (State.ratingFound_of_named (s := s.afterRequest op.position rest []) hx hitem (.inl hi') hrating)
        (State.cancelOperation_queued (targets_of_named hx) hq hbefore hst ht hi hi'))
  · subst hp
    obtain ⟨hwaits, hst, ht, hi⟩ := hw
    obtain ⟨x, hread, hx, hother⟩ := exists_cancelTarget htarget
    have hitem := (State.item_of_transaction ht op.slot).trans hi
    exact exec_cancel hwaits hst hread (isSome_of_named hx hitem)
      (serveCancel_found (State.cancelWeigh_other hother)
        (State.ratingFound_of_named (s := s.afterRequest op.position rest []) hx hitem (.inr hi') hrating)
        (State.cancelOperation_evaluating (targets_of_named hx) hev hq))
  · subst hp
    exact exec_cancel hwaits hst readCancel_all nofun
      (serveCancel_found (State.cancelWeigh_other (by rw [State.afterRequest_ctx, hweigh]; nofun)) hrating
        (State.cancelOperation_chaining hev hq hst ht))
  · obtain ⟨hwaits, hst, ht, hi⟩ := hw
    have hitem := (State.item_of_transaction ht k).trans hi
    have hends : ∀ {x : Option Slot}, x = none ∨ x = some k → _ := fun hx =>
      State.cancelWeigh_ends (s := s.afterRequest p rest []) hx hst ht hi hi' hweigh hc hone
    obtain ⟨rfl, hrating⟩ | rfl := htarget
    · refine exec_cancel hwaits hst readCancel_all nofun (serveCancel_notFound (hends (.inl rfl)) ?_)
      rw [State.ratingFound, State.withWeighEnd_ctx]
      exact hrating
    · refine exec_cancel hwaits hst (readCancel_slot k) (isSome_of_named (.inr rfl) hitem)
        (serveCancel_notFound (hends (.inr rfl)) (State.ratingFound_slot_eq_false (State.withWeighEnd_item ..) ?_))
      obtain h | h := Item.weighedAs_state .cancelled 0 i <;> simp [h]
  · intro t' weighEnded
    have hended := fun {u : State} => exec_cancel_both (tag := tag) (u := u) hw hi' hweigh hc hone hrating
    obtain ⟨-, hst, ht, hi⟩ := hw
    have hctx := State.withWeighEnd_ctx p k t i .cancelled 0 (s.withChannelFreed p c rest)
    generalize hv : State.withWeighEnd p k t i .cancelled 0 (s.withChannelFreed p c rest) = v at hended hctx
    have hev : v.evaluator = s.evaluator := by rw [← hv]; rfl
    have hsent : { v with sent := responseTo p ⟨0x0D, tag, [0xFF]⟩ [0x00, 0x01, 0x01] :: v.sent } = weighEnded := by
      rw [← hv]; rfl
    have hst' : (v.ctx p).state = .inTransaction := by rw [hctx]; exact hst
    have ht' : (v.ctx p).transaction = some t' := by rw [hctx]
    refine ⟨fun before behind op j hq hp hbefore hj hj' => ?_, fun op hstate hp hq => ?_, fun op ev hstate hp hq => ?_⟩
    · subst hp
      have hne : op.slot ≠ k := by
        intro h
        rw [h, hi] at hj
        cases hj
        cases hi'.symm.trans hj'
      rw [hended (State.cancelOperation_queued rfl (by rw [hev]; exact hq) hbefore hst' ht'
        ((tget_tset_ne _ _ _ _ hne).trans hj) hj'), ← hsent, hev]
      rfl
    · subst hp
      rw [hended (State.cancelOperation_chaining (by rw [hev]; exact hstate) (by rw [hev]; exact hq) hst' ht'), ← hsent, hev]
      rfl
    · subst hp
      rw [hended (State.cancelOperation_evaluating rfl (by rw [hev]; exact hstate) (by rw [hev]; exact hq)), ← hsent, hev]

end Sys2Proof.Machine
end
